-- ==== Sys2Proof/Word.lean ====
section
/-! DEFINITION. The word types of the device and the sparse map in which its large stores are held. Bit vectors are used
for what the manual treats as bits (R3): register words, stored words and their check bits, instruction words. -/

namespace Sys2Proof

abbrev Byte := BitVec 8
/-- A register word: every page register is 32 bits wide (R503). -/
abbrev Word := BitVec 32
/-- A data word of the stall store, of a Depot lane and of a basket (R105, R379, R168). -/
abbrev DWord := BitVec 64
/-- A stored SECDED (72,64) codeword: data in [63:0], check byte in [71:64] (R382, R636). -/
abbrev CodeWord := BitVec 72

/-- A sparse map: keys strictly rising, no entry equal to the value an unlisted key reads as. -/
abbrev KMap (α : Type) := List (Nat × α)

/-- The value at a key; `d` is what an unlisted key reads as. -/
def KMap.get {α : Type} (m : KMap α) (k : Nat) (d : α) : α :=
  match m with
  | [] => d
  | (k', v) :: rest => if k' = k then v else KMap.get rest k d

/-- Put a value at a key and keep the list sorted. -/
def KMap.put {α : Type} (m : KMap α) (k : Nat) (v : α) : KMap α :=
  match m with
  | [] => [(k, v)]
  | (k', v') :: rest =>
    if k < k' then (k, v) :: (k', v') :: rest
    else if k = k' then (k, v) :: rest
    else (k', v') :: KMap.put rest k v

/-- Take a key out. -/
def KMap.del {α : Type} (m : KMap α) (k : Nat) : KMap α :=
  match m with
  | [] => []
  | (k', v') :: rest => if k' = k then KMap.del rest k else (k', v') :: KMap.del rest k

/-- Write `v` at `k`: the default value `d` is never listed, so equal maps are equal lists. -/
def KMap.set {α : Type} [DecidableEq α] (m : KMap α) (k : Nat) (v d : α) : KMap α :=
  if v = d then KMap.del m k else KMap.put m k v

/-- The keys above `k` rise strictly. -/
def KMap.sortedFrom {α : Type} (lo : Nat) : KMap α → Bool
  | [] => true
  | (k, _) :: rest => decide (lo ≤ k) && KMap.sortedFrom (k + 1) rest

/-- The canonical form, for a map whose unlisted keys all read as `d`. -/
def KMap.wf {α : Type} [DecidableEq α] (d : α) (m : KMap α) : Bool :=
  KMap.sortedFrom 0 m && m.all (fun e => decide (e.2 ≠ d))

end Sys2Proof
end

