-- ==== Sys2Proof/Records.lean ====
section
/-! DEFINITION. The records of a rota image as the loader sees them (R304 to R310, R127, R201, R257, R268, R388, R488,
R532). The manual gives the fields and widths of these records and, for most of them, no byte layout; they are therefore
held as records (assumption 6). Where a layout is given (porter descriptors, Aisle records, the Trestle head, the signed
header) the bits themselves are held. A field is a natural number: its limits are checks the loader makes. -/

namespace Sys2Proof

/-- A context record (R127). -/
structure CtxRecord where
  length : Nat
  entry : Nat
  stop : Nat                    -- END
  loopFirst : List Nat          -- k = 0 to 3
  loopLast : List Nat
  loopBound : List Nat
  slotBaskets : Nat             -- 4-bit mask
  fwdSlot : Nat
  fwdLimit : Nat
  fwdArm : Nat
  feed : Nat                    -- 0 to 3, or 7
  lbBase : Nat
  lbSize : Nat
  feedWords : Nat
  fireExpect : Nat
  gInit : List Word             -- g0 to g15
  deriving DecidableEq, Repr

/-- A line-buffer declaration (R268). -/
structure LbDecl where
  nb : Nat
  pwd : Nat
  w : Nat
  tailC : Nat
  y0 : Nat
  ownRows : Nat
  tailR : Nat
  padT : Nat
  padB : Nat
  padL : Nat
  padR : Nat
  padCode : Byte
  rper : Nat
  cper : Nat
  rmask : Nat
  cmask : Nat
  htBsk : Nat
  hbBsk : Nat
  htRows : Nat
  hbRows : Nat
  htN : Nat
  hbN : Nat
  deriving DecidableEq, Repr

/-- A region of a stall's store (R308); `size` is in words (the record holds it less 1). -/
structure Region where
  kind : Nat
  bsk : Nat
  base : Nat
  size : Nat
  deriving DecidableEq, Repr

/-- A STALL record (R308). -/
structure StallRec where
  row : Nat
  col : Nat
  ctxUsed : Nat                 -- 8-bit mask
  seed : Word
  ext : List Nat                -- E of baskets N, E, S, W
  nreg : Nat
  regions : List Region
  rescaleN : List Nat           -- per context
  bodies : List Nat             -- per context
  ctxRecs : List (Nat × CtxRecord)
  lbDecls : List (Nat × LbDecl)
  deriving DecidableEq, Repr

/-- A run of stall store words (section STORE). -/
structure StoreRun where
  row : Nat
  col : Nat
  wa : Nat
  words : List DWord
  deriving DecidableEq, Repr

/-- A PROGRAM record. -/
structure ProgramRec where
  row : Nat
  col : Nat
  ctx : Nat
  code : List Word
  deriving DecidableEq, Repr

/-- A LUT record. -/
structure LutRec where
  row : Nat
  col : Nat
  entries : List Byte
  deriving DecidableEq, Repr

/-- A branch of a route (R201): the hops are 0 N, 1 E, 2 S, 3 W. -/
structure Branch where
  leaveAt : Nat                 -- BR_FROM
  path : List Nat               -- BR_HOPS directions of BR_PATH
  leafDepth : Nat
  deriving DecidableEq, Repr

/-- A ROUTE record (R201). -/
structure Route where
  srcRow : Nat
  srcCol : Nat
  srcOut : Nat
  slots : Nat                   -- 16-bit mask
  branches : List Branch
  deriving DecidableEq, Repr

/-- A sliding-window geometry record (R257). -/
structure Geometry where
  layer : Nat
  form : Nat
  mode : Nat
  hIn : Nat
  wIn : Nat
  cIn : Nat
  cOut : Nat
  kh : Nat
  kw : Nat
  sh : Nat
  sw : Nat
  dh : Nat
  dw : Nat
  pt : Nat
  pb : Nat
  pl : Nat
  pr : Nat
  oph : Nat
  opw : Nat
  hOut : Nat
  wOut : Nat
  gRow : Nat
  gCol : Nat
  deriving DecidableEq, Repr

/-- An EGRESS record (R306): basket, item size in bytes, END-marked packets per slot. -/
structure EgressRec where
  basket : Nat
  item : Nat
  packets : Nat
  deriving DecidableEq, Repr

/-- A PORTER record (R388): the descriptors are held as their 256 bits. -/
structure PorterRec where
  channel : Nat
  descs : List (BitVec 256)
  deriving DecidableEq, Repr

/-- A DEPOT record (R638). -/
structure DepotRec where
  offset : Nat
  data : List Byte
  deriving DecidableEq, Repr

/-- A relocation record (R310). -/
structure RelocRec where
  target : Nat
  chip : Nat
  row : Nat
  col : Nat
  ctx : Nat
  addr : Nat
  lo : Nat
  width : Nat
  shift : Nat
  twin : Bool
  symbol : Nat
  addend : Int
  deriving DecidableEq, Repr

/-- The MARKET record (R307). -/
structure MarketRec where
  family : Nat
  variant : Nat
  chips : Nat                   -- chips in the market, less 1
  master : Nat
  diam : Nat
  rows : Nat
  belInt : Nat
  belFrac : Nat
  slots : Nat
  slack : Nat
  ptpStep : Nat
  lifetime : Nat
  deriving DecidableEq, Repr

/-- The REQUIRE record (R314). -/
structure RequireRec where
  depotBytes : Nat
  sthBytes : Nat
  porters : Nat
  rings : Nat
  pixelRate : Nat
  linkMask : Nat
  trestleCells : Nat
  bankStd : List Nat
  deriving DecidableEq, Repr

/-- A Trestle port record (R532, R541). -/
structure PortRec where
  kind : Nat
  edge : Nat
  seg : Nat
  ctx : Nat
  etype : Nat
  deriving DecidableEq, Repr

/-- The TRESTLE section (R532). -/
structure TrestleSec where
  digest : List Byte
  cells : Nat
  bankStd : List Nat
  ports : List PortRec
  stream : List Byte
  deriving DecidableEq, Repr

/-- The REPORT_ID record (R344). -/
structure ReportId where
  digest : List Byte
  format : Nat
  family : Nat
  variant : Nat
  deriving DecidableEq, Repr

/-- The records of a section (R306). A section of a reserved TYPE has none. -/
inductive SectionBody where
  | market (r : MarketRec)
  | require (r : RequireRec)
  | stall (l : List StallRec)
  | store (l : List StoreRun)
  | program (l : List ProgramRec)
  | lut (l : List LutRec)
  | route (l : List Route)
  | geometry (l : List Geometry)
  | egress (l : List EgressRec)
  | porter (l : List PorterRec)
  | depot (l : List DepotRec)
  | reloc (l : List RelocRec)
  | aisle (l : List (BitVec 128))
  | trestle (t : TrestleSec)
  | reportId (r : ReportId)
  | reserved
  deriving DecidableEq, Repr

/-- A directory entry, as its 16 little-endian bytes (R305), with the records of its section (R306). -/
structure Section where
  entry : BitVec 128
  body : SectionBody
  deriving DecidableEq, Repr

/-- A rota image after its signed header: where the directory starts, the 8-byte word that opens it, and the sections in directory order
(R304). -/
structure Image where
  bytes : Nat                   -- length of the image
  dirAt : Nat                   -- byte offset of the directory, as the header names it
  dirWord : DWord
  sections : List Section
  imageDigest : List Byte       -- IMAGE_DIGEST, R558
  deriving DecidableEq, Repr

/-- A basket word (R168). -/
structure BWord where
  data : DWord
  fin : Bool                    -- END
  spoil : Bool
  gen : BitVec 2
  ctl : Bool
  par : Bool
  deriving DecidableEq, Repr

end Sys2Proof
end

