-- ==== Sys2Proof/Wire.lean ====
section
/-! DEFINITION. What arrives from outside the chip: Ethernet frames, field-segment frames, decoded pictures, Aisle flits and
messages, monitor readings. Protocols that the manual takes from a published standard (Ethernet, IP, UDP, RTP, H.264) are
given by the fields the manual's rules read (assumption 7). -/

namespace Sys2Proof

/-- What the payload of an RTP packet is under its codec's payload format (R437). `key`: it holds slices of a random access point. -/
inductive RtpKind where
  | h264Single (key : Bool)                                 -- RFC 6184: single NAL unit
  | h264StapA (key : Bool)
  | h264FuA (key : Bool)
  | h264Interleaved                                         -- STAP-B, MTAP16, MTAP24, FU-B
  | h265Single (key : Bool) (don : Bool)                    -- RFC 7798; `don`: with DON fields
  | h265Aggregation (key : Bool) (don : Bool)
  | h265Fragment (key : Bool) (don : Bool)
  | h265Paci
  | jpeg (type : Nat) (q : Nat)                             -- RFC 2435
  | other
  deriving DecidableEq, Repr

/-- The RTP part of a UDP packet (R432 to R437). -/
structure RtpPart where
  version : Nat
  payloadType : Nat
  seq : Nat                     -- 16 bits
  timestamp : Word
  ssrc : Word
  marker : Bool
  kind : RtpKind
  payload : List Byte
  deriving DecidableEq, Repr

/-- A UDP packet's fields (R425, R430). -/
structure UdpPart where
  srcAddr : BitVec 128
  dstAddr : BitVec 128
  srcPort : Nat
  dstPort : Nat
  checksumOk : Bool             -- the check of R425 step 4, where it is made
  rtp : Option RtpPart
  deriving DecidableEq, Repr

/-- What a received frame carries (R425). -/
inductive FrameBody where
  | pause
  | ptp                          -- EtherType 0x88F7
  | nonIp
  | ipFragment                   -- an IPv4 fragment
  | ipBadHeader                  -- IPv4 header checksum fails
  | ipOther                      -- IP, not UDP
  | udp (v6 : Bool) (extHeader : Bool) (u : UdpPart)
  deriving DecidableEq, Repr

/-- A received Ethernet frame (R425). -/
structure EthFrame where
  len : Nat                     -- bytes
  fcsOk : Bool
  runt : Bool
  toPort : Bool                 -- unicast address of the port, broadcast or multicast
  vlan : Option Nat
  body : FrameBody
  deriving DecidableEq, Repr

/-- The profiles of R438, and any other. -/
inductive Profile where
  | constrainedBaseline
  | main
  | high
  | main10
  | baselineJpeg                -- baseline sequential DCT, Huffman
  | other
  deriving DecidableEq, Repr

/-- A chroma format. -/
inductive Chroma where
  | c420
  | c422
  | other
  deriving DecidableEq, Repr

/-- What the sequence and picture parameter sets of an access unit, or its JPEG frame header, say (R439). -/
structure ParamSet where
  codec : Nat                   -- as CODEC of R447
  profile : Profile
  level : Nat                   -- ten times the level: 51 is 5.1
  chroma : Chroma
  depth : Nat                   -- bits of a sample
  width : Nat
  height : Nat
  progressive : Bool            -- frame_mbs_only_flag
  deriving DecidableEq, Repr

/-- A decoded picture: three 8-bit or 10-bit planes, row-major (R438 to R440, R444). -/
structure Picture where
  y : List Nat
  cb : List Nat
  cr : List Nat
  vui : Nat                     -- row of R445 that COLOUR 4 takes from the stream
  deriving DecidableEq, Repr

/-- A frame received on a field segment (R455, R457). -/
structure SegFrame where
  dst : BitVec 48
  src : BitVec 48
  etype : Nat
  bytes : List Byte
  deriving DecidableEq, Repr

/-- A control message of an Aisle (R477). The manual gives the payload's fields and not their places in it, so they are held
as numbers (assumption 7). `a`, `b`, `c`: HUSH_START and HUSH_END: bell count [7:0], BEL_CYCLE, HOPS, 1 where the message is made. BELL:
bell count [15:0], round length. UP_READY: kind. UP_HALT: cause. DECIDE: kind, named bell [23:0]. DISCOVER: digest [31:0], accumulated
latency. EQ_REQ: lane, preset. -/
structure AisleMsg where
  type : Nat
  origin : Nat
  number : Nat
  a : Nat
  b : Nat
  c : Nat
  deriving DecidableEq, Repr

/-- What FEC has made of a received flit; its code the manual does not give (R467, assumption 118). -/
inductive Fec where
  | clean
  | corrected
  | failed
  deriving DecidableEq, Repr

/-- A flit as the receiver sees it after FEC: bits [2,111:0] of R467, the CRC among them. -/
structure Flit where
  fec : Fec
  bits : BitVec 2112
  deriving DecidableEq, Repr

/-- Where a lane ends: a basket of a physical stall, or an edge position of the Square (R206). -/
inductive LaneEnd where
  | basket (stall : Nat) (side : Nat)
  | edge (e : Nat)
  deriving DecidableEq, Repr

/-- Who makes a register access: the host through BAR0, or firmware on the Clerk. -/
inductive Agent where
  | host
  | clerk
  deriving DecidableEq, Repr

/-- A page: block type code and number within the type (R500). -/
structure Page where
  block : Nat
  unit : Nat
  deriving DecidableEq, Repr

/-- The straps sampled at reset (R606). -/
structure Straps where
  pullCfg : Bool
  enroll : Bool
  flashMode : BitVec 2
  refclkSel : Bool
  stockForce : Bool
  deriving DecidableEq, Repr

/-- The end of a PMBus transaction (R584). -/
inductive PmbResult where
  | done (bytes : List Byte)
  | nak
  deriving DecidableEq, Repr

/-- The outcome of one unit in a self-test (R590, R591): the failing store rows of a stall as (bank, row), its failing lane wires as (output, wire), or
another failure. -/
structure BistUnit where
  kind : Nat
  index : Nat
  failRows : List (Nat × Nat)
  failWires : List (Nat × Nat)
  otherFail : Bool
  deriving DecidableEq, Repr

/-- How link training ends (R484). -/
inductive TrainResult where
  | up (partner : Nat) (partnerLink : Nat) (rev : Nat) (market : Word) (digest : Word) (rawLatency : Nat) (margins : List Nat)
  | noLock
  | tooLong
  deriving DecidableEq, Repr

/-- A firmware slot or a flash record as the flash holds it: header and body bytes (R554, R555). -/
structure SignedObject where
  header : List Byte
  body : List Byte
  deriving DecidableEq, Repr

/-- What the boot ROM finds (R611): the PUF, the rails, the RPMC and the two firmware slots. -/
structure BootInputs where
  pufOk : Bool
  deviceSecret : List Byte
  railsLow : Bool
  rpmc : Bool                   -- the flash reports RPMC support
  rpmcAuth : Bool               -- its counters pass authentication
  copyOk : Bool × Bool          -- the digest of a slot's copy in Clerk SRAM matches, for A and for B
  slotA : Option SignedObject
  slotB : Option SignedObject
  deriving DecidableEq, Repr

/-- A word the scrubber or the patrol reaches (R398, R404). -/
inductive ScrubLoc where
  | stallWord (stall : Nat) (wa : Nat)
  | depotLane (bank : Nat) (word : Nat) (lane : Nat)
  | clerkWord (addr : Nat)
  | program (stall : Nat) (ctx : Nat) (pc : Nat)
  | lut (stall : Nat) (copy : Nat) (index : Nat)
  | passEnd
  deriving DecidableEq, Repr

end Sys2Proof
end

