-- ==== Sys2Proof/Syntax.lean ====
section
/-! DEFINITION. The commands of the block: one constructor for each row of the table of operations and events, in the
table's order, with the operands the manual's rules give the row. The rule named with each is the row's own. A stall
instruction names only the physical stall whose sequencer issues: the word comes from that stall's program store. -/

namespace Sys2Proof

/-- A command: a register access, an operation of a bus or link, or an event inside the block. -/
inductive Instr where
  /-- REGISTER_WRITE (R9). -/
  | registerWrite (page : Page) (off : Nat) (val : Word)
  /-- RC_COUNTER_READ (R10). -/
  | rcCounterRead (who : Agent) (page : Page) (off : Nat)
  /-- FAULT_BIT_CLEAR (R504). -/
  | faultBitClear (page : Page)
  /-- TWIN_VALUE_WRITE (R11). -/
  | twinValueWrite (page : Page) (off : Nat) (val : Word)
  /-- TWIN_COMPLEMENT_WRITE (R11). -/
  | twinComplementWrite (page : Page) (off : Nat) (val : Word)
  /-- RUN_START (R221). -/
  | runStart
  /-- RUN_STOP (R221). -/
  | runStop
  /-- SW_HUSH (R230). -/
  | swHush (on : Bool)
  /-- BEL_COUNT_LO_READ (R252). -/
  | belCountLoRead (who : Agent)
  /-- BELL (R220). -/
  | bell
  /-- GUARD_DECISION (R70). -/
  | guardDecision
  /-- SLOT_START (R224). -/
  | slotStart (slot : Nat)
  /-- HUSH_REQUEST_START (R230). -/
  | hushRequestStart (src : Nat)
  /-- HUSH_REQUEST_END (R230). -/
  | hushRequestEnd (src : Nat)
  /-- HUSH_ENTER (R231). -/
  | hushEnter
  /-- HUSH_LEAVE (R231). -/
  | hushLeave
  /-- HUSH_TIMEOUT (R233). -/
  | hushTimeout
  /-- BEL_HALT (R249). -/
  | belHalt
  /-- DEADLOCK (R251). -/
  | deadlock
  /-- NOP (R148). -/
  | nop (p : Nat)
  /-- MAC8 (R148). -/
  | mac8 (p : Nat)
  /-- MAC4 (R148). -/
  | mac4 (p : Nat)
  /-- WMAC (R148). -/
  | wmac (p : Nat)
  /-- DWMAC (R148). -/
  | dwmac (p : Nat)
  /-- PMAX (R148). -/
  | pmax (p : Nat)
  /-- WXF (R148). -/
  | wxf (p : Nat)
  /-- WADV (R148). -/
  | wadv (p : Nat)
  /-- PFILL (R148). -/
  | pfill (p : Nat)
  /-- LATCH (R148). -/
  | latch (p : Nat)
  /-- RSC (R148). -/
  | rsc (p : Nat)
  /-- MOV (R148). -/
  | mov (p : Nat)
  /-- LDI (R148). -/
  | ldi (p : Nat)
  /-- ALU (R150). -/
  | alu (p : Nat)
  /-- ADDI (R148). -/
  | addi (p : Nat)
  /-- BR (R151). -/
  | br (p : Nat)
  /-- G8P (R368). -/
  | g8p (p : Nat)
  /-- M8U (R368). -/
  | m8u (p : Nat)
  /-- V8U (R368). -/
  | v8u (p : Nat)
  /-- WUPD (R368). -/
  | wupd (p : Nat)
  /-- GET (R166). -/
  | get (p : Nat)
  /-- PUT (R166). -/
  | put (p : Nat)
  /-- GETT (R166). -/
  | gett (p : Nat)
  /-- DJNZ (R166). -/
  | djnz (p : Nat)
  /-- BRCMP (R166). -/
  | brcmp (p : Nat)
  /-- MASKED_FIRING (R155). -/
  | maskedFiring (p : Nat)
  /-- PLANE_FILL_DONE (R89). -/
  | planeFillDone (p : Nat)
  /-- LATCH_FILL_DONE (R99). -/
  | latchFillDone (p : Nat)
  /-- WINOGRAD_TRANSFORM_DONE (R153). -/
  | winogradTransformDone (p : Nat) (wg : Nat)
  /-- OUTPUT_PUSH (R137). -/
  | outputPush (p : Nat) (d : Nat)
  /-- CONTEXT_SWITCH (R113). -/
  | contextSwitch (p : Nat)
  /-- SLOT_TOKEN (R130). -/
  | slotToken (p : Nat) (b : Nat)
  /-- LIMIT_TOKEN (R157). -/
  | limitToken (p : Nat) (b : Nat)
  /-- ARM_TOKEN (R157). -/
  | armToken (p : Nat) (b : Nat)
  /-- GEN_TOKEN (R323). -/
  | genToken (p : Nat) (b : Nat)
  /-- VOID_TOKEN (R243). -/
  | voidToken (p : Nat) (b : Nat)
  /-- INVALID_TOKEN (R159). -/
  | invalidToken (p : Nat) (b : Nat)
  /-- TOKEN_FORWARD (R162). -/
  | tokenForward (p : Nat)
  /-- DRAIN_POP (R245). -/
  | drainPop (p : Nat)
  /-- LB_FEED_STEP (R270). -/
  | lbFeedStep (p : Nat)
  /-- LANE_ARRIVE (R198). -/
  | laneArrive (dest : LaneEnd)
  /-- CREDIT_RETURN (R175). -/
  | creditReturn (p : Nat) (d : Nat) (line : Nat)
  /-- SPILL_WRITE (R183). -/
  | spillWrite (p : Nat) (b : Nat)
  /-- TAG_WRITE (R183). -/
  | tagWrite (p : Nat) (b : Nat)
  /-- RING_READ (R184). -/
  | ringRead (p : Nat) (b : Nat)
  /-- TAG_READ (R184). -/
  | tagRead (p : Nat) (b : Nat)
  /-- SWAP_ARM (R67). -/
  | swapArm
  /-- SWAP_DISARM (R71). -/
  | swapDisarm
  /-- SWAP_CHECK_DONE (R68). -/
  | swapCheckDone
  /-- WBR_STATS_ACK_REL0 (R80). -/
  | wbrStatsAckRel0
  /-- WBR_STATS_ACK_REL1 (R80). -/
  | wbrStatsAckRel1
  /-- STATS_READY (R82). -/
  | statsReady
  /-- LOAD (R316). -/
  | load
  /-- LOAD_FULL (R316). -/
  | loadFull
  /-- ABORT (R319). -/
  | abort
  /-- LOAD_READY (R320). -/
  | loadReady (img : Image)
  /-- STALL_SWITCH (R325). -/
  | stallSwitch (p : Nat)
  /-- STALL_WRITTEN (R326). -/
  | stallWritten (p : Nat)
  /-- FULL_LOAD_WRITE_DONE (R317). -/
  | fullLoadWriteDone
  /-- LOAD_FAILED (R329). -/
  | loadFailed (ch : Nat)
  /-- PORTER_GO (R421). -/
  | porterGo (ch : Nat)
  /-- DESCRIPTOR_START (R389). -/
  | descriptorStart (ch : Nat)
  /-- DESCRIPTOR_END (R389). -/
  | descriptorEnd (ch : Nat)
  /-- PORTER_MOVE (R387). -/
  | porterMove (ch : Nat)
  /-- LATE_DATA (R391). -/
  | lateData (ch : Nat)
  /-- VERDICT_DELIVER (R248). -/
  | verdictDeliver (ch : Nat)
  /-- PER_BANK_REFRESH (R397). -/
  | perBankRefresh (chan bank : Nat)
  /-- PATROL_READ (R398). -/
  | patrolRead (addr : Nat)
  /-- SCRUB_READ (R405). -/
  | scrubRead (loc : ScrubLoc)
  /-- LEDGER_ENTRY_WRITE (R414). -/
  | ledgerEntryWrite
  /-- LDG_SW_CODE (R423). -/
  | ldgSwCode (code : BitVec 16)
  /-- ETHERNET_FRAME_RECEIVE (R425). -/
  | ethernetFrameReceive (port : Nat) (frame : EthFrame)
  /-- REORDER_TIMEOUT (R434). -/
  | reorderTimeout (stream : Nat)
  /-- DECODE_DONE (R438). -/
  | decodeDone (stream : Nat) (set : ParamSet) (pic : Picture)
  /-- ENGINE_FAULT (R443). -/
  | engineFault (engine : Nat)
  /-- FRAME_COMPLETE (R17). -/
  | frameComplete (stream : Nat)
  /-- FLOW_WRITE (R431). -/
  | flowWrite
  /-- FLOW_READ (R431). -/
  | flowRead
  /-- STREAM_READ (R448). -/
  | streamRead
  /-- STREAM_READ_CLEAR (R448). -/
  | streamReadClear
  /-- ADMIT (R449). -/
  | streamAdmit
  /-- DISMISS (R448). -/
  | dismiss
  /-- STREAM_BUFFERS_RELEASED (R450). -/
  | streamBuffersReleased (stream : Nat)
  /-- NORM_HI_C_WRITE (R451). -/
  | normHiCWrite (val : Word)
  /-- PTP_STEP_NS (R428). -/
  | ptpStepNs (val : Word)
  /-- PTP_TIME_LO_READ (R462). -/
  | ptpTimeLoRead (who : Agent)
  /-- GATE_TDR_START (R459). -/
  | gateTdrStart
  /-- GATE_TDR_DONE (R459). -/
  | gateTdrDone (pairs : List (Nat × Nat))
  /-- LINK_CHANGE (R461). -/
  | linkChange (port : Nat) (up : Bool) (speed : Nat)
  /-- CRIER_FRAME_QUEUE (R453). -/
  | crierFrameQueue (seg : Nat)
  /-- CRIER_TRANSMIT (R454). -/
  | crierTransmit (seg : Nat) (sent : Bool)
  /-- SEGMENT_FRAME_RECEIVE (R455). -/
  | segmentFrameReceive (seg : Nat) (frame : SegFrame)
  /-- PLCA_OPPORTUNITY (R456). -/
  | plcaOpportunity (seg : Nat) (node : Nat)
  /-- DUP_ID (R458). -/
  | dupId (seg : Nat) (node : Nat)
  /-- BEACON_LOST (R452). -/
  | beaconLost (seg : Nat)
  /-- SEGMENT_TDR_START (R460). -/
  | segmentTdrStart (seg : Nat)
  /-- TERM_FAULT (R460). -/
  | termFault (seg : Nat) (term : Nat) (dist : Nat)
  /-- FLIT_RECEIVE (R474). -/
  | flitReceive (link : Nat) (flit : Flit)
  /-- REPLAY_SLOW (R475). -/
  | replaySlow (link : Nat)
  /-- LINK_DOWN (R476). -/
  | linkDown (link : Nat) (reason : Nat)
  /-- LINK_SILENT_TIMEOUT (R476). -/
  | linkSilentTimeout (link : Nat)
  /-- CELL_SEND (R470). -/
  | cellSend (link : Nat) (pos : Nat)
  /-- RECEIVE_QUEUE_DRAIN (R471). -/
  | receiveQueueDrain (chan : Nat)
  /-- HUSH_START (R479). -/
  | hushStart (link : Nat)
  /-- HUSH_END (R479). -/
  | hushEnd (link : Nat)
  /-- BELL_MESSAGE (R481). -/
  | bellMessage (link : Nat)
  /-- UP_READY (R480). -/
  | upReady (link : Nat)
  /-- UP_HALT (R477). -/
  | upHalt (link : Nat)
  /-- DECIDE (R480). -/
  | decideMsg (link : Nat)
  /-- DISCOVER (R485). -/
  | discover (link : Nat)
  /-- EQ_REQ (R477). -/
  | eqReq (link : Nat)
  /-- BELL_MISS (R483). -/
  | bellMiss
  /-- LINK_TRAIN (R484). -/
  | linkTrain (link : Nat)
  /-- LINK_UP (R484). -/
  | linkUp (link : Nat) (res : TrainResult)
  /-- BAR0_ACCESS (R497). -/
  | bar0Access (off : Nat) (size : Nat) (write : Bool) (val : Word)
  /-- BAR2_READ (R498). -/
  | bar2Read (off : Nat) (n : Nat)
  /-- BAR2_WRITE (R498). -/
  | bar2Write (off : Nat) (bytes : List Byte) (poisoned : Bool)
  /-- WIN_SEL_WRITE (R501). -/
  | winSelWrite (val : Word)
  /-- DOORBELL_WRITE (R517). -/
  | doorbellWrite (off : Nat) (val : Word)
  /-- PARKED_DOORBELLS_APPLY (R509). -/
  | parkedDoorbellsApply
  /-- RING_WRITE (R511). -/
  | ringWrite
  /-- RING_ENABLE (R511). -/
  | ringEnable
  /-- RING_DISABLE (R511). -/
  | ringDisable
  /-- RING_COALESCE_TIMEOUT (R518). -/
  | ringCoalesceTimeout (ring : Nat)
  /-- HOST_RESET (R499). -/
  | hostReset (kind : Nat)
  /-- HRB_BUSY_BEGIN (R507). -/
  | hrbBusyBegin
  /-- HRB_BUSY_END (R507). -/
  | hrbBusyEnd
  /-- ATTENTION_PULSE (R508). -/
  | attentionPulse
  /-- TRESTLE_STREAM_WRITTEN (R536). -/
  | trestleStreamWritten
  /-- CONFIG_DONE (R536). -/
  | configDone
  /-- GSR_FORCE (R533). -/
  | gsrForce (on : Bool)
  /-- USER_IRQ (R531). -/
  | userIrq (line : Nat)
  /-- BANK_VCCIO_SAMPLE (R539). -/
  | bankVccioSample (bank : Nat) (reading : Byte)
  /-- BANK_RELEASE (R540). -/
  | bankRelease (banks : BitVec 6)
  /-- TRESTLE_PORT_WORD (R541). -/
  | trestlePortWord (tp : Nat) (word : Option BWord)
  /-- CRIER_TX_FRAME (R546). -/
  | crierTxFrame (tp : Nat) (words : List BWord)
  /-- VERIFY (R557). -/
  | verify (obj : SignedObject)
  /-- REPORT (R570). -/
  | report
  /-- ENROLL (R561). -/
  | enroll
  /-- RELEASE (R562). -/
  | release
  /-- COMMIT_SVN (R565). -/
  | commitSvn (target : Bool)
  /-- RESIGNED (R568). -/
  | resigned
  /-- RAIL_SAMPLE (R574). -/
  | railSample (rail : Nat) (reading : BitVec 10)
  /-- DROOP_DETECT (R576). -/
  | droopDetect (rail : Nat)
  /-- DROOP_RECOVER (R576). -/
  | droopRecover (rail : Nat)
  /-- DROOP_LONG (R576). -/
  | droopLong (rail : Nat)
  /-- THERMAL_SAMPLE (R578). -/
  | thermalSample (temps : List Int)
  /-- THROTTLE_PERIOD_START (R581). -/
  | throttlePeriodStart
  /-- THROTTLE_REQUEST_END (R581). -/
  | throttleRequestEnd
  /-- PMB_SEND_BYTE (R584). -/
  | pmbSendByte (addr : BitVec 7) (code : Byte) (pec : Bool)
  /-- PMB_WRITE_BYTE (R584). -/
  | pmbWriteByte (addr : BitVec 7) (code : Byte) (pec : Bool)
  /-- PMB_WRITE_WORD (R584). -/
  | pmbWriteWord (addr : BitVec 7) (code : Byte) (pec : Bool)
  /-- PMB_READ_BYTE (R584). -/
  | pmbReadByte (addr : BitVec 7) (code : Byte) (pec : Bool)
  /-- PMB_READ_WORD (R584). -/
  | pmbReadWord (addr : BitVec 7) (code : Byte) (pec : Bool)
  /-- PMB_BLOCK_READ (R584). -/
  | pmbBlockRead (addr : BitVec 7) (code : Byte) (pec : Bool) (len : Nat)
  /-- PMB_DONE (R584). -/
  | pmbDone (res : PmbResult)
  /-- PMB_ALERT (R584). -/
  | pmbAlert
  /-- POLL (R585). -/
  | poll (words : List (List (BitVec 16)))
  /-- BIST (R590). -/
  | bist (scope : BitVec 4)
  /-- BIST_DONE (R591). -/
  | bistDone (units : List BistUnit)
  /-- ADD (R592). -/
  | add
  /-- DROP (R592). -/
  | drop
  /-- WEAR_COUNT (R588). -/
  | wearCount (osc : Nat) (count : BitVec 16)
  /-- RESERVE_RELOAD (R595). -/
  | reserveReload
  /-- RESERVE_RECORD_WRITE (R594). -/
  | reserveRecordWrite (ok : Bool)
  /-- POWER_ON_RESET (R607). -/
  | powerOnReset
  /-- PERST_ASSERT (R607). -/
  | perstAssert
  /-- PERST_RELEASE (R606). -/
  | perstRelease (straps : Straps)
  /-- PLL_LOCK_BOOT (R611). -/
  | pllLockBoot (inp : BootInputs)
  /-- SUPPLY_HOLD (R605). -/
  | supplyHold
  /-- BOOT_FIRMWARE_START (R612). -/
  | bootFirmwareStart (owner : Option SignedObject) (reserve : Option SignedObject)
  /-- STOREHOUSE_TRAINED (R612). -/
  | storehouseTrained (gib : Nat)
  /-- PREP_DONE (R613). -/
  | prepDone
  /-- WDOG_KICK (R609). -/
  | wdogKick (key : BitVec 16)
  /-- WATCHDOG_EXPIRE (R609). -/
  | watchdogExpire
  /-- STOCK_MODE_START (R614). -/
  | stockModeStart
  /-- DHCP_FALLBACK (R615). -/
  | dhcpFallback
  /-- STOCK_ADMIT (R616). -/
  | stockAdmit (stream : Nat) (pt : Nat)
  /-- STOCK_STREAM_IDLE (R616). -/
  | stockStreamIdle (stream : Nat)
  /-- JTAG_UPDATE_IR (R634). -/
  | jtagUpdateIr (code : Byte)
  /-- TAP_RESET (R632). -/
  | tapReset
  /-- BELL_ZERO_AT_GRID (R226). -/
  | bellZeroAtGrid
  /-- ETHERNET_FRAME_TRANSMIT (R429). -/
  | ethernetFrameTransmit (port : Nat) (bytes : List Byte) (ptpEvent : Bool)
  /-- PCIE_LINK (R526). -/
  | pcieLink (speed : Nat) (width : Nat)
  /-- STOREHOUSE_DERATE (R397). -/
  | storehouseDerate (on : Bool)
  /-- LANE_LOSES_LOCK (R592). -/
  | laneLosesLock (link : Nat) (lane : Nat)
  /-- CAPTURE_IR (R632). -/
  | captureIr
  deriving DecidableEq, Repr

end Sys2Proof
end

