-- ==== Sys2Proof/Decode.lean ====
section
/-! DEFINITION. The words that spell a command. No row of the table of operations and events gives its command any bits: a command reaches the
device as an access, a message or an event, never as a word. -/

namespace Sys2Proof

/-- The command that a word spells by the table's bits: none, because no row of the table gives bits. -/
def decodeTableWord (_nbits _w : Nat) : Option Instr := none

end Sys2Proof
end

