-- ==== Sys2Proof/Config.lean ====
section
/-! DEFINITION. What the manual leaves open and what it takes from a published standard without stating it. Every constant
here is opaque: no proof can see a value of it, so a statement that mentions one holds for every value. -/

namespace Sys2Proof

/-- A value the manual leaves open. The argument is the device's counter of such values, which the step that reads one
advances (assumption 3). -/
opaque Config.freeValue : Nat → DWord

/-- The check column of data bit `i` in the SECDED (39,32) code of the Clerk SRAM, which the manual does not state (R378, assumption 50). -/
opaque Config.clerkCol : Nat → BitVec 7

/-- SHA-512 of a byte string (R551, R555): a published function the manual names and does not state (assumption 4). -/
opaque Config.sha512 : List Byte → List Byte

/-- ECDSA on P-521 with SHA-512 (R551): does the signature verify under the public key for the digest? (assumption 4) -/
opaque Config.ecdsaVerifies : List Byte → List Byte → List Byte → Bool

/-- An ECDSA signature of a digest under a derived private scalar (R553); the first argument numbers the signature
(assumption 4). -/
opaque Config.ecdsaSign : Nat → Nat → List Byte → List Byte

/-- The P-521 public key of a derived private scalar (R553), 133 bytes (assumption 4). -/
opaque Config.publicKey : Nat → List Byte

/-- HMAC-SHA-512 (R553) (assumption 4). -/
opaque Config.hmacSha512 : List Byte → List Byte → List Byte

/-- The order of the P-521 group (R553) (assumption 4). -/
opaque Config.groupOrder : Nat

/-- The ordering grade in the device record: true for -E (R569) (assumption 4). -/
opaque Config.gradeE : Bool

/-- The Melrimas root public key that the boot ROM holds (R551) (assumption 4). -/
opaque Config.rootKey : List Byte

/-- The body of the stock image in the boot ROM, which stock mode measures and runs (R614) (assumption 5). -/
opaque Config.stockImage : List Byte

/-- What the stock image computes for a stream in a slot: MOVERS, OCCUPIED, MOTION and LIGHT, a byte each (R617). The
manual states the ranges and not the computation; arguments: bell, stream (assumption 5). -/
opaque Config.stockCounts : Nat → Nat → BitVec 32

/-- Where the stock image keeps the frame buffers of a stream, in units of 4 KiB (R616): the manual does not state it (assumption 5). -/
opaque Config.stockBuffer : Nat → BitVec 28

/-- The reason byte of an UNSUPPORTED event (R439), whose numbers the manual does not state; argument: what does not match, 0 codec, 1 profile, 2 level,
3 chroma format, 4 bit depth, 5 coded size, 6 field coding (assumption 125). -/
opaque Config.unsupportedReason : Nat → Nat

/-- The MAC address of Ethernet port 2 (R619), which no rule gives (assumption 5). -/
opaque Config.macPort2 : BitVec 48

/-- What boundary-scan shifts, which the manual gives no step of the device, have left in the boundary register (R633, assumption 126). -/
opaque Config.scanned : Nat → BitVec 2734

end Sys2Proof
end

