-- ==== Sys2Proof/Machine/Bits.lean ====
section
/-! DEFINITION. Bit fields, signed values, rounding, saturation, and the SECDED (72,64) code of the stored words. -/

namespace Sys2Proof.Machine

/-- Field of `n` bits at `lo` (R3). -/
def fld (v lo n : Nat) : Nat := v / 2 ^ lo % 2 ^ n

/-- Bit `i` of a value. -/
def tb (v i : Nat) : Bool := decide (v / 2 ^ i % 2 = 1)

/-- `v` with the `n`-bit field at `lo` replaced. -/
def putFld (v lo n x : Nat) : Nat := v - fld v lo n * 2 ^ lo + x % 2 ^ n * 2 ^ lo

/-- A Boolean as a bit. -/
def b2n (b : Bool) : Nat := if b then 1 else 0

/-- The two's complement reading of an `n`-bit field. -/
def sx (n v : Nat) : Int :=
  if v % 2 ^ n < 2 ^ (n - 1) then (v % 2 ^ n : Nat) else ((v % 2 ^ n : Nat) : Int) - (2 ^ n : Nat)

/-- A signed value as its `n`-bit pattern. -/
def wrapN (n : Nat) (x : Int) : Nat := (x % (2 ^ n : Nat)).toNat

/-- Nearest integer to `a / b`; a tie goes to the even integer. `b` is positive. -/
def rheDiv (a b : Int) : Int :=
  let f := a / b
  let r := a - f * b
  if 2 * r < b then f else if b < 2 * r then f + 1 else if f % 2 = 0 then f else f + 1

/-- Nearest integer to `x / 2^n`; a tie goes to the even integer (R32, step 3). -/
def rhe (x : Int) (n : Nat) : Int := rheDiv x (2 ^ n : Nat)

/-- Clamp to a range. -/
def clampI (lo hi x : Int) : Int := if x < lo then lo else if hi < x then hi else x

/-- Saturating addition of a count. -/
def satAdd (cap a n : Nat) : Nat := if cap < a + n then cap else a + n

/-- The byte of a word at byte lane `i`. -/
def byteOf {w : Nat} (d : BitVec w) (i : Nat) : Byte := (d >>> (8 * i)).setWidth 8

/-- Replace byte lane `i` of a data word. -/
def setByte (d : DWord) (i : Nat) (b : Byte) : DWord :=
  (d &&& ~~~(0xFF#64 <<< (8 * i))) ||| (b.setWidth 64 <<< (8 * i))

/-- The bytes of a data word, lane 0 first. -/
def bytesOf (d : DWord) : List Byte := (List.range 8).map (byteOf d)

/-- A data word from up to 8 bytes, lane 0 first. -/
def wordOf : List Byte → DWord
  | [] => 0
  | b :: rest => (wordOf rest <<< 8) ||| b.setWidth 64

/-- Little-endian value of a byte string. -/
def leNat : List Byte → Nat
  | [] => 0
  | b :: rest => b.toNat + 256 * leNat rest

/-- `n` little-endian bytes of a value. -/
def leBytes (n v : Nat) : List Byte := (List.range n).map (fun i => BitVec.ofNat 8 (v / 256 ^ i))

/-- A list cut or zero-filled to `n` bytes. -/
def padTo (n : Nat) (l : List Byte) : List Byte := l.take n ++ List.replicate (n - l.length) 0

/-- Parity of the low `w` bits of a value. -/
def parityOf (w v : Nat) : Bool := (List.range w).foldl (fun p i => p != tb v i) false

/-- Change entry `i` of a list; out of range, nothing changes. -/
def upd {α : Type} (l : List α) (i : Nat) (f : α → α) : List α := l.modify i f

/-- Add to a set held as a list without repeats. -/
def insertNew {α : Type} [DecidableEq α] (x : α) (l : List α) : List α := if x ∈ l then l else l ++ [x]

/-- Drop from a set held as a list. -/
def dropAll {α : Type} [DecidableEq α] (x : α) (l : List α) : List α := l.filter (fun y => y ≠ x)

/-- Position of a value in a list. -/
def findPos (x : Nat) (l : List Nat) : Option Nat := l.findIdx? (fun y => decide (y = x))

/-! ### SECDED (72,64) -/

/-- The columns of the check matrix for data bits 0 to 63 (R636). -/
def secdedCols : List Nat :=
  [0x07, 0x0B, 0x0D, 0x0E, 0x13, 0x15, 0x16, 0x19, 0x1A, 0x1C, 0x23, 0x25, 0x26, 0x29, 0x2A, 0x2C] ++
  [0x31, 0x32, 0x34, 0x38, 0x43, 0x45, 0x46, 0x49, 0x4A, 0x4C, 0x51, 0x52, 0x54, 0x58, 0x61, 0x62] ++
  [0x64, 0x68, 0x70, 0x83, 0x85, 0x86, 0x89, 0x8A, 0x8C, 0x91, 0x92, 0x94, 0x98, 0xA1, 0xA2, 0xA4] ++
  [0xA8, 0xB0, 0xC1, 0xC2, 0xC4, 0xC8, 0xD0, 0xE0, 0x1F, 0x2F, 0x37, 0x3B, 0x3D, 0x3E, 0x4F, 0x57]

/-- Check byte of a data word: the XOR of the columns of its set bits (R636). -/
def checkByte (d : DWord) : Byte :=
  (secdedCols.zipIdx).foldl (fun acc ci => if d.getLsbD ci.2 then acc ^^^ BitVec.ofNat 8 ci.1 else acc) 0

/-- The stored form of a word; a spoiled word has its check byte inverted (R383). -/
def encodeWord (d : DWord) (spoil : Bool) : CodeWord :=
  (if spoil then checkByte d ^^^ 0xFF#8 else checkByte d) ++ d

/-- How a read of a stored word comes out (R382). -/
structure ReadOut where
  data : DWord
  spoil : Bool
  ce : Bool
  ue : Bool
  bit : Nat                      -- the corrected bit of the codeword, when `ce`
  deriving DecidableEq, Repr

/-- The read rule of R382 and R383. -/
def decodeWord (c : CodeWord) : ReadOut :=
  let d : DWord := c.setWidth 64
  let syn := ((c >>> 64).setWidth 8 : Byte) ^^^ checkByte d
  if syn = 0 then ⟨d, false, false, false, 0⟩
  else if syn = 0xFF then ⟨d, true, false, false, 0⟩
  else match findPos syn.toNat secdedCols with
    | some i => ⟨d ^^^ (1#64 <<< i), false, true, false, i⟩
    | none =>
      match findPos syn.toNat [1, 2, 4, 8, 16, 32, 64, 128] with
      | some j => ⟨d, false, true, false, 64 + j⟩
      | none => ⟨d, true, false, true, 0⟩

end Sys2Proof.Machine

namespace Sys2Proof

open Sys2Proof.Machine

/-! ### The directory of an image -/

/-- The fields of a directory entry (R305). -/
def Section.type (s : Section) : Nat := fld s.entry.toNat 0 16
def Section.chip (s : Section) : Nat := fld s.entry.toNat 16 16
def Section.offset (s : Section) : Nat := fld s.entry.toNat 32 32
def Section.length (s : Section) : Nat := fld s.entry.toNat 64 32
def Section.count (s : Section) : Nat := fld s.entry.toNat 96 32

/-- FORMAT and the entry count of the directory word (R304). -/
def Image.format (i : Image) : Nat := fld i.dirWord.toNat 0 16
def Image.entries (i : Image) : Nat := fld i.dirWord.toNat 16 16

end Sys2Proof
end

