-- ==== Sys2Proof/Machine/State.lean ====
section
/-! DEFINITION. The state of the device: plain data, every field at its reset value by default. Software-visible registers live
in ONE place, the map `Device.regs`, by page and offset; what they read as at reset is `regReset` of Machine/RegMap.lean. The
parts below hold what the manual gives the device beyond its registers. -/

namespace Sys2Proof.Machine

/-- Why a step stops. -/
inductive Fault where
  /-- The command names a unit that the manual does not give the device (a stall page of 6,400 or more, a page that R500
  does not list, an address beyond a BAR). Raised by `State.act`. Safe: the hardware has no such command. -/
  | noSuchUnit
  deriving DecidableEq, Repr

/-- Why a step has no meaning. -/
inductive Refusal where
  /-- The row has no meaning in the model. Raised only by an arm of exec. Safe. -/
  | notModelled (mnemonic : String)
  deriving DecidableEq, Repr

/-- The last completion returned to whoever read the device (R9, R497, R498). -/
structure Reply where
  value : Nat := 0
  bytes : List Byte := []
  poisoned : Bool := false
  deriving DecidableEq, Repr

/-- What leaves the chip. -/
inductive Output where
  | msix (vector : Nat)                                   -- R506, R518
  | hostWrite (addr : Nat) (bytes : List Byte)            -- R515: one aligned 64-byte write
  | ethFrame (port : Nat) (bytes : List Byte)             -- R429
  | datagram (port srcPort dstPort ttl dst : Nat) (bytes : List Byte)   -- R618: a UDP datagram
  | ptpStamp (port : Nat) (ns : Nat)                      -- R429: the stamp returned to the Clerk
  | joinGroup (port : Nat) (group : Nat)                  -- R615: an IGMP join of 239.255.77.0 + group
  | dhcpDiscover                                          -- R615
  | segFrame (seg : Nat) (bytes : List Byte)              -- R453, R454
  | tdrPulse (port : Nat)                                 -- R459: 2 is Ethernet port 2; 4 + seg a field segment
  | flit (link : Nat) (bits : BitVec 2112)                -- R467, before FEC: one a cycle on each link that is up
  | train (link : Nat)                                    -- R484
  | equaliser (link : Nat) (lane : Nat) (preset : Nat)    -- R487
  | hrb (high : Bool)                                     -- R507, R508
  | pmbus (addr : Nat) (code : Nat) (kind : Nat) (pec : Bool) (data : List Byte)   -- R584
  | thermtrip (low : Bool)                                -- R582
  | userWord (tp : Nat) (w : BWord)                       -- R541: a word taken by user logic
  | flashWrite (offset : Nat) (bytes : List Byte)         -- R561, R594
  deriving DecidableEq, Repr

/-! ### The stall -/

/-- A word of a basket with the cycle it entered; it counts at the head from the next cycle (R135, R172). -/
structure Held where
  w : BWord
  at_ : Nat
  old : Bool := false            -- in the basket before, in its spill queue or its ring (R189)
  deriving DecidableEq, Repr

/-- A basket: register chain, spill queue, extension ring (R171 to R188). -/
structure Basket where
  chain : List Held := []
  spill : List Held := []
  ext : Nat := 0                 -- E
  base : Nat := 0                -- B
  ringHead : Nat := 0            -- next ring entry to read
  ringCount : Nat := 0
  ringEnds : List Bool := []     -- of each word of the ring, head first: END = 1 and CTL = 0 (R189)
  tagAcc : List Byte := []       -- tags of the group being written (R183, R186)
  tagDue : Option Nat := none    -- group whose tag word is to be written
  tagNow : List Byte := []       -- tags of the head's group, once read (R184)
  depth0 : Nat := 0              -- depth at the start of the cycle (R193)
  refilled : Bool := false       -- a read of the ring or of a tag word has been granted in this cycle (R184)
  wrote : Bool := false          -- a data write of the ring has been granted in this cycle (R183)
  popped : Bool := false         -- the head has left in this cycle; the next word is at the head in the next (R158, R172)
  deriving DecidableEq, Repr

/-- A weight plane (R88 to R91). -/
structure Plane where
  bytes : List Byte := []
  bad : List Nat := []           -- bytes whose parity fails
  spoil : Bool := false
  deriving DecidableEq, Repr

/-- A plane fill that has been issued and has not ended (R149). -/
structure PlaneFill where
  plane : Nat
  ctx : Nat
  trans : Bool
  bad : Bool                     -- T5: through a spoiled pointer (R167)
  at_ : Nat                      -- cycle of issue: the fill begins in the next (R149)
  todo : List Nat                -- store words still to be read, eight to a cycle (R88)
  got : List (DWord × Bool)      -- what has been read, with its spoil
  deriving DecidableEq, Repr

/-- A latch fill that has been issued and has not ended (R149). -/
structure LatchFill where
  ctx : Nat
  first : Nat
  count : Nat
  bad : Bool
  at_ : Nat                      -- cycle of issue
  todo : List Nat                -- store words still to be read: entries of the slot's set, then biases (R41, R641)
  got : List (DWord × Bool)
  deriving DecidableEq, Repr

/-- A latch channel (R640): one entry or a leaky pair, with its bias. -/
structure LatchCh where
  chan : Nat                     -- its output channel: the number of its first entry
  m : Nat
  n : Nat
  act : Nat
  lo : Int
  hi : Int
  leak : Nat
  bias : Int
  spoil : Bool
  deriving DecidableEq, Repr

/-- A word in an output queue; it may leave from cycle `ready` (R137). -/
structure OutWord where
  w : BWord
  ready : Nat
  deriving DecidableEq, Repr

/-- A result write on its way to the stall store, all its words in one cycle (R138, R141). -/
structure StoreWrite where
  due : Nat
  words : List (Nat × DWord × Bool)      -- address, data, spoil
  adapt : Bool := false                  -- of an adaptation operation (R370)
  deriving DecidableEq, Repr

/-- What a read of the store after the issue cycle is for (R148, R369). -/
inductive ReadOp where
  | wxf (buf : Nat) (bad : Bool)
  | wadv (words : Nat) (bad : Bool)
  | moment (second : Bool) (shift : Nat) (rs : List Nat) (dst : List Nat)     -- M8U, and V8U when `second`
  | wupd (g10 g11 : Word) (rs : List Nat) (dst : List Nat)
  deriving DecidableEq, Repr

/-- A read of the store that goes on after the issue cycle: the words of each cycle, as number and address, and what has been read. -/
structure ReadJob where
  due : Nat                      -- the first cycle in which it asks
  ctx : Nat
  op : ReadOp
  todo : List (List (Nat × Nat))
  got : KMap (DWord × Bool)
  deriving DecidableEq, Repr

/-- What a stage of the pipeline does after the issue cycle (R103). -/
inductive Stage where
  | wrap                                           -- ACC_WRAP (R30)
  | close (base size : Nat)                        -- the group is closed (R97)
  | sat (n : Nat)                                  -- saturations of the rescale unit (R42)
  | lut (ctx copy index : Nat)                     -- a look-up that failed parity (R102)
  | tap (ctx chan : Nat) (q : Int)                 -- an output of the stall (R45)
  deriving DecidableEq, Repr

/-- The contents that an accumulator has until its sums are written (R103, R152). -/
structure AccLag where
  due : Nat                      -- the cycle in which the new contents are written
  acc : Nat
  old : Word
  spoil : Bool
  deriving DecidableEq, Repr

/-- Spare words and trackers of one memory (R407, R408). -/
structure Track where
  addr : Nat
  count : Nat
  pass : Nat
  deriving DecidableEq, Repr

/-- A remap entry (R408): the twin word of R411 (word address in [16:0], PENDING in bit 30, ACTIVE in bit 31) and the spare
word it names. -/
structure Remap where
  word : Word
  comp : Word
  spare : Nat
  deriving DecidableEq, Repr

/-- What a context owns beyond its registers (R112, R127 to R133, R240 to R247). -/
structure Ctx where
  used : Bool := false
  rec_ : Option CtxRecord := none
  lb : Option LbDecl := none
  limits : List Nat := [0, 0, 0, 0]
  arm : Nat := 0
  limitsWas : Option (List Nat) := none   -- the limits and the ARM value that instructions of this cycle still see (R161)
  armWas : Option Nat := none
  gen : BitVec 2 := 0
  inBody : Bool := false
  slot : Nat := 0
  calSet : Bool := false
  joined : List Nat := []          -- baskets that have given their token
  joinPayload : Word := 0
  joinVoid : Bool := false
  genJoined : List Nat := []
  genDone : Bool := false
  owed : Nat := 0
  fired : Nat := 0                 -- firings of the current body
  draining : List Nat := []        -- baskets still being drained
  drainSlot : Nat := 0
  drainFrom : Nat := 0             -- first cycle of the draining (R245)
  lateAt : Option Nat := none      -- the cycle of the bell that found it late; it issues nothing in it (R240)
  began : Option Nat := none       -- slot of the last body begun (R415)
  fed : Nat := 0                   -- F, R143
  feeding : Bool := false          -- the feed works for the body last begun (R271)
  feedStep : Nat := 0              -- steps of R269 made in this body
  spoilPushes : Bool := false      -- R167
  drew : Bool := false             -- a drawing operation issued in this body (R377)
  ends : KMap Nat := []            -- by slot, since it was last issued: 1 its body was voided, 2 it completed (R375)
  rescaleN : Nat := 0
  bodies : Nat := 0
  gSpoil : List Nat := []          -- T5: registers whose spoil bit is set (R167)
  deriving DecidableEq, Repr

/-- A forwarded token copy that waits for room (R162). -/
structure Forward where
  payload : Word
  gen : BitVec 2
  lanes : List Nat
  from_ : Nat                    -- first cycle in which it may be placed: behind the words reserved up to the token's cycle (R137)
  deriving DecidableEq, Repr

/-- A physical stall, beyond its registers, its store and its program (R87). -/
structure Stall where
  ctxs : List Ctx := []
  cur : Nat := 0                   -- current context
  switchTo : Option Nat := none    -- requested context (R113)
  noIssue : Option Nat := none     -- cycle in which no other instruction issues: one has issued or waited, or a switch (R113, R134)
  faulted : Bool := false          -- closed by R164 or R211
  faulting : Bool := false         -- a fault of this cycle closes it from the next (R164)
  parityClosed : Bool := false     -- closed by R111
  parityCount : Nat := 0           -- PROG_PARITY since the last full load (R592)
  gen : BitVec 2 := 0
  setBase : List Nat := [0, 0]     -- rescale set regions A, B (first word), R41
  setWords : Nat := 0
  regions : List Region := []
  planes : KMap Plane := []
  planeFills : List PlaneFill := []
  latch : List LatchCh := []
  latchFills : List LatchFill := []
  planeAt : Option (Nat × Nat) := none    -- cycle in which a plane fill last ended, and its plane: locked up to that cycle (R89)
  latchAt : Option Nat := none            -- cycle in which a latch fill last ended (R100)
  rescaleUntil : Nat := 0          -- last cycle of a pending rescale (R148)
  accs : KMap Word := []
  accSpoil : KMap Bool := []
  openGroups : List (Nat × Nat) := []     -- (first accumulator, size)
  accLag : List AccLag := []              -- sums on their way, oldest first (R103)
  stages : List (Nat × Stage) := []       -- what the pipeline still does, with its cycle, in issue order (R103)
  wgReads : KMap (Option (Nat × Bool)) := []   -- Winograd groups: last cycle c + 17 in which the output transform reads their sums, and whether it is done (R153)
  window : KMap Byte := []                -- 16 × position + channel
  winSpoil : List Nat := []               -- spoiled positions
  winReady : Nat := 0
  banks : List Nat := []                  -- banks of the store taken in this cycle (R106)
  tb : KMap (BitVec 10) := []             -- 256 × buffer + 16 × position + channel
  tbSpoil : List Nat := []
  tbReady : List Nat := [0, 0]
  reads : List ReadJob := []              -- reads after the issue cycle, in issue order (R106, R148, R369)
  landing : List StoreWrite := []
  outq : List (List OutWord) := [[], [], [], []]
  pushed : List Nat := []                 -- lane outputs that have pushed in this cycle (R137, R195)
  operandHalf : Bool := false             -- one of two operand words that share a bank has been read (R106)
  fedAt : Option Nat := none              -- cycle of the last step of the feed (R270)
  endedAt : Option Nat := none            -- cycle in which a body last ended; its context waits at ENTRY from the next (R132)
  baskets : List Basket := [{}, {}, {}, {}]
  forward : List Forward := []            -- copies that wait for room, oldest first
  tokAt : Option Nat := none              -- cycle in which the token unit last took a token (R158)
  lutBad : List (Nat × Nat) := []         -- (copy, index) whose parity fails (R102)
  branchTo : Option Nat := none           -- T5: target of a taken branch (R166)
  tracks : List Track := []
  remaps : List Remap := []
  switched : Bool := false                -- R325
  waitIn : Bool := false                  -- R124: waited in the last cycle
  waitAt : Option Nat := none             -- the MCLK cycle of that wait
  waitOn : Nat := 0                       -- the basket it waited on (R251)
  waitOut : Bool := false
  deriving DecidableEq, Repr

/-! ### The arcade and the edges -/

/-- A word on a lane (R195, R198): it arrives in cycle `due`. -/
structure Flight where
  dest : LaneEnd
  due : Nat
  w : BWord
  dlv : Bool
  deriving DecidableEq, Repr

/-- Who feeds a leaf basket (R174, R390, R471, R541). -/
inductive Producer where
  | lane (p : Nat) (d : Nat) (line : Nat)
  | porter (e : Nat)
  | aisle (chan : Nat)
  | trestle (tp : Nat)
  deriving DecidableEq, Repr

/-- A leaf of a route: where it ends, who feeds it, and the pass-through hops between (R175). -/
structure Leaf where
  dest : LaneEnd
  prod : Producer
  hops : Nat
  cap : Nat
  line : Nat := 0                -- its credit line on the last link (R200)
  deriving DecidableEq, Repr

/-- A pop credit on its way (R175, R200). -/
structure CreditFlight where
  due : Nat
  prod : Producer
  deriving DecidableEq, Repr

/-- A packed word of an egress basket (R207 to R209). -/
structure PWord where
  data : DWord
  vb : Nat                       -- valid bytes, 1 to 8
  fin : Bool
  spoil : Bool
  ctl : Bool
  gen : BitVec 2
  items : Nat
  at_ : Nat := 0                 -- the cycle in which it closed (R189)
  deriving DecidableEq, Repr

/-- An egress basket (R207). -/
structure Egress where
  enabled : Bool := false
  item : Nat := 1
  packets : Nat := 0
  packed : List PWord := []
  part : Option PWord := none    -- the word being assembled
  staging : List PWord := []     -- payload words that the porter has gathered for the oldest slot owed (R390)
  got : Nat := 0                 -- END-marked packets among them
  oversize : Bool := false       -- R522
  depth0 : Nat := 0              -- depth at the start of the cycle (R193)
  deriving DecidableEq, Repr

structure Arcade where
  lanes : List Flight := []
  credits : List CreditFlight := []
  credited : List Producer := []         -- credit lines that have brought a credit in this cycle (R200)
  wheel : Nat := 0               -- R202
  leaves : List Leaf := []
  edgeFree : KMap Nat := []      -- FREE of edge producers, by edge position
  edgeTokens : KMap (List (Nat × BWord)) := []   -- SLOT tokens that go before a slot's data, by edge position: 512 × bell + slot, token
  edgeGens : KMap (List BWord) := []     -- GEN tokens, which go behind the old data (R325)
  egress : KMap Egress := []
  rows : Nat := 64               -- ROWS of the running image (R206)
  deriving DecidableEq, Repr

/-! ### The bell -/

/-- A frame picked for a stream at a bell (R19 to R21). -/
structure Pick where
  stream : Nat
  buffer : Nat
  ts : Nat
  rtp : Word
  norm : Bool
  again : Bool                   -- REPEAT
  none_ : Bool                   -- NO_FRAME
  deriving DecidableEq, Repr

/-- A slot issued, or due and not issued, whose verdict on one egress basket is still to be delivered (R248, R523). -/
structure Due where
  slot : Nat
  stream : Nat
  bell : Nat
  egress : Nat
  seq : Nat
  gen : BitVec 2
  cal : Bool
  pick : Option Pick
  cause : Option Nat             -- flag bit of the void's cause: 2 LATE, 3 HALT, 4 LOAD, 5 NO_FRAME, 11 OVERSIZE
  chan : Nat                     -- the egress porter, its descriptor's DSP, DADDR and LENGTH
  dsp : Nat
  daddr : Nat
  limit : Nat
  packets : Nat                  -- END-marked packets that make the verdict complete
  deriving DecidableEq, Repr

structure Bell where
  int : Nat := 6666666           -- the committed pair (R218)
  frac : Nat := 0xAAAB
  acc : Nat := 0
  count : Nat := 0               -- 64-bit bell count
  everRung : Bool := false
  waiting : Bool := false        -- RUN is 1 and bell 0 has not rung
  slots : Nat := 512             -- S in force (R223)
  prevLen : Nat := 0             -- length of the previous round
  step : Int := 0
  reqs : List Nat := []          -- sources that hold a request
  ignored : List Nat := []       -- sources ignored since a timeout (R233)
  delay : List (List Nat) := [[], [], []]   -- the sources that asked 1, 2 and 3 cycles ago (R231)
  firedNow : Bool := false       -- a stall has fired in this cycle (R251)
  grid : Option Int := none      -- m of the grid time that bell 0 waits for (R226)
  hushed : Bool := false
  hushRun : Nat := 0             -- cycles in a row that sources 0 to 5 of this chip have hushed (R233)
  issued : Nat := 0              -- slots of this round whose start cycle has come (R223)
  halting : Bool := false        -- a halt cause has been reported
  decided : List (Nat × Nat) := []   -- kind (0 swap, 1 load bell, 2 completion bell, 3 halt) and the bell named (R477)
  firstChecked : Nat := 2        -- R237
  suspended : Bool := false      -- R237: an overlapped load suspends the check
  dl : Nat := 0                  -- deadlock count
  deferred : List Nat := []      -- slots whose start was hushed (R224)
  picks : List Pick := []
  picksWas : List Pick := []     -- of the previous bell
  owing : List Due := []
  seqs : KMap Nat := []          -- SEQ by 512 × egress + stream (R520)
  gaps : List Nat := []          -- streams and egress baskets with a void or dropped SEQ
  loadMark : List Nat := []      -- streams whose first verdict after a load has been delivered
  loadRounds : Nat := 0
  ptpLocked : Bool := false
  times : List Nat := []         -- PTP times of the last two bells, the latest first
  deriving DecidableEq, Repr

/-! ### Aisles -/

structure OutChan where
  link : Nat
  porter : Bool
  edge : Nat
  cells : List (Nat × Nat)           -- (cell position, wheel entry)
  queue : List BWord := []
  credit : Nat := 128
  deriving DecidableEq, Repr

structure InChan where
  link : Nat
  depot : Bool
  edge : Nat
  cells : List (Nat × Nat)
  queue : List BWord := []
  owed : Nat := 0
  dbase : Nat := 0
  dsize : Nat := 0
  wptr : Nat := 0
  deriving DecidableEq, Repr

structure Link where
  txSeq : Nat := 0
  unacked : List (Nat × BitVec 2112) := []   -- replay buffer: sequence numbers and flits
  resend : List (BitVec 2112) := []          -- flits still to be sent before a new one leaves at once (R474)
  txCells : KMap (Option BWord) := []        -- cells of this cycle's flit, by position
  txCred : List Nat := []                    -- positions whose CRED bit it carries
  ctl : List AisleMsg := []                  -- control queue, oldest first (R478)
  partnerDigest : Word := 0                  -- identity digest that training exchanged (R484)
  rxSeq : Nat := 0                   -- next flit expected
  badNow : Bool := false             -- discarding until the expected flit
  badSince : Nat := 0
  slow : Bool := false
  nakSeq : Option Nat := none
  nakCount : Nat := 0
  lastFlit : Nat := 0
  inbox : List AisleMsg := []
  eq : KMap Nat := []                -- active equaliser setting by lane
  shadow : KMap (Nat × Nat) := []    -- shadow setting and its margin by lane
  preset : List (Nat × Nat) := []    -- EQ_REQ presets for the next bell
  lostLanes : List Nat := []
  down : Bool := false               -- gone down, or failed its training, since it last trained (R476)
  deriving DecidableEq, Repr

/-- A hush request of another chip (R232, R479): its stamp on this chip's clock, and the cycles it hushes here. -/
structure RemoteHush where
  origin : Nat
  stamp : Int
  from_ : Nat
  to_ : Option Nat
  deriving DecidableEq, Repr

structure Aisles where
  index : Nat := 0                         -- CHIP_INDEX as of the last training (R493)
  market : Word := 0                       -- MARKET_ID as of the last training (R493)
  laneMaps : List Nat := [7, 7, 7, 7, 7, 7, 7, 7]   -- LANE_MAP as of the last training, by link (R486)
  links : List Link := [{}, {}, {}, {}, {}, {}, {}, {}]
  outs : KMap (Option OutChan) := []
  ins : KMap (Option InChan) := []
  seen : List (Nat × Nat × Nat) := []      -- flooded messages already forwarded: origin, type, number
  digests : List (Nat × Nat) := []         -- DISCOVER: chip index, digest
  upSeen : List (Nat × Nat) := []          -- UP_READY: kind, link
  msgNo : Nat := 0
  bellSeen : Bool := false                 -- the BELL of this round has arrived
  missed : Bool := false                   -- R483
  remote : List RemoteHush := []           -- hush requests of other chips
  lats : List (Nat × Nat × Nat) := []      -- DISCOVER: link, origin, accumulated latency
  deriving DecidableEq, Repr

/-! ### The loader -/

structure Loader where
  staged : Option Image := none      -- the relocated staged copy
  running : Option Image := none
  full : Bool := false
  kindWas : Bool := false            -- KIND before the LOAD, for a load that is refused or stopped (R315, R319)
  newGen : BitVec 2 := 0
  gen : BitVec 2 := 0
  everLoaded : Bool := false
  waitPrep : Option Bool := none     -- a LOAD before PREP_DONE (R613); true: FULL
  ready : Bool := false              -- LOAD_READY sent
  loaded : Bool := false             -- LOADED sent
  switched : List Nat := []
  written : List Nat := []
  wroteAll : Bool := false           -- all but the configuration stream is written (R536)
  reload : Bool := false             -- a Reserve reload (R595)
  loadBell : Nat := 0
  reserveDue : Bool := false         -- Reserve maps to be written to flash (R594)
  bind : List DWord := []            -- the measured symbol table (R560)
  bindRun : List DWord := []         -- that of the running image
  trained : List Nat := []           -- links that have trained for this load (R484)
  linksWas : Option (KMap Word × Aisles) := none   -- AIS registers and Aisles before that, for a refusal (R315)
  deriving DecidableEq, Repr

/-! ### The Weighbridge -/

/-- An open statistics window (R47 to R50). -/
structure Window where
  openBell : Nat
  rounds : Nat
  stats : Bool
  norm : Bool
  mixed : Bool
  taps : List (Word × Word)          -- TAP_LOC, TAP_CHAN as the window opened with them
  mags : KMap Nat := []              -- 256 × tap + channel offset: maximum magnitude plus 1, 0 when no output
  hist : KMap Nat := []              -- 16 × tap + bin
  pix : KMap (Nat × Nat) := []       -- 3 × stream + channel: (minimum, maximum + 1), (0, 0) when none
  deriving DecidableEq, Repr

structure Wbr where
  window : Option Window := none
  roundsLeft : Nat := 0
  closed : Option Window := none     -- a window handed over to the record writer
  closedAt : Nat := 0                -- STATUS bits as the window closed: bit 0 ACTIVE_SET, bit 1 NORM_SET, bit 2 PROPOSE_EN
  closedT : Nat := 0                 -- WBR_TARGET as the window closed (R51)
  swapAge : Option Nat := none       -- bells since the last swap bell (R49)
  deriving DecidableEq, Repr

/-! ### Memories, porters and the Ledger -/

structure Depot where
  mem : KMap CodeWord := []          -- by (bank × 2^17 + word) × 8 + lane, physical banks 0 to 16
  spares : KMap CodeWord := []       -- spare words: (bank × 32 + spare) × 8 + lane
  tracks : KMap (List Track) := []   -- by physical bank
  remaps : KMap (List Remap) := []
  hits : KMap (List Nat) := []       -- by physical bank: the passes of its last corrections (R589)
  deriving DecidableEq, Repr

structure Storehouse where
  mem : KMap CodeWord := []          -- by usable byte address ÷ 8
  postponed : KMap Nat := []         -- by DRAM bank (R397)
  collideAt : Option Nat := none     -- the cycle in which a collision last asked for the hush (R397)
  patrolHits : Nat := 0              -- corrections of the patrol period under way (R589)
  patrolLast : Nat := 0              -- the last address the patrol visited
  deriving DecidableEq, Repr

/-- A slot that a rota channel is to work or works: its number, the unhushed cycle of its start, its bell (R224, R389). -/
structure SlotRun where
  slot : Nat
  at_ : Nat
  bell : Nat
  deriving DecidableEq, Repr

/-- A porter channel beyond its registers (R387 to R391, R399 to R403). PROG_PC is the current descriptor. -/
structure Chan where
  rota : Bool := false
  descs : List (BitVec 256) := []    -- rota program, or a free channel's current descriptor
  run : Option SlotRun := none       -- the slot being worked
  due : List SlotRun := []           -- slots begun and waiting, oldest first
  moved : Nat := 0                   -- bytes taken from the source by the current descriptor
  emitted : Nat := 0                 -- words given to the destination
  emit : List (DWord × Bool) := []   -- words on their way to the destination, with their spoil marks
  words : List (DWord × Bool) := []  -- codec: words of the block being gathered
  tags : List Byte := []             -- codec: tags of the group being gathered
  pays : List DWord := []            -- codec: its payload words
  movedAt : Option Nat := none       -- the MCLK cycle of its last move: one a cycle (R387)
  deriving DecidableEq, Repr

/-- A Ledger entry (R413). -/
structure LdgEntry where
  at_ : Nat                          -- the MCLK cycle of the event, which orders the entries (R414)
  bell : Nat
  cycle : Nat
  code : Nat
  page : Word
  where_ : Word
  detail : DWord
  deriving DecidableEq, Repr

structure Ledger where
  waiting : List LdgEntry := []      -- events whose entry has not reached the Depot, oldest first
  deriving DecidableEq, Repr

structure Scrubber where
  stallHits : KMap (List Nat) := []  -- by stall: the passes of its store's last corrections (R589)
  deriving DecidableEq, Repr

/-! ### The Gate and the Crier -/

/-- A frame buffer of a stream (R17, R22, R64). -/
structure FrameBuf where
  complete : Bool := false
  at_ : Nat := 0                     -- the MCLK cycle in which it became complete (R19, R217)
  ts : Nat := 0
  rtp : Word := 0
  norm : Bool := false
  order : Nat := 0                   -- age: larger is newer
  deriving DecidableEq, Repr

/-- An access unit (R435). -/
structure AccessUnit where
  rtp : Word
  ts : Nat
  lost : Option Nat                  -- the first lost sequence number
  rap : Bool
  order : Nat := 0                   -- its number in the order of completion (R442)
  deriving DecidableEq, Repr

/-- A held RTP packet (R433). -/
structure HeldPkt where
  seq : Nat
  at_ : Nat
  ns : Nat
  rtp : RtpPart
  deriving DecidableEq, Repr

/-- A stream record with what the Gate keeps for it (R433 to R450). -/
structure Stream where
  data : List Word := []             -- STREAM_DATA[0] to [6]
  skipped : Nat := 0
  normSat : Nat := 0
  lostPkt : Nat := 0
  latePkt : Nat := 0
  dupPkt : Nat := 0
  badPkt : Nat := 0
  discFrames : Nat := 0
  state : Nat := 0
  next : Option Nat := none          -- NEXT
  held : List HeldPkt := []
  unit_ : Option AccessUnit := none  -- the unit being assembled
  lostFrom : Option Nat := none      -- first packet lost since the last release
  waitRap : Bool := false            -- discarding up to a random access point
  units : List AccessUnit := []      -- waiting for the engine
  mismatch : Option Nat := none      -- R439
  scaling : Option (Nat × List Byte × FrameBuf) := none   -- buffer, contents, tags: written at FRAME_COMPLETE
  pixRange : List (Nat × Nat) := []  -- (minimum, maximum) of the frame being scaled, by channel
  satNow : Nat := 0
  bufs : List FrameBuf := [{}, {}, {}]
  order : Nat := 0
  picked : Option Nat := none
  pickTs : Option Pick := none
  reading : Bool := false            -- the picked buffer's reads have not ended
  newFrames : Nat := 0               -- frames that have become complete since the last pickup
  leaving : Bool := false            -- dismissed, before the bell that takes effect (R450)
  since : Option Nat := none         -- cycle of its admission: packets are accepted from the next (R448)
  countedAt : Option Nat := none     -- cycle of the last event that its counters count
  counted : List Nat := []           -- the seven counters as they were before that cycle's events, then those events (R10, R448)
  stock : Bool := false
  deriving DecidableEq, Repr

structure Gate where
  flow : KMap (List Word) := []      -- 2,048 entries of FLOW_DATA
  flowWas : Option (KMap (List Word)) := none   -- the table before this cycle's FLOW_CMD WRITE: lookups of the cycle use it (R431)
  unitsDone : Nat := 0               -- access units completed, which numbers them (R442)
  streams : KMap Stream := []
  norm : KMap (DWord × DWord) := []  -- 2,048 × set + 4 × stream + channel: value, complement
  clerkQueue : List (Nat × Nat × EthFrame) := []   -- port, stamp (R429), frame
  segQueue : List (Nat × SegFrame) := []
  queueFullLogged : Bool := false    -- R427: one event per bell
  ptpNs : Nat := 0
  ptpFrac : Nat := 0
  badEngines : List Nat := []
  tdr : Bool := false
  stopped : Bool := false            -- decoder engines stopped by a thermal trip
  linkLocal : Bool := false          -- port 2 uses an RFC 3927 address (R615)
  deriving DecidableEq, Repr

/-- A queued field-segment frame (R453, R454). -/
structure TxFrame where
  bytes : List Byte
  stream : Nat
  deriving DecidableEq, Repr

/-- A verdict handed to the Crier, or a Trestle frame (R453, R546). -/
inductive Handover where
  | verdict (seg : Nat) (dest : Nat) (stream slot flags : Nat) (bell ts : Nat) (rtp : Word) (payload : List Byte)
  | frame (seg : Nat) (bytes : List Byte)
  deriving DecidableEq, Repr

structure Segment where
  queue : List TxFrame := []
  tdr : Bool := false
  strangerIds : List Nat := []
  strangerMacs : List (BitVec 48) := []
  fellBack : Bool := false           -- R452: CSMA/CD since the beacon was lost
  deriving DecidableEq, Repr

structure Crier where
  segs : List Segment := [{}, {}, {}, {}]
  handed : List Handover := []
  deriving DecidableEq, Repr

/-! ### Host interface -/

/-- A host ring (R510 to R518). -/
structure Ring where
  addr : Nat := 0
  size : Nat := 0
  vector : Nat := 0
  coalCnt : Nat := 0
  coalUs : Nat := 0
  enabled : Bool := false
  pi : Nat := 0
  ci : Nat := 0
  ciWas : Nat := 0                   -- CI before the doorbells of cycle ciAt (R516)
  ciAt : Option Nat := none
  unsignalled : Nat := 0
  firstAt : Nat := 0                 -- the MCLK cycle of the first verdict not yet signalled (R518)
  drops : Nat := 0
  dropLogged : Bool := false
  parked : Option Word := none
  deriving DecidableEq, Repr

structure HostIf where
  rings : KMap Ring := []
  msix : KMap Word := []             -- MSI-X table, by dword; an unlisted entry is as reset leaves it
  pba : List Nat := []               -- vectors whose message is held pending by its mask
  lastSum : Word := 0                -- SUM_TYPE as last judged (R506)
  sumSeen : Word := 0                -- its bits that have been judged 1 in this cycle (R10, R506)
  hrbHigh : Bool := false
  attn : Bool := false               -- an attention pulse is due (R508)
  pulse : Nat := 0                   -- cycles left of an attention pulse
  busyAt : Nat := 0                  -- the MCLK cycle in which HRB last went low for busy (R507)
  highFor : Nat := 0                 -- cycles since HRB last went high, to 800
  deriving DecidableEq, Repr

/-! ### Trestle, Warden, Steward, Reserve -/

structure TPort where
  kind : Nat := 0
  edge : Nat := 0
  seg : Nat := 0
  ctx : Nat := 0
  etype : Nat := 0
  words : List BWord := []
  free : Nat := 0
  deriving DecidableEq, Repr

structure Trestle where
  running : Option TrestleSec := none
  ports : List TPort := []
  held : Bool := true                -- the set-reset net is asserted by reset or a reconfiguration
  reconfiguring : Bool := false
  written : Bool := false            -- the configuration stream has been written
  outs : List Nat := [0, 0, 0, 0, 0, 0]   -- consecutive samples outside the band, by bank
  movedNow : List Nat := []          -- ports that have passed a word in this cycle: one a cycle (R541)
  doneDue : Bool := false            -- a configuration has completed and CONFIG_DONE is still to be raised (R536)
  deriving DecidableEq, Repr

/-- An enrolled owner (R561). -/
structure Owner where
  pub : List Byte
  allow : Bool
  floors : List Nat
  deriving DecidableEq, Repr

structure Warden where
  secret : List Byte := []           -- DS
  owner : Option Owner := none
  counters : List Nat := [0, 0, 0, 0]      -- RPMC, in the flash
  rpmcOk : Bool := true
  fwSvn : Nat := 0
  imgSvn : Nat := 0
  stagedSvn : Nat := 0
  stagedOk : Bool := false           -- the staged image has passed the seven checks
  stagedDigest : List Byte := []     -- IMAGE_DIGEST of the object that passed
  fwDigest : List Byte := []
  report : List Byte := []           -- the last report
  reportDue : Bool := false          -- a REPORT waits (R570)
  resignDue : Bool := false          -- a re-signing runs
  signs : Nat := 0                   -- signatures made
  deriving DecidableEq, Repr

structure Rail where
  outs : Nat := 0                    -- consecutive readings out of limits
  since : Nat := 0                   -- cycle the request began
  due : Bool := false                -- below DROOP in this cycle: the request begins with the next (R576)
  requesting : Bool := false
  blocked : Bool := false            -- R576: no request until 64 good cycles
  goodSince : Option Nat := none
  deriving DecidableEq, Repr

/-- A PMBus transaction in progress (R584). -/
structure Pmb where
  len : Nat := 0                     -- data bytes that a read returns
  addr : Nat := 0
  code : Nat := 0
  deriving DecidableEq, Repr

structure Steward where
  rails : List Rail := []
  below : Nat := 0                   -- consecutive samples below the falling threshold (R580)
  level : Nat := 0                   -- level in force for the throttle periods
  periodAt : Nat := 0                -- the MCLK cycle in which the throttle period began
  critDue : Bool := false            -- level 3 and a trip (sensor, reading) act in the cycle after their sample (R580)
  tripDue : Option (Nat × Nat) := none
  budget : Nat := 0                  -- cycles requested this round (R581)
  throttling : Bool := false
  spent : Bool := false              -- level 1 has reached THR_BUDGET this round
  pmb : Pmb := {}
  deriving DecidableEq, Repr

/-- A candidate for a spare, in RSV_UNIT form (R592). -/
structure Cand where
  kind : Nat
  index : Nat
  deriving DecidableEq, Repr

structure Reserve where
  mapped : Bool := false             -- a load has put the retirement masks in force (R119)
  comps : KMap Word := []            -- complements of the map words, by offset on the RSV page (R119, R381, R411, R593)
  pendComps : KMap Word := []        -- those of the pending entries: 0 decoders, 1 Depot, 2 + link lanes
  cands : List Cand := []
  pendDec : List Nat := []           -- decoder engines to retire
  pendDep : Option Nat := none       -- Depot bank to replace
  pendLane : KMap Nat := []          -- by link: data lane plus 1
  pendRows : List (Nat × Nat × Nat) := []   -- row repairs: page, bank, row
  actRows : List (Nat × Nat × Nat) := []
  pendWires : List (Nat × Nat × Nat) := []  -- wires to be steered: page, lane output, wire 0 to 71 (R196, R586)
  baselines : KMap Nat := []         -- by oscillator: baseline plus 1
  newBase : Bool := false            -- one of them is new since the last full load, whose record is to hold it (R588)
  baseDue : Bool := false            -- the record of that load is still to be written
  cut : List Cand := []              -- units whose entries the record in the flash had no room for (R596)
  bistUnits : List (Nat × Nat) := [] -- units under test
  bistOscs : List Nat := []          -- oscillators whose units the test covers
  bistLost : Bool := false           -- a test has lost the contents of a unit in use (R591)
  recordSvn : Nat := 0
  deriving DecidableEq, Repr

/-! ### Boot and boundary scan -/

structure Boot where
  held : Bool := true                -- PERST# is low, or a pin-taking JTAG instruction holds the reset
  perstHigh : Bool := false
  booting : Bool := true             -- cause BOOT
  romDone : Bool := false            -- MCLK runs and the boot ROM has run
  firmware : Bool := false           -- boot firmware runs
  zeroed : Bool := false
  sthZeroed : Bool := false
  wdog : Nat := 0                    -- milliseconds counted
  wdogCycles : Nat := 0
  tripped : Bool := false
  stockDue : Bool := false           -- the boot ROM is to run stock mode (R614)
  pinStraps : Straps := ⟨false, false, 0, false, false⟩   -- levels at the strap balls when PERST# rose
  deriving DecidableEq, Repr

structure Jtag where
  boundary : BitVec 2734 := 0        -- the boundary register (R633)
  pins : Option (BitVec 2734) := none    -- what it drives on its balls while an instruction in force takes pins; none also under HIGHZ
  ir : Byte := 0x02                  -- the instruction in force: IDCODE after TAP reset
  replaced : Bool := false
  shift : Byte := 0x01               -- the instruction register as Capture-IR loads it
  deriving DecidableEq, Repr

/-- The device without its queue of waiting commands. -/
structure Device where
  now : Nat := 0                                 -- MCLK cycles since reset
  work : Nat := 0                                -- of these, cycles that were not hushed: the clock of the Square (R104, R205)
  regs : KMap Word := []                         -- registers by page and offset
  twins : KMap (Option Word) := []               -- pending holders of twin registers (R11); none: the effective value
  fresh : KMap (Nat × Nat) := []                 -- R10: by register, its value before this cycle's events, and the events
  newFaults : List (Nat × Nat × Word × Word) := []   -- R348, R504: faults of this cycle: page, code, where, when
  frees : Nat := 0                               -- the model's own counter of free values
  reply : Reply := {}
  outbox : List Output := []                     -- latest first
  stalls : KMap Stall := []                      -- by physical page number
  store : KMap CodeWord := []                    -- stall stores: 8,192 × page + WA
  storeSpare : KMap CodeWord := []               -- their spare words: 8 × page + spare
  prog : KMap (BitVec 33) := []                  -- program stores: (8 × page + ctx) × 256 + pc, parity in bit 32
  arcade : Arcade := {}
  bell : Bell := {}
  loader : Loader := {}
  wbr : Wbr := {}
  depot : Depot := {}
  sth : Storehouse := {}
  clerk : KMap (BitVec 39) := []                 -- Clerk SRAM words (R378): [31:0] the data, [38:32] by how much the check bits differ from theirs
  chans : KMap Chan := []
  ledger : Ledger := {}
  scrub : Scrubber := {}
  gate : Gate := {}
  crier : Crier := {}
  aisles : Aisles := {}
  host : HostIf := {}
  trestle : Trestle := {}
  warden : Warden := {}
  steward : Steward := {}
  reserve : Reserve := {}
  boot : Boot := {}
  jtag : Jtag := {}
  deriving DecidableEq, Repr

/-- The state: the device and the commands that are waiting, first in, first out. -/
structure State where
  pending : List Instr
  dev : Device
  deriving DecidableEq, Repr

/-- The machine right after a power-on reset: PERST# is still low (R604, R607), every register at its reset value and no
command waiting. -/
def State.reset : State := { pending := [], dev := {} }

end Sys2Proof.Machine
end

