-- ==== Sys2Proof/Machine/RegMap.lean ====
section
/-! DEFINITION. The register map: for each page and offset the access code (R9), the listed bits and the reset value, from the
register tables of the manual. A register whose value follows other state has its listed bits here and its value in
Machine/Registers.lean. -/

namespace Sys2Proof.Machine

/-! ### Block type codes (R500) -/

abbrev DIR : Nat := 0x00
abbrev STL : Nat := 0x01
abbrev BSK : Nat := 0x02
abbrev ARC : Nat := 0x03
abbrev BEL : Nat := 0x04
abbrev GAT : Nat := 0x05
abbrev CRI : Nat := 0x06
abbrev DEP : Nat := 0x07
abbrev STH : Nat := 0x08
abbrev PRT : Nat := 0x09
abbrev AIS : Nat := 0x0A
abbrev WBR : Nat := 0x0B
abbrev LDG : Nat := 0x0C
abbrev CLK : Nat := 0x0D
abbrev WRD : Nat := 0x0E
abbrev STW : Nat := 0x0F
abbrev RSV : Nat := 0x10
abbrev TRS : Nat := 0x11
abbrev HST : Nat := 0x12

/-- Access codes (R9); `closed` is the stall page's RW while closed (R122). -/
inductive Access where
  | none_ | ro | rw | w1c | wo | tw | rc | closed
  deriving DecidableEq, Repr

/-- A register: access code, listed bits, reset value. -/
structure RegSpec where
  acc : Access
  mask : Nat
  reset : Nat
  deriving DecidableEq, Repr

/-- The mask of a list of fields [hi:lo]. -/
def bitsOf : List (Nat × Nat) → Nat
  | [] => 0
  | (hi, lo) :: rest => (2 ^ (hi + 1) - 2 ^ lo) + bitsOf rest

/-- All 32 bits. -/
def w32 : Nat := 0xFFFFFFFF

/-- An offset that no register occupies (R8). -/
def noReg : RegSpec := ⟨.none_, 0, 0⟩

/-- `off` is entry `i < n` of an array of registers. -/
def inArr (off base stride n : Nat) : Bool :=
  decide (base ≤ off) && decide (off < base + stride * n) && decide ((off - base) % stride = 0)

/-- The entry of an array of registers. -/
def arrIx (off base stride : Nat) : Nat := (off - base) / stride

/-- Stall page (R122 to R126). -/
def stlSpec (off : Nat) : RegSpec :=
  if off = 0x008 then ⟨.tw, bitsOf [(1, 0)], 1⟩
  else if off = 0x010 then ⟨.ro, bitsOf [(10, 0), (31, 19)], 0⟩
  else if off = 0x014 then ⟨.w1c, bitsOf [(7, 0)], 0⟩
  else if off = 0x030 then ⟨.rc, bitsOf [(15, 0)], 0⟩
  else if off = 0x034 then ⟨.rc, bitsOf [(15, 0)], 0⟩
  else if off = 0x038 then ⟨.rc, w32, 0⟩
  else if off = 0x03C then ⟨.rc, w32, 0⟩
  else if off = 0x100 then ⟨.closed, w32, 1⟩
  else if off = 0x104 then ⟨.rc, w32, 0⟩
  else if inArr off 0x180 4 24 then ⟨.ro, w32, 0⟩
  else if inArr off 0x1E0 4 8 then ⟨.ro, bitsOf [(7, 0)], 0⟩
  else if inArr off 0x200 4 128 then ⟨.closed, w32, 0⟩
  else if inArr off 0x400 4 32 then ⟨.closed, bitsOf [(15, 0)], 0⟩
  else if inArr off 0x500 4 64 then ⟨.closed, w32, 0⟩
  else noReg

/-- Basket page; pages 6,400 and on are egress pages (R213). -/
def bskSpec (unit off : Nat) : RegSpec :=
  if off = 0x014 then ⟨.w1c, bitsOf [(8, 0)], 0⟩
  else if off = 0x180 then (if 6400 ≤ unit then ⟨.ro, bitsOf [(1, 0), (4, 4)], 0⟩ else noReg)
  else if 0x100 ≤ off ∧ off < 0x180 ∧ (unit < 6400 ∨ off < 0x120) then
    match off % 0x20 with
    | 0x00 => ⟨.ro, bitsOf [(11, 0), (27, 16)], 0⟩
    | 0x04 => ⟨.ro, bitsOf [(11, 0), (28, 16)], if 6400 ≤ unit then 16 else 8⟩
    | 0x08 => ⟨.rw, bitsOf [(11, 0)], 0⟩
    | 0x0C => ⟨.rc, bitsOf [(7, 0)], 0⟩
    | 0x10 => ⟨.rc, bitsOf [(15, 0)], 0⟩
    | 0x14 => ⟨.rc, bitsOf [(2, 0)], 0⟩
    | _ => noReg
  else noReg

/-- Arcade page (R215). -/
def arcSpec (off : Nat) : RegSpec :=
  if off = 0x010 then ⟨.ro, bitsOf [(3, 0)], 0⟩
  else if off = 0x014 then ⟨.w1c, bitsOf [(31, 31)], 0⟩
  else if inArr off 0x180 8 4 then ⟨.tw, bitsOf [(24, 0)], 31 * 0x108421⟩
  else if inArr off 0x1A0 4 16 then ⟨.ro, bitsOf [(11, 0)], 0⟩
  else if inArr off 0x1E0 4 4 then ⟨.ro, bitsOf [(11, 0)], 0⟩
  else if 0x100 ≤ off ∧ off < 0x180 then
    match off % 0x20 with
    | 0x00 => ⟨.tw, w32, 0⟩
    | 0x08 => ⟨.tw, w32, 0⟩
    | 0x10 => ⟨.tw, bitsOf [(19, 0)], 0⟩
    | 0x18 => ⟨.tw, bitsOf [(3, 0)], 0⟩
    | _ => noReg
  else noReg

/-- Bell page (R252 to R254). -/
def belSpec (off : Nat) : RegSpec :=
  if off = 0x008 then ⟨.tw, bitsOf [(4, 0)], 0x10⟩
  else if off = 0x010 then ⟨.ro, bitsOf [(5, 0)], 0⟩
  else if off = 0x014 then ⟨.w1c, bitsOf [(9, 0), (31, 31)], 0⟩
  else if inArr off 0x030 4 4 then ⟨.rc, bitsOf [(15, 0)], 0⟩
  else if off = 0x100 then ⟨.tw, bitsOf [(23, 0)], 6666666⟩
  else if off = 0x108 then ⟨.tw, bitsOf [(15, 0)], 0xAAAB⟩
  else if off = 0x110 then ⟨.tw, bitsOf [(9, 0)], 512⟩
  else if off = 0x118 then ⟨.tw, w32, 0⟩
  else if off = 0x120 then ⟨.ro, w32, 0⟩
  else if off = 0x124 then ⟨.ro, w32, 0⟩
  else if inArr off 0x128 4 4 then ⟨.ro, bitsOf [(23, 0)], 0⟩
  else if off = 0x138 then ⟨.rw, bitsOf [(23, 0)], 16384⟩
  else if off = 0x13C then ⟨.ro, bitsOf [(7, 0)], 0⟩
  else if off = 0x140 then ⟨.rw, bitsOf [(23, 0)], 65536⟩
  else if off = 0x144 then ⟨.ro, bitsOf [(0, 0), (11, 9), (31, 19)], 0⟩
  else if off = 0x148 then ⟨.rw, bitsOf [(7, 0)], 16⟩
  else if off = 0x14C then ⟨.ro, w32, 0⟩
  else if off = 0x150 then ⟨.rw, w32, 0⟩
  else if off = 0x154 then ⟨.rw, w32, 0⟩
  else if off = 0x158 then ⟨.wo, bitsOf [(0, 0)], 0⟩
  else if inArr off 0x180 4 8 then ⟨.rc, w32, 0⟩
  else noReg

/-- Gate page (R430, R447, R451, R462, R463). -/
def gatSpec (off : Nat) : RegSpec :=
  if off = 0x008 then ⟨.tw, bitsOf [(6, 0)], 2 * 8 + 2 * 32⟩
  else if off = 0x010 then ⟨.ro, bitsOf [(4, 0)], 0⟩
  else if off = 0x014 then ⟨.w1c, bitsOf [(8, 0), (31, 31)], 0⟩
  else if inArr off 0x030 4 4 then ⟨.rc, w32, 0⟩
  else if off = 0x100 then ⟨.ro, w32, 0⟩
  else if off = 0x104 then ⟨.ro, w32, 0⟩
  else if off = 0x108 then ⟨.rw, bitsOf [(3, 0)], 2⟩
  else if off = 0x10C then ⟨.rw, w32, 0x80000000⟩
  else if off = 0x110 then ⟨.wo, w32, 0⟩
  else if off = 0x114 then ⟨.rc, w32, 0⟩
  else if off = 0x120 then ⟨.rw, bitsOf [(10, 0)], 0⟩
  else if off = 0x124 then ⟨.wo, bitsOf [(1, 0)], 0⟩
  else if off = 0x128 then ⟨.ro, bitsOf [(3, 0)], 0⟩
  else if off = 0x140 then ⟨.rw, bitsOf [(29, 0)], 0⟩
  else if off = 0x144 then ⟨.rw, bitsOf [(6, 0)], 0⟩
  else if inArr off 0x148 4 10 then ⟨.rw, w32, 0⟩
  else if off = 0x180 then ⟨.rw, bitsOf [(8, 0)], 0⟩
  else if off = 0x184 then ⟨.wo, bitsOf [(1, 0)], 0⟩
  else if off = 0x188 then ⟨.ro, bitsOf [(3, 0)], 0⟩
  else if off = 0x1C0 then ⟨.rw, bitsOf [(12, 0), (27, 14)], 0⟩
  else if off = 0x1C4 then ⟨.rw, bitsOf [(12, 0), (28, 16)], 0⟩
  else if off = 0x1C8 then ⟨.rw, bitsOf [(11, 0), (27, 16)], 0⟩
  else if off = 0x1CC then ⟨.rw, bitsOf [(12, 0), (28, 16)], 0⟩
  else if off = 0x1D0 then ⟨.rw, bitsOf [(11, 0), (27, 16)], 0⟩
  else if off = 0x1D4 then ⟨.rw, bitsOf [(27, 0)], 0⟩
  else if off = 0x1D8 then ⟨.rw, bitsOf [(27, 0)], 0⟩
  else if inArr off 0x1DC 4 3 then ⟨.ro, w32, 0⟩
  else if off = 0x1E8 then ⟨.ro, bitsOf [(17, 0)], 0⟩
  else if off = 0x200 then ⟨.rw, bitsOf [(10, 0), (12, 12)], 0⟩
  else if off = 0x20C then ⟨.rw, bitsOf [(4, 0)], 0⟩
  else if inArr off 0x208 4 4 then ⟨.rw, w32, 0⟩
  else if off = 0x220 then ⟨.rw, bitsOf [(15, 0)], 2000⟩
  else if off = 0x230 then ⟨.ro, w32, 0⟩
  else if off = 0x234 then ⟨.ro, w32, 0⟩
  else if off = 0x238 then ⟨.ro, bitsOf [(2, 0)], 0⟩
  else if inArr off 0x240 4 8 then ⟨.rw, bitsOf [(16, 0)], 0⟩
  else if off = 0x300 then ⟨.wo, bitsOf [(0, 0)], 0⟩
  else if inArr off 0x304 4 4 then ⟨.ro, bitsOf [(2, 0), (19, 8)], 7⟩
  else noReg

/-- Crier page (R464, R465). -/
def criSpec (off : Nat) : RegSpec :=
  if off = 0x008 then ⟨.tw, bitsOf [(2, 0)], 2⟩
  else if off = 0x010 then ⟨.ro, bitsOf [(1, 0)], 0⟩
  else if off = 0x014 then ⟨.w1c, bitsOf [(4, 0), (31, 31)], 0⟩
  else if inArr off 0x030 4 4 then ⟨.rc, w32, 0⟩
  else if off = 0x100 then ⟨.rw, bitsOf [(4, 0), (13, 8), (23, 16)], 8 * 256⟩
  else if off = 0x104 then ⟨.rw, bitsOf [(15, 0)], 32 + 128 * 256⟩
  else if off = 0x108 then ⟨.rc, w32, 0⟩
  else if off = 0x10C then ⟨.rw, w32, 0⟩
  else if off = 0x110 then ⟨.rw, w32, 0⟩
  else if off = 0x114 then ⟨.rw, bitsOf [(15, 0)], 0⟩
  else if off = 0x118 then ⟨.wo, bitsOf [(0, 0)], 0⟩
  else if off = 0x11C then ⟨.ro, bitsOf [(2, 0), (13, 4)], 7⟩
  else if inArr off 0x200 8 64 then ⟨.rw, w32, 0⟩
  else if inArr off 0x204 8 64 then ⟨.rw, bitsOf [(16, 0)], 0⟩
  else noReg

/-- Depot bank page (R416, R417). -/
def depSpec (unit off : Nat) : RegSpec :=
  if off = 0x010 then ⟨.ro, bitsOf [(5, 0)], if unit = 16 then 16 else unit⟩
  else if off = 0x014 then ⟨.w1c, bitsOf [(4, 0), (31, 31)], 0⟩
  else if inArr off 0x030 4 4 then ⟨.rc, bitsOf [(15, 0)], 0⟩
  else if off = 0x100 then ⟨.ro, bitsOf [(21, 0)], 0⟩
  else if off = 0x104 then ⟨.ro, bitsOf [(5, 0), (13, 8), (20, 16)], 0⟩
  else if inArr off 0x110 16 8 then ⟨.rw, w32, 0⟩
  else if inArr off 0x114 16 8 then ⟨.rw, w32, 0⟩
  else if inArr off 0x118 16 8 then ⟨.rw, bitsOf [(7, 0)], 0⟩
  else noReg

/-- Storehouse page (R418, R419). -/
def sthSpec (off : Nat) : RegSpec :=
  if off = 0x010 then ⟨.ro, bitsOf [(1, 0), (22, 16)], 0⟩
  else if off = 0x014 then ⟨.w1c, bitsOf [(2, 0), (31, 31)], 0⟩
  else if inArr off 0x030 4 3 then ⟨.rc, bitsOf [(15, 0)], 0⟩
  else if off = 0x100 then ⟨.ro, w32, 0⟩
  else if off = 0x104 then ⟨.ro, bitsOf [(9, 0)], 0⟩
  else if off = 0x108 then ⟨.rw, bitsOf [(7, 0)], 24⟩
  else if off = 0x110 then ⟨.rw, w32, 0⟩
  else if off = 0x114 then ⟨.rw, w32, 0⟩
  else if off = 0x118 then ⟨.rw, bitsOf [(7, 0)], 0⟩
  else noReg

/-- Porter page (R420, R421). Channels 0 to 7 are loader porters and the others free at reset (R387). -/
def prtSpec (unit off : Nat) : RegSpec :=
  if off = 0x008 then ⟨.tw, bitsOf [(0, 0)], 0⟩
  else if off = 0x010 then ⟨.ro, bitsOf [(4, 0)], if unit < 8 then 0 else 2⟩
  else if off = 0x014 then ⟨.w1c, bitsOf [(4, 0), (31, 31)], 0⟩
  else if inArr off 0x030 4 4 then ⟨.rc, w32, 0⟩
  else if off = 0x100 then ⟨.rw, bitsOf [(26, 5)], 0⟩
  else if off = 0x104 then ⟨.ro, bitsOf [(15, 0)], 0⟩
  else noReg

/-- Aisle pages: 0 to 7 links, 8 the market (R492, R493). -/
def aisSpec (unit off : Nat) : RegSpec :=
  if unit < 8 then
    if off = 0x008 then ⟨.tw, bitsOf [(1, 0)], 2⟩
    else if off = 0x010 then ⟨.ro, bitsOf [(2, 0), (8, 4)], 0⟩
    else if off = 0x014 then ⟨.w1c, bitsOf [(3, 0), (31, 31)], 0⟩
    else if inArr off 0x030 4 4 then ⟨.rc, w32, 0⟩
    else if off = 0x100 then ⟨.tw, bitsOf [(2, 0)], 7⟩
    else if off = 0x108 then ⟨.ro, bitsOf [(14, 0), (18, 16), (23, 20), (31, 31)], 0⟩
    else if off = 0x10C then ⟨.ro, bitsOf [(11, 0)], 0⟩
    else if off = 0x110 then ⟨.ro, bitsOf [(24, 0)], 0⟩
    else noReg
  else
    if off = 0x010 then ⟨.ro, bitsOf [(0, 0), (7, 4)], 0⟩
    else if off = 0x014 then ⟨.w1c, bitsOf [(4, 0), (31, 31)], 0⟩
    else if inArr off 0x030 4 2 then ⟨.rc, bitsOf [(15, 0)], 0⟩
    else if off = 0x100 then ⟨.tw, bitsOf [(14, 0)], 0⟩
    else if off = 0x108 then ⟨.rw, w32, 0⟩
    else if off = 0x10C then ⟨.ro, bitsOf [(15, 0)], 1⟩
    else if off = 0x110 then ⟨.ro, bitsOf [(21, 0)], 0⟩
    else if off = 0x114 then ⟨.ro, bitsOf [(15, 0)], 0⟩
    else noReg

/-- Weighbridge page (R76 to R81 and the tables after them). -/
def wbrSpec (off : Nat) : RegSpec :=
  if off = 0x008 then ⟨.tw, bitsOf [(2, 0)], 0⟩
  else if off = 0x010 then ⟨.ro, bitsOf [(8, 0)], 0⟩
  else if off = 0x014 then ⟨.w1c, bitsOf [(4, 0), (31, 31)], 0⟩
  else if off = 0x100 then ⟨.rw, bitsOf [(8, 0)], 64⟩
  else if off = 0x104 then ⟨.rw, bitsOf [(6, 0)], 120⟩
  else if off = 0x108 then ⟨.rw, bitsOf [(26, 16)], 0⟩
  else if off = 0x10C then ⟨.wo, bitsOf [(1, 0)], 0⟩
  else if off = 0x110 then ⟨.wo, bitsOf [(1, 0)], 0⟩
  else if off = 0x114 then ⟨.rw, bitsOf [(15, 0)], 4096⟩
  else if off = 0x118 then ⟨.ro, w32, 0⟩
  else if off = 0x11C then ⟨.ro, bitsOf [(18, 0), (31, 19)], 0⟩
  else if inArr off 0x120 4 3 then ⟨.rc, bitsOf [(15, 0)], 0⟩
  else if inArr off 0x200 8 64 then ⟨.rw, bitsOf [(0, 0), (11, 9), (31, 19)], 0⟩
  else if inArr off 0x204 8 64 then ⟨.rw, bitsOf [(8, 0), (24, 16)], 0x10000⟩
  else noReg

/-- Ledger page (R422, R423). -/
def ldgSpec (off : Nat) : RegSpec :=
  if off = 0x014 then ⟨.w1c, bitsOf [(2, 0), (31, 31)], 0⟩
  else if off = 0x030 then ⟨.rc, bitsOf [(15, 0)], 0⟩
  else if off = 0x100 then ⟨.rw, bitsOf [(26, 16)], 0⟩
  else if off = 0x104 then ⟨.rw, bitsOf [(4, 0)], 0⟩
  else if off = 0x108 then ⟨.ro, w32, 0⟩
  else if off = 0x10C then ⟨.rw, w32, 0⟩
  else if off = 0x110 then ⟨.wo, bitsOf [(15, 0)], 0⟩
  else if off = 0x114 then ⟨.rw, w32, 0⟩
  else if off = 0x118 then ⟨.rw, w32, 0⟩
  else if off = 0x120 then ⟨.tw, bitsOf [(0, 0), (16, 8)], 1 + 16 * 256⟩
  else if off = 0x128 then ⟨.ro, w32, 0⟩
  else if off = 0x130 then ⟨.rw, bitsOf [(12, 0)], 0⟩
  else if off = 0x134 then ⟨.rw, w32, 0⟩
  else if off = 0x138 then ⟨.rw, w32, 0⟩
  else if off = 0x13C then ⟨.rw, bitsOf [(7, 0)], 0⟩
  else noReg

/-- Clerk page: loader registers (R336, R337) and boot registers (R621). -/
def clkSpec (off : Nat) : RegSpec :=
  if off = 0x014 then ⟨.w1c, bitsOf [(3, 0), (31, 31)], 0⟩
  else if off = 0x100 then ⟨.rw, w32, 0⟩
  else if off = 0x104 then ⟨.rw, bitsOf [(7, 0), (31, 30)], 0x80000000⟩
  else if off = 0x108 then ⟨.rw, bitsOf [(26, 12)], 0⟩
  else if off = 0x10C then ⟨.wo, bitsOf [(2, 0)], 0⟩
  else if off = 0x110 then ⟨.ro, bitsOf [(6, 0)], 0⟩
  else if off = 0x114 then ⟨.ro, bitsOf [(16, 0)], 0⟩
  else if inArr off 0x118 4 3 then ⟨.ro, w32, 0⟩
  else if off = 0x124 then ⟨.ro, bitsOf [(12, 0), (28, 16)], 0⟩
  else if off = 0x128 then ⟨.ro, bitsOf [(6, 0), (21, 16), (31, 24)], 64 + 32 * 65536⟩
  else if off = 0x180 then ⟨.ro, bitsOf [(9, 0)], 0⟩
  else if off = 0x184 then ⟨.ro, bitsOf [(5, 0)], 0⟩
  else if off = 0x188 then ⟨.rw, bitsOf [(15, 0)], 0⟩
  else if off = 0x18C then ⟨.wo, bitsOf [(15, 0)], 0⟩
  else noReg

/-- Warden page (R571). -/
def wrdSpec (off : Nat) : RegSpec :=
  if off = 0x010 then ⟨.ro, bitsOf [(4, 0)], 0⟩
  else if off = 0x014 then ⟨.w1c, bitsOf [(3, 0), (31, 31)], 0⟩
  else if off = 0x030 then ⟨.rc, bitsOf [(15, 0)], 0⟩
  else if off = 0x100 then ⟨.wo, bitsOf [(2, 0), (4, 4)], 0⟩
  else if off = 0x104 then ⟨.rw, bitsOf [(26, 6)], 0⟩
  else if off = 0x108 then ⟨.ro, bitsOf [(15, 0)], 0⟩
  else if off = 0x10C then ⟨.ro, w32, 0⟩
  else if inArr off 0x110 4 4 then ⟨.ro, w32, 0⟩
  else noReg

/-- Nominal voltage of a rail in millivolts (R574). -/
def railNominal (i : Nat) : Nat :=
  [650, 750, 750, 800, 800, 750, 500, 1050, 750, 1200, 750, 750, 900, 1200, 1800, 3300].getD i 0

/-- `percent` of nominal in 4 mV steps, to the nearest step; a half goes up (R575, assumption 20). -/
def railStep (i percent : Nat) : Nat := (railNominal i * percent + 200) / 400

/-- Steward page (R599 and its tables; R575 for the thresholds). -/
def stwSpec (off : Nat) : RegSpec :=
  if off = 0x008 then ⟨.tw, bitsOf [(1, 0)], 3⟩
  else if off = 0x010 then ⟨.ro, bitsOf [(4, 0)], 0⟩
  else if off = 0x014 then ⟨.w1c, bitsOf [(6, 0), (31, 31)], 0⟩
  else if inArr off 0x030 4 3 then ⟨.rc, w32, 0⟩
  else if inArr off 0x100 4 16 then ⟨.ro, bitsOf [(9, 0), (16, 16)], 0⟩
  else if inArr off 0x140 4 16 then ⟨.rw, bitsOf [(9, 0)], railStep (arrIx off 0x140 4) 95⟩
  else if inArr off 0x180 4 16 then
    ⟨.rw, bitsOf [(9, 0), (25, 16)], railStep (arrIx off 0x180 4) 92 + railStep (arrIx off 0x180 4) 108 * 65536⟩
  else if inArr off 0x200 4 24 then ⟨.ro, bitsOf [(11, 0), (16, 16)], 0⟩
  else if off = 0x260 then ⟨.ro, bitsOf [(11, 0), (20, 16)], 0⟩
  else if off = 0x264 then ⟨.rw, w32, 98 + 104 * 2 ^ 8 + 110 * 2 ^ 16 + 118 * 2 ^ 24⟩
  else if off = 0x268 then ⟨.rw, bitsOf [(9, 0), (25, 16)], 32 + 256 * 65536⟩
  else if off = 0x26C then ⟨.rw, bitsOf [(23, 0)], 0⟩
  else if off = 0x270 then ⟨.rw, bitsOf [(3, 0)], 3⟩
  else if off = 0x280 then ⟨.wo, bitsOf [(6, 0), (23, 8)], 0⟩
  else if off = 0x284 then ⟨.rw, w32, 0⟩
  else if off = 0x288 then ⟨.rw, w32, 0⟩
  else if off = 0x28C then ⟨.rw, bitsOf [(1, 0)], 0⟩
  else if inArr off 0x2A0 4 8 then ⟨.rw, bitsOf [(7, 0)], 0⟩
  else if inArr off 0x2C0 4 32 then (if off % 16 = 12 then noReg else ⟨.ro, bitsOf [(16, 0)], 0⟩)
  else noReg

/-- Reserve page (R601 and its tables). -/
def rsvSpec (off : Nat) : RegSpec :=
  if off = 0x008 then ⟨.tw, bitsOf [(1, 0)], 3⟩
  else if off = 0x010 then ⟨.ro, bitsOf [(3, 0), (18, 16)], 4 * 65536⟩
  else if off = 0x014 then ⟨.w1c, bitsOf [(5, 0), (31, 31)], 0⟩
  else if inArr off 0x030 4 2 then ⟨.rc, bitsOf [(15, 0)], 0⟩
  else if off = 0x100 then ⟨.wo, bitsOf [(2, 0), (7, 4)], 0⟩
  else if off = 0x104 then ⟨.rw, bitsOf [(16, 0)], 0⟩
  else if off = 0x108 then ⟨.ro, bitsOf [(1, 0)], 0⟩
  else if off = 0x10C then ⟨.rw, bitsOf [(17, 0), (27, 20)], 60 + 31 * 256 + 4 * 2 ^ 20⟩
  else if off = 0x110 then ⟨.ro, bitsOf [(5, 0), (13, 8)], 63 + 63 * 256⟩
  else if off = 0x114 then ⟨.ro, bitsOf [(4, 0)], 31⟩
  else if inArr off 0x120 4 24 then ⟨.ro, w32, 0⟩
  else if inArr off 0x400 4 256 then ⟨.ro, if off % 16 = 12 then bitsOf [(3, 0), (31, 31)] else w32, 0⟩
  else if inArr off 0x800 4 256 then ⟨.ro, if off % 16 = 12 then bitsOf [(3, 0), (31, 31)] else w32, 0⟩
  else noReg

/-- Trestle page (R548 and its tables). -/
def trsSpec (off : Nat) : RegSpec :=
  if off = 0x008 then ⟨.tw, bitsOf [(0, 0)], 0⟩
  else if off = 0x010 then ⟨.ro, bitsOf [(3, 0), (13, 8), (21, 16)], 2⟩
  else if off = 0x014 then ⟨.w1c, bitsOf [(10, 0), (31, 31)], 0⟩
  else if inArr off 0x030 4 2 then ⟨.rc, w32, 0⟩
  else if inArr off 0x100 4 6 then ⟨.ro, bitsOf [(8, 0)], 0⟩
  else if inArr off 0x120 4 6 then ⟨.ro, bitsOf [(3, 0), (8, 8)], 0⟩
  else if off = 0x140 then ⟨.wo, bitsOf [(5, 0)], 0⟩
  else if inArr off 0x180 4 16 then ⟨.ro, bitsOf [(2, 0), (8, 4), (24, 16), (27, 26)], 0⟩
  else if inArr off 0x200 4 16 then ⟨.ro, w32, 0⟩
  else noReg

/-- Host pages: 0 control (R525 and its tables), 1 summary (R505). -/
def hstSpec (unit off : Nat) : RegSpec :=
  if unit = 0 then
    if off = 0x008 then ⟨.tw, bitsOf [(0, 0)], 1⟩
    else if off = 0x010 then ⟨.ro, bitsOf [(4, 0), (15, 8)], 3⟩
    else if off = 0x014 then ⟨.w1c, bitsOf [(6, 0), (31, 31)], 0⟩
    else if inArr off 0x030 4 4 then ⟨.rc, w32, 0⟩
    else if off = 0x100 then ⟨.rw, bitsOf [(3, 0)], 4⟩
    else if off = 0x104 then ⟨.ro, bitsOf [(25, 0)], 0⟩
    else if off = 0x108 then ⟨.ro, bitsOf [(26, 0)], 0⟩
    else if off = 0x10C then ⟨.ro, bitsOf [(0, 0)], 0⟩
    else if off = 0x110 then ⟨.rw, bitsOf [(11, 0)], 0⟩
    else if off = 0x114 then ⟨.wo, bitsOf [(1, 0)], 0⟩
    else if off = 0x118 then ⟨.ro, bitsOf [(2, 0), (4, 4)], 0⟩
    else if off = 0x120 then ⟨.rw, bitsOf [(31, 12)], 0⟩
    else if off = 0x124 then ⟨.rw, w32, 0⟩
    else if off = 0x128 then ⟨.rw, bitsOf [(4, 0), (26, 16)], 0⟩
    else if off = 0x12C then ⟨.rw, bitsOf [(23, 0)], 0⟩
    else if off = 0x130 then ⟨.ro, w32, 0⟩
    else if off = 0x134 then ⟨.ro, w32, 0⟩
    else if inArr off 0x180 4 32 then ⟨.rw, bitsOf [(10, 0)], 0⟩
    else noReg
  else
    if off = 0x100 then ⟨.ro, w32, 0⟩
    else if off = 0x108 then ⟨.ro, bitsOf [(3, 0)], 0⟩
    else if off = 0x10C then ⟨.ro, bitsOf [(8, 0)], 0⟩
    else if off = 0x110 then ⟨.ro, bitsOf [(16, 0)], 0⟩
    else if off = 0x118 then ⟨.ro, w32, 0⟩
    else if off = 0x11C then ⟨.ro, w32, 0⟩
    else if inArr off 0x120 4 10 then ⟨.ro, w32, 0⟩
    else if inArr off 0x180 4 6 then ⟨.ro, w32, 0⟩
    else if inArr off 0x400 4 768 then ⟨.ro, if off % 16 = 12 then bitsOf [(3, 0)] else w32, 0⟩
    else noReg

/-- A register of a block that is not in the common header, or that the block gives its own fields there. -/
def blockSpec (block unit off : Nat) : RegSpec :=
  match block with
  | 0x01 => stlSpec off
  | 0x02 => bskSpec unit off
  | 0x03 => arcSpec off
  | 0x04 => belSpec off
  | 0x05 => gatSpec off
  | 0x06 => criSpec off
  | 0x07 => depSpec unit off
  | 0x08 => sthSpec off
  | 0x09 => prtSpec unit off
  | 0x0A => aisSpec unit off
  | 0x0B => wbrSpec off
  | 0x0C => ldgSpec off
  | 0x0D => clkSpec off
  | 0x0E => wrdSpec off
  | 0x0F => stwSpec off
  | 0x10 => rsvSpec off
  | 0x11 => trsSpec off
  | 0x12 => hstSpec unit off
  | _ => noReg

/-- The register at an offset of a page: the common header of R503, then the block's own registers. The page directory
carries PAGE_ID, LAYOUT and its table only (R502). Every bit of the host summary page is RO (R505). -/
def regSpec (block unit off : Nat) : RegSpec :=
  if off = 0x000 then ⟨.ro, w32, block * 65536 + unit⟩
  else if off = 0x004 then ⟨.ro, 0xFFFF, 0xB101⟩
  else if block = DIR then
    (if inArr off 0x100 8 32 then ⟨.ro, bitsOf [(17, 0)], 0⟩
     else if inArr off 0x104 8 32 then ⟨.ro, bitsOf [(25, 0)], 0⟩ else noReg)
  else if off = 0x018 then ⟨if block = HST ∧ unit = 1 then .ro else .rw, w32, 0⟩
  else if off = 0x01C then ⟨.ro, w32, 0⟩
  else if off = 0x020 then ⟨.ro, 0xFFFF, 0⟩
  else if off = 0x024 then ⟨.ro, w32, 0⟩
  else if off = 0x028 then ⟨.ro, w32, 0⟩
  else blockSpec block unit off

/-- Key of a register in `Device.regs` and `Device.twins`. -/
def regKey (block unit off : Nat) : Nat := (block * 8192 + unit) * 4096 + off

/-- Reset value of a register. -/
def regReset (block unit off : Nat) : Word := BitVec.ofNat 32 (regSpec block unit off).reset

/-- The fault bit of a page (R504). -/
def faultBit (block : Nat) : Nat :=
  match block with
  | 0x01 => 1
  | 0x02 => 8
  | _ => 31

end Sys2Proof.Machine
end

