-- ==== Sys2Proof/Machine/Ops.lean ====
section
/-! DEFINITION. The named operations over the device's registers, events and faults that every meaning uses. -/

namespace Sys2Proof.Machine

/-! ### Registers -/

/-- The effective value of a register. -/
def Device.reg (d : Device) (b u o : Nat) : Word := KMap.get d.regs (regKey b u o) (regReset b u o)

/-- The effective value as a number. -/
def Device.regN (d : Device) (b u o : Nat) : Nat := (d.reg b u o).toNat

/-- A field of a register. -/
def Device.rf (d : Device) (b u o lo n : Nat) : Nat := fld (d.regN b u o) lo n

/-- One bit of a register. -/
def Device.rb (d : Device) (b u o i : Nat) : Bool := tb (d.regN b u o) i

/-- Give a register a value. -/
def Device.setReg (d : Device) (b u o : Nat) (v : Word) : Device :=
  { d with regs := KMap.set d.regs (regKey b u o) v (regReset b u o) }

/-- Give a register a value held as a number. -/
def Device.setN (d : Device) (b u o v : Nat) : Device := d.setReg b u o (BitVec.ofNat 32 v)

/-- Give a field of a register a value. -/
def Device.setF (d : Device) (b u o lo n x : Nat) : Device := d.setN b u o (putFld (d.regN b u o) lo n x)

/-- Set or clear one bit of a register. -/
def Device.setB (d : Device) (b u o i : Nat) (x : Bool) : Device := d.setF b u o i 1 (b2n x)

/-- What a register has had from hardware in this cycle: the value before, and the events (R10). -/
def Device.freshOf (d : Device) (b u o : Nat) : Nat × Nat := KMap.get d.fresh (regKey b u o) (d.regN b u o, 0)

/-- Hardware sets a W1C bit (R9, R10). -/
def Device.raise (d : Device) (b u bit : Nat) : Device :=
  let f := d.freshOf b u 0x014
  { d.setB b u 0x014 bit true with
    fresh := KMap.put d.fresh (regKey b u 0x014) (f.1, f.2 - fld f.2 bit 1 * 2 ^ bit + 2 ^ bit) }

/-- Hardware adds `n` to a counter that stops at `cap` (R10). -/
def Device.bumpBy (d : Device) (b u o cap n : Nat) : Device :=
  let f := d.freshOf b u o
  { d.setN b u o (satAdd cap (d.regN b u o) n) with fresh := KMap.put d.fresh (regKey b u o) (f.1, satAdd cap f.2 n) }

/-- Hardware counts one event in a 16-bit counter. -/
def Device.count16 (d : Device) (b u o : Nat) : Device := d.bumpBy b u o 0xFFFF 1

/-- Hardware counts one event in a 32-bit counter. -/
def Device.count32 (d : Device) (b u o : Nat) : Device := d.bumpBy b u o 0xFFFFFFFF 1

/-- Hardware sets bits of a register that a read clears (R10). -/
def Device.orRC (d : Device) (b u o bits : Nat) : Device :=
  let f := d.freshOf b u o
  { d.setN b u o (d.regN b u o ||| bits) with fresh := KMap.put d.fresh (regKey b u o) (f.1, f.2 ||| bits) }

/-- Hardware raises a register that a read clears to a new maximum (R10). -/
def Device.maxRC (d : Device) (b u o v : Nat) : Device :=
  let f := d.freshOf b u o
  { d.setN b u o (max (d.regN b u o) v) with fresh := KMap.put d.fresh (regKey b u o) (f.1, max f.2 v) }

/-! ### Outputs and free values -/

/-- Something leaves the chip. -/
def Device.emit (d : Device) (o : Output) : Device := { d with outbox := o :: d.outbox }

/-- The next value that the manual leaves open (assumption 3). -/
def Device.free (d : Device) : DWord := Config.freeValue d.frees

/-- Move on to a new free value. -/
def Device.useFree (d : Device) : Device := { d with frees := d.frees + 1 }

/-! ### The Ledger and faults -/

/-- PAGE_ID of a page (R503). -/
def pageId (b u : Nat) : Word := BitVec.ofNat 32 (b * 65536 + u)

/-- The bell count as the fault registers and the Ledger give it (R348): 0 before bell 0 has rung. -/
def Device.bellCount (d : Device) : Nat := if d.bell.everRung then d.bell.count else 0

/-- Events stand in the order of their cycles, then of PAGE, then of CODE (R414). -/
def ledgerInsert (e : LdgEntry) : List LdgEntry → List LdgEntry
  | [] => [e]
  | x :: rest =>
    if x.at_ = e.at_ ∧ (e.page.toNat < x.page.toNat ∨ (e.page = x.page ∧ e.code < x.code)) then e :: x :: rest
    else x :: ledgerInsert e rest

/-- Put an event on its way to the Ledger ring. Until LDG_SIZE is set, 64 entries wait, and a 65th is lost (R412). -/
def Device.logAt (d : Device) (bell code : Nat) (page loc : Word) (detail : DWord) : Device :=
  if d.rf LDG 0 0x104 0 5 = 0 ∧ 64 ≤ d.ledger.waiting.length then d.count16 LDG 0 0x030
  else { d with ledger := { d.ledger with
           waiting := ledgerInsert ⟨d.now, bell, d.rf BEL 0 0x128 0 24, code, page, loc, detail⟩ d.ledger.waiting } }

/-- An event of R415. -/
def Device.log (d : Device) (code b u : Nat) (loc : Word) (detail : Nat) : Device :=
  d.logAt d.bellCount code (pageId b u) loc (BitVec.ofNat 64 detail)

/-- FAULT_WHERE from its fields (R503). -/
def whereWord (row col lane slot ctx index : Nat) : Word :=
  BitVec.ofNat 32 (row % 64 * 2 ^ 26 + col % 128 * 2 ^ 19 + lane % 8 * 2 ^ 16 + slot % 16 * 2 ^ 12 + ctx % 8 * 2 ^ 9 + index % 512)

/-- Is a fault held by the page's fault registers? -/
def Device.faultHeld (d : Device) (b u : Nat) : Bool := d.rb b u 0x014 (faultBit b)

/-- Write the three fault registers (R503). -/
def Device.setFaultRegs (d : Device) (b u code : Nat) (loc when_ : Word) : Device :=
  ((d.setN b u 0x020 code).setReg b u 0x024 loc).setReg b u 0x028 when_

/-- Record a fault (R348): the first since the bit was last cleared is kept; of two in one cycle, the lower value. Every
fault goes to the Ledger. -/
def Device.fault (d : Device) (b u code : Nat) (loc : Word) : Device :=
  let when_ : Word := BitVec.ofNat 32 d.bellCount
  let key := regKey b u 0x020
  let now_ := decide ((KMap.get d.fresh key (0, 0)).2 = 1)
  let rec_ := if d.faultHeld b u then now_ && decide (code < d.regN b u 0x020) else true
  let d1 := if rec_ then { d.setFaultRegs b u code loc when_ with fresh := KMap.put d.fresh key (0, 1) } else d
  let d2 := d1.raise b u (faultBit b)
  { d2 with newFaults := d2.newFaults ++ [(regKey b u 0, code, loc, when_)] }.logAt d.bellCount code (pageId b u) loc 0

/-! ### Logical and physical stalls (R13, R14, R119, R587) -/

/-- The stored complement of a map word of the RSV page (R119, R381, R411, R593). -/
def Device.mapComp (d : Device) (o : Nat) : Word := KMap.get d.reserve.comps o (~~~regReset RSV 0 o)

/-- The twin check of a map word. -/
def Device.mapOk (d : Device) (o : Nat) : Bool := decide (d.mapComp o = ~~~d.reg RSV 0 o)

/-- A map word as its users see it: a mismatch disables the entry, which then maps nothing (R593). -/
def Device.mapWord (d : Device) (o : Nat) : Word := if d.mapOk o then d.reg RSV 0 o else regReset RSV 0 o

/-- Write a map word with its complement. -/
def Device.setMap (d : Device) (o : Nat) (v : Word) : Device :=
  let d1 := d.setReg RSV 0 o v
  { d1 with reserve := { d1.reserve with comps := KMap.set d1.reserve.comps o (~~~v) (~~~regReset RSV 0 o) } }

/-- ROW_RETIRED of a physical row, in force. -/
def Device.rowRetired (d : Device) (r : Nat) : Bool := (d.mapWord (0x400 + 16 * r + 12)).getLsbD 31

/-- The mask bit of a physical stall, in force. -/
def Device.marked (d : Device) (r c : Nat) : Bool := (d.mapWord (0x400 + 16 * r + 4 * (c / 32))).getLsbD (c % 32)

/-- Physical row of a logical row. -/
def Device.physRow (d : Device) (lr : Nat) : Option Nat := ((List.range 64).filter (fun r => !d.rowRetired r))[lr]?

/-- Physical page of a logical stall. -/
def Device.physOf (d : Device) (lr lc : Nat) : Option Nat :=
  if !d.reserve.mapped || decide (96 ≤ lc) then none
  else match d.physRow lr with
    | none => none
    | some r => (((List.range 100).filter (fun c => !d.marked r c))[lc]?).map (fun c => 100 * r + c)

/-- Logical row and column of a physical page; none for a spare or a retired stall. -/
def Device.logOf (d : Device) (p : Nat) : Option (Nat × Nat) :=
  let r := p / 100
  let c := p % 100
  if !d.reserve.mapped || d.rowRetired r || d.marked r c then none
  else
    let lc := ((List.range c).filter (fun x => !d.marked r x)).length
    if lc < 96 then some (((List.range r).filter (fun x => !d.rowRetired x)).length, lc) else none

/-- A physical stall as FAULT_WHERE and the Ledger name it: logical coordinates where it has them, else physical coordinates
with bit 0 of the index set (the line after R415). -/
def Device.whereP (d : Device) (p lane slot ctx index : Nat) : Word :=
  match d.logOf p with
  | some (r, c) => whereWord r c lane slot ctx index
  | none => whereWord (p / 100) (p % 100) lane slot ctx (index - index % 2 + 1)

/-! ### Parts of the state by number -/

def Device.stall (d : Device) (p : Nat) : Stall := KMap.get d.stalls p {}
def Device.setStall (d : Device) (p : Nat) (s : Stall) : Device := { d with stalls := KMap.put d.stalls p s }
def Device.updStall (d : Device) (p : Nat) (f : Stall → Stall) : Device := d.setStall p (f (d.stall p))

def Stall.basket (s : Stall) (b : Nat) : Basket := s.baskets.getD b {}
def Stall.setBasket (s : Stall) (b : Nat) (k : Basket) : Stall := { s with baskets := upd s.baskets b (fun _ => k) }
def Stall.ctx (s : Stall) (k : Nat) : Ctx := s.ctxs.getD k {}
/-- The context list with its eight entries (R112). -/
def Stall.allCtxs (s : Stall) : List Ctx := (List.range 8).map s.ctx
def Stall.setCtx (s : Stall) (k : Nat) (c : Ctx) : Stall := { s with ctxs := upd s.allCtxs k (fun _ => c) }

def Device.setBasket (d : Device) (p b : Nat) (k : Basket) : Device := d.updStall p (fun s => s.setBasket b k)
def Device.setCtx (d : Device) (p k : Nat) (c : Ctx) : Device := d.updStall p (fun s => s.setCtx k c)

def Device.egress (d : Device) (e : Nat) : Egress := KMap.get d.arcade.egress e {}
def Device.setEgress (d : Device) (e : Nat) (x : Egress) : Device :=
  { d with arcade := { d.arcade with egress := KMap.put d.arcade.egress e x } }

def Device.chan (d : Device) (c : Nat) : Chan := KMap.get d.chans c {}
def Device.setChan (d : Device) (c : Nat) (x : Chan) : Device := { d with chans := KMap.put d.chans c x }

def Device.stream (d : Device) (s : Nat) : Stream := KMap.get d.gate.streams s {}
def Device.setStream (d : Device) (s : Nat) (x : Stream) : Device :=
  { d with gate := { d.gate with streams := KMap.put d.gate.streams s x } }

def Device.ring (d : Device) (r : Nat) : Ring := KMap.get d.host.rings r {}
def Device.setRing (d : Device) (r : Nat) (x : Ring) : Device :=
  { d with host := { d.host with rings := KMap.put d.host.rings r x } }

def Device.link (d : Device) (l : Nat) : Link := d.aisles.links.getD l {}
def Device.setLink (d : Device) (l : Nat) (x : Link) : Device :=
  { d with aisles := { d.aisles with links := upd d.aisles.links l (fun _ => x) } }

def Device.seg (d : Device) (g : Nat) : Segment := d.crier.segs.getD g {}
def Device.setSeg (d : Device) (g : Nat) (x : Segment) : Device :=
  { d with crier := { d.crier with segs := upd d.crier.segs g (fun _ => x) } }

/-! ### Stall status -/

/-- STATUS.CLOSED (R124): held by CTRL.CLOSE, by a load, by a fault (R164) or by R111, or by a thermal trip (R582). -/
def Device.closed (d : Device) (p : Nat) : Bool :=
  d.rb STL p 0x008 0 || (d.stall p).faulted || (d.stall p).parityClosed || d.boot.tripped || (d.logOf p).isNone

/-- A register of a stall's context: PC, general registers, counters. -/
def Device.pc (d : Device) (p k : Nat) : Nat := d.rf STL p (0x1E0 + 4 * k) 0 8
def Device.setPc (d : Device) (p k v : Nat) : Device := d.setN STL p (0x1E0 + 4 * k) (v % 256)
def Device.greg (d : Device) (p k g : Nat) : Word := d.reg STL p (0x200 + 64 * k + 4 * g)
def Device.setGreg (d : Device) (p k g : Nat) (v : Word) : Device := d.setReg STL p (0x200 + 64 * k + 4 * g) v
def Device.cnt (d : Device) (p k c : Nat) : Nat := d.rf STL p (0x400 + 16 * k + 4 * c) 0 16
def Device.setCnt (d : Device) (p k c v : Nat) : Device := d.setN STL p (0x400 + 16 * k + 4 * c) (v % 65536)

/-- A saturation of R42: SAT_COUNT, and SAT_SEEN when it leaves 0. -/
def Device.sat (d : Device) (p n : Nat) : Device :=
  if n = 0 then d
  else
    let d1 := d.bumpBy STL p 0x030 0xFFFF n
    if d.rf STL p 0x030 0 16 = 0 then d1.raise STL p 7 else d1

/-! ### Running a command -/

/-- SUM_TYPE (R505): bit t is 1 while some page of block type t has IRQ_RAW AND IRQ_MASK nonzero. -/
def Device.sumType (d : Device) : Word :=
  d.regs.foldl (fun acc kv =>
    if kv.1 % 4096 = 0x014 ∧ kv.2 &&& KMap.get d.regs (kv.1 + 4) 0 ≠ 0
    then acc ||| (1#32 <<< (kv.1 / 4096 / 8192)) else acc) 0

/-- Is a vector's message held by its mask? Bit 0 of the fourth dword of its table entry; masked at reset (assumption 21). -/
def Device.vectorMasked (d : Device) (v : Nat) : Bool := (KMap.get d.host.msix (4 * v + 3) 1).getLsbD 0

/-- Send one MSI-X message, or hold it pending while its vector is masked (R494). -/
def Device.msix (d : Device) (v : Nat) : Device :=
  if d.vectorMasked v then { d with host := { d.host with pba := insertNew v d.host.pba } } else d.emit (.msix v)

/-- After a command, and at the end of a cycle: a SUM_TYPE bit that has gone from 0 to 1 sends its message and asks for attention (R506, R508). A
bit that was 1 in this cycle already, before software cleared what hardware now sets again, has not gone to 0 (R10). -/
def Device.settle (d : Device) : Device :=
  let new := d.sumType
  let seen := d.host.sumSeen ||| d.host.lastSum
  let up := new &&& ~~~seen
  let d1 := (List.range 32).foldl
    (fun a t => if up.getLsbD t then a.msix (d.rf HST 0 (0x180 + 4 * t) 0 11) else a) d
  let att := d1.host.attn || (up != 0 && d.rb HST 0 0x008 0)
  { d1 with host := { d1.host with lastSum := new, sumSeen := seen ||| new, attn := att } }

/-- A command's effect. A command that names a unit the device does not have is no command; a device held in reset does
nothing (R607). -/
def State.act (s : State) (ok : Bool) (f : Device → Device) : Host.Outcome State Fault Refusal :=
  if ok then (if s.dev.boot.held then .next s else .next { s with dev := (f s.dev).settle }) else .fault .noSuchUnit

/-- The effect of a command that works in reset too: the reset itself, and boundary scan. -/
def State.actAlways (s : State) (ok : Bool) (f : Device → Device) : Host.Outcome State Fault Refusal :=
  if ok then .next { s with dev := (f s.dev).settle } else .fault .noSuchUnit

end Sys2Proof.Machine
end

