-- ==== Sys2Proof/Machine/Memory.lean ====
section
/-! DEFINITION. Reads and writes of the stall stores, the Depot and the Storehouse (R105, R109, R379 to R386, R394, R395,
R406 to R411): SECDED, the stored spoil mark, flip masks, trackers and remap entries. -/

namespace Sys2Proof.Machine

/-- An INTEG fault on a page; the index is the value register's offset ÷ 8 (R11, R350). -/
def Device.integ (d : Device) (b u off : Nat) : Device := d.fault b u 0x7001 (whereWord 0 0 0 0 0 (off / 8))

/-- Using a map word whose twin words differ raises INTEG on the RSV page (R593). -/
def Device.mapCheck (d : Device) (o : Nat) : Device := if d.mapOk o then d else d.integ RSV 0 o

/-! ### Remap entries (R408, R411) -/

def Remap.addr (r : Remap) : Nat := fld r.word.toNat 0 17
def Remap.pending (r : Remap) : Bool := r.word.getLsbD 30
def Remap.active (r : Remap) : Bool := r.word.getLsbD 31
/-- The twin check; an entry that fails it is disabled (R411). -/
def Remap.twinOk (r : Remap) : Bool := decide (r.comp = ~~~r.word)

/-- The spare word that reads of `addr` use. -/
def activeSpare (l : List Remap) (addr : Nat) : Option Nat :=
  (l.find? (fun r => decide (r.addr = addr) && r.active && r.twinOk)).map (fun r => r.spare)

/-- The spare word that writes of `addr` also go to (R408). -/
def pendingSpare (l : List Remap) (addr : Nat) : Option Nat :=
  (l.find? (fun r => decide (r.addr = addr) && r.pending && !r.active && r.twinOk)).map (fun r => r.spare)

/-- Using an entry whose twin words differ raises INTEG on the RSV page (R411). -/
def Device.remapCheck (d : Device) (l : List Remap) (addr : Nat) : Device :=
  if l.any (fun r => decide (r.addr = addr) && !r.twinOk) then d.integ RSV 0 0 else d

/-- An owner write frees the tracker entry of its word (R407). -/
def dropTrack (l : List Track) (addr : Nat) : List Track := l.filter (fun t => t.addr ≠ addr)

/-! ### The stall store -/

/-- The stored codeword that a read of a stall's word uses. -/
def Device.storeCode (d : Device) (p wa : Nat) : CodeWord :=
  match activeSpare (d.stall p).remaps wa with
  | some s => KMap.get d.storeSpare (8 * p + s) 0
  | none => KMap.get d.store (8192 * p + wa) 0

/-- A demand read of a stall store (R109). -/
def Device.storeRead (d : Device) (p wa : Nat) : ReadOut × Device :=
  let r := decodeWord (d.storeCode p wa)
  let d0 := d.remapCheck (d.stall p).remaps wa
  let d1 := if r.ce then (d0.count16 STL p 0x034).raise STL p 5 else d0
  let d2 := if r.ue then (d1.raise STL p 6).log 0xA006 STL p (d.whereP p 0 0 0 0) wa else d1
  (r, d2)

/-- The flip mask of the stall stores as a codeword (R410). -/
def Device.storeFlip (d : Device) : CodeWord :=
  ((d.reg LDG 0 0x13C).setWidth 8 : Byte) ++ (d.reg LDG 0 0x138 ++ d.reg LDG 0 0x134 : DWord)

/-- Store a codeword in a stall's word; the next write of the aimed stall takes the flip mask (R410), and a word with a pending
remap entry is written in both places (R408). -/
def Device.storePutCode (d : Device) (p wa : Nat) (c : CodeWord) : Device :=
  let aimed := decide (d.rf LDG 0 0x130 0 13 = p)
  let c1 := if aimed then c ^^^ d.storeFlip else c
  let d1 := if aimed then ((d.setN LDG 0 0x134 0).setN LDG 0 0x138 0).setN LDG 0 0x13C 0 else d
  let rs := (d.stall p).remaps
  match activeSpare rs wa with
  | some s => { d1 with storeSpare := KMap.set d1.storeSpare (8 * p + s) c1 0 }
  | none =>
    let d2 := { d1 with store := KMap.set d1.store (8192 * p + wa) c1 0 }
    match pendingSpare rs wa with
    | some s => { d2 with storeSpare := KMap.set d2.storeSpare (8 * p + s) c1 0 }
    | none => d2

/-- An owner write of a stall store word. -/
def Device.storeWrite (d : Device) (p wa : Nat) (v : DWord) (spoil : Bool) : Device :=
  let d1 := (d.remapCheck (d.stall p).remaps wa).storePutCode p wa (encodeWord v spoil)
  if (d1.stall p).tracks = [] then d1 else d1.updStall p (fun s => { s with tracks := dropTrack s.tracks wa })

/-! ### The Depot (R379, R381) -/

/-- Physical bank that carries a logical bank. -/
def Device.depotBank (d : Device) (lb : Nat) : Nat := if fld (d.mapWord 0x114).toNat 0 5 = lb then 16 else lb

def depotLb (off : Nat) : Nat := fld off 6 4
def depotWord (off : Nat) : Nat := fld off 10 17
def depotLane (off : Nat) : Nat := fld off 3 3
def depotKey (pb word lane : Nat) : Nat := (pb * 131072 + word) * 8 + lane

/-- The stored codeword that a read of a lane uses. -/
def Device.depotCode (d : Device) (pb word lane : Nat) : CodeWord :=
  match activeSpare (KMap.get d.depot.remaps pb []) word with
  | some s => KMap.get d.depot.spares ((pb * 32 + s) * 8 + lane) 0
  | none => KMap.get d.depot.mem (depotKey pb word lane) 0

/-- LAST_ERR of a bank (R417). -/
def lastErr (word lane : Nat) (unc scrub : Bool) : Nat := word + lane * 2 ^ 17 + b2n unc * 2 ^ 20 + b2n scrub * 2 ^ 21

/-- A demand read of the 64-bit lane that holds a Depot byte offset (R382, R385). -/
def Device.depotRead (d : Device) (off : Nat) : ReadOut × Device :=
  let pb := d.depotBank (depotLb off)
  let r := decodeWord (d.depotCode pb (depotWord off) (depotLane off))
  let d0 := (d.mapCheck 0x114).remapCheck (KMap.get d.depot.remaps pb []) (depotWord off)
  let d1 := if r.ce then
      ((d0.count16 DEP pb 0x030).raise DEP pb 0).setN DEP pb 0x100 (lastErr (depotWord off) (depotLane off) false false)
    else d0
  let d2 := if r.ue then
      (((d1.count16 DEP pb 0x034).raise DEP pb 1).setN DEP pb 0x100 (lastErr (depotWord off) (depotLane off) true false)).log
        0xA007 DEP pb 0 (off / 8 * 8 % 2 ^ 27)
    else d1
  (r, d2)

/-- The flip mask of a lane of a bank (R410). -/
def Device.depotFlip (d : Device) (pb lane : Nat) : CodeWord :=
  ((d.reg DEP pb (0x118 + 16 * lane)).setWidth 8 : Byte)
    ++ (d.reg DEP pb (0x114 + 16 * lane) ++ d.reg DEP pb (0x110 + 16 * lane) : DWord)

/-- Store a codeword in a lane of a bank (R408, R410). -/
def Device.depotPutCode (d : Device) (pb word lane : Nat) (c : CodeWord) : Device :=
  let c1 := c ^^^ d.depotFlip pb lane
  let d1 := ((d.setN DEP pb (0x110 + 16 * lane) 0).setN DEP pb (0x114 + 16 * lane) 0).setN DEP pb (0x118 + 16 * lane) 0
  let rs := KMap.get d.depot.remaps pb []
  match activeSpare rs word with
  | some s => { d1 with depot := { d1.depot with spares := KMap.set d1.depot.spares ((pb * 32 + s) * 8 + lane) c1 0 } }
  | none =>
    let d2 := { d1 with depot := { d1.depot with mem := KMap.set d1.depot.mem (depotKey pb word lane) c1 0 } }
    match pendingSpare rs word with
    | some s => { d2 with depot := { d2.depot with spares := KMap.set d2.depot.spares ((pb * 32 + s) * 8 + lane) c1 0 } }
    | none => d2

/-- An owner write of one whole lane. -/
def Device.depotWriteLane (d : Device) (off : Nat) (v : DWord) (spoil : Bool) : Device :=
  let pb := d.depotBank (depotLb off)
  let d1 := ((d.mapCheck 0x114).remapCheck (KMap.get d.depot.remaps pb []) (depotWord off)).depotPutCode pb (depotWord off) (depotLane off)
    (encodeWord v spoil)
  let ts := KMap.get d1.depot.tracks pb []
  if ts = [] then d1
  else { d1 with depot := { d1.depot with tracks := KMap.put d1.depot.tracks pb (dropTrack ts (depotWord off)) } }

/-- Put bytes into a data word from byte lane `i` on. -/
def mergeBytes (v : DWord) (i : Nat) (bytes : List Byte) : DWord :=
  (bytes.zipIdx).foldl (fun w bi => setByte w (i + bi.2) bi.1) v

/-- A write that lies within one lane: whole, or merged under R384. -/
def Device.depotWriteIn (d : Device) (off : Nat) (bytes : List Byte) (spoil : Bool) : Device :=
  if bytes.length = 8 then d.depotWriteLane off (wordOf bytes) spoil
  else
    let r := d.depotRead off
    r.2.depotWriteLane off (mergeBytes r.1.data (off % 8) bytes) (spoil || r.1.spoil)

/-- Cut a byte string at the 8-byte boundaries of the address it starts at: pieces with their addresses. -/
def lanePieces (off : Nat) (bytes : List Byte) : List (Nat × List Byte) :=
  (List.range (if bytes.isEmpty then 0 else (off % 8 + bytes.length + 7) / 8)).map (fun i =>
    if i = 0 then (off, bytes.take (8 - off % 8))
    else (off - off % 8 + 8 * i, (bytes.drop (8 * i - off % 8)).take 8))

/-- A write of bytes at a Depot offset; offsets wrap at the Depot's end (assumption 22). -/
def Device.depotWrite (d : Device) (off : Nat) (bytes : List Byte) (spoil : Bool) : Device :=
  (lanePieces off bytes).foldl (fun a p => a.depotWriteIn (p.1 % 2 ^ 27) p.2 spoil) d

/-- A demand read of `n` bytes: the bytes, and whether any lane was spoiled or uncorrectable. -/
def Device.depotReadBytes (d : Device) (off n : Nat) : List Byte × Bool × Device :=
  let lanes := List.range (if n = 0 then 0 else (off % 8 + n + 7) / 8)
  let r := lanes.foldl (fun (acc : List Byte × Bool × Device) i =>
    let x := acc.2.2.depotRead ((off - off % 8 + 8 * i) % 2 ^ 27)
    (acc.1 ++ bytesOf x.1.data, acc.2.1 || x.1.spoil, x.2)) ([], false, d)
  ((r.1.drop (off % 8)).take n, r.2.1, r.2.2)

/-! ### The Storehouse (R394, R395) -/

/-- Usable bytes: 7/8 of the fitted capacity. -/
def Device.sthBytes (d : Device) : Nat := d.rf STH 0 0x010 16 7 * 2 ^ 30 / 8 * 7

/-- A demand read of the 64-bit word at a usable byte address; beyond the usable capacity its value is open (assumption 22). -/
def Device.sthRead (d : Device) (addr : Nat) : ReadOut × Device :=
  if addr < d.sthBytes then
    let r := decodeWord (KMap.get d.sth.mem (addr / 8) 0)
    let hi := fun (u : Nat) => addr / 2 ^ 32 % 256 + u * 256
    let d1 := if r.ce then
        (((d.count16 STH 0 0x030).raise STH 0 0).setN STH 0 0x100 (addr / 8 * 8 % 2 ^ 32)).setN STH 0 0x104 (hi 0)
      else d
    let d2 := if r.ue then
        ((((d1.count16 STH 0 0x034).raise STH 0 1).setN STH 0 0x100 (addr / 8 * 8 % 2 ^ 32)).setN STH 0 0x104 (hi 1)).log
          0xA008 STH 0 0 (addr / 8 * 8 % 2 ^ 40)
      else d1
    (r, d2)
  else (⟨d.free, false, false, false, 0⟩, d.useFree)

/-- The Storehouse flip mask (R410). -/
def Device.sthFlip (d : Device) : CodeWord :=
  ((d.reg STH 0 0x118).setWidth 8 : Byte) ++ (d.reg STH 0 0x114 ++ d.reg STH 0 0x110 : DWord)

/-- Store a codeword; the first word of a write takes the flip mask. -/
def Device.sthPutCode (d : Device) (addr : Nat) (c : CodeWord) (first : Bool) : Device :=
  if addr < d.sthBytes then
    let c1 := if first then c ^^^ d.sthFlip else c
    let d1 := if first then ((d.setN STH 0 0x110 0).setN STH 0 0x114 0).setN STH 0 0x118 0 else d
    { d1 with sth := { d1.sth with mem := KMap.set d1.sth.mem (addr / 8) c1 0 } }
  else d

/-- Write one 64-bit word of a whole-line write. -/
def Device.sthWriteWord (d : Device) (addr : Nat) (v : DWord) (spoil : Bool) : Device :=
  d.sthPutCode addr (encodeWord v spoil) true

/-- A write of part of a 128-byte line: the line is read, merged and written (R384 at line granularity, R395). -/
def Device.sthWriteLine (d : Device) (off : Nat) (bytes : List Byte) (spoil : Bool) : Device :=
  let line := off / 128 * 128
  (List.range 16).foldl (fun a i =>
    let w := line + 8 * i
    let r := a.sthRead w
    let lo := if off < w then 0 else off - w
    let piece := (bytes.drop (w - off)).take (8 - lo)
    if w + 8 ≤ off ∨ off + bytes.length ≤ w then r.2.sthPutCode w (encodeWord r.1.data r.1.spoil) false
    else r.2.sthPutCode w (encodeWord (mergeBytes r.1.data lo piece) (spoil || (r.1.spoil && piece.length != 8)))
      (decide (off / 8 = w / 8))) d

/-- A write of up to 8 bytes that does not cross a 64-bit boundary; `whole` when the requester writes the whole line. -/
def Device.sthWrite (d : Device) (addr : Nat) (bytes : List Byte) (spoil whole : Bool) : Device :=
  if whole && decide (bytes.length = 8) then d.sthWriteWord addr (wordOf bytes) spoil
  else d.sthWriteLine addr bytes spoil

/-! ### Writes of whole memories (R410, R591) -/

/-- Of the writes that fill a stall's store with `code`, the first takes the flip mask aimed at it. DESIGN CHOICE (assumption 124): the manual does
not state which word that is; it is a free one. -/
def Device.storeFillFlip (d : Device) (p : Nat) (code : Nat → CodeWord) : Device :=
  if d.rf LDG 0 0x130 0 13 ≠ p ∨ d.storeFlip = 0 then d
  else
    let wa := d.free.toNat % 8192
    let d1 := d.useFree.setN LDG 0 0x134 0 |>.setN LDG 0 0x138 0 |>.setN LDG 0 0x13C 0
    { d1 with store := KMap.set d1.store (8192 * p + wa) (code wa ^^^ d.storeFlip) 0 }

/-- The same of the masks of the lanes of a Depot bank. -/
def Device.depotFillFlip (d : Device) (pb : Nat) (code : Nat → Nat → CodeWord) : Device :=
  (List.range 8).foldl (fun a lane =>
    if a.depotFlip pb lane = 0 then a
    else
      let w := a.free.toNat % 2 ^ 17
      let d1 := ((a.useFree.setN DEP pb (0x110 + 16 * lane) 0).setN DEP pb (0x114 + 16 * lane) 0).setN DEP pb (0x118 + 16 * lane) 0
      { d1 with depot := { d1.depot with mem := KMap.set d1.depot.mem (depotKey pb w lane) (code w lane ^^^ a.depotFlip pb lane) 0 } }) d

/-! ### The canonical form -/

/-- The stored words stand with their addresses strictly rising and no entry equal to what an unlisted address reads as (assumption 9). -/
def Memory.wf (d : Device) : Bool :=
  KMap.wf 0 d.store && KMap.wf 0 d.storeSpare && KMap.wf 0 d.prog && KMap.wf 0 d.depot.mem && KMap.wf 0 d.depot.spares
    && KMap.wf 0 d.sth.mem && KMap.wf 0 d.clerk

end Sys2Proof.Machine
end

