-- ==== Sys2Proof/WellFormed.lean ====
section
/-! DEFINITION. When a command names units that the manual gives the device. A command that does not is no command of this
hardware (assumption 8). -/

namespace Sys2Proof

/-- How many pages a block type has (R500, R503); the egress pages of BSK stand at 6,400 and on. -/
def Page.count (block : Nat) : Nat :=
  match block with
  | 0x00 => 1
  | 0x01 => 6400
  | 0x02 => 6720
  | 0x03 => 6400
  | 0x04 => 1
  | 0x05 => 1
  | 0x06 => 4
  | 0x07 => 17
  | 0x08 => 1
  | 0x09 => 64
  | 0x0A => 9
  | 0x0B => 1
  | 0x0C => 1
  | 0x0D => 1
  | 0x0E => 1
  | 0x0F => 1
  | 0x10 => 1
  | 0x11 => 1
  | 0x12 => 2
  | _ => 0

/-- R500 names the page. -/
def Page.exists (p : Page) : Bool := decide (p.unit < Page.count p.block)

/-- A basket of a physical stall, or one of the 320 edge positions (R206). -/
def LaneEnd.exists : LaneEnd → Bool
  | .basket p b => decide (p < 6400) && decide (b < 4)
  | .edge e => decide (e < 320)

/-- A word that the scrubber can reach (R404). -/
def ScrubLoc.exists : ScrubLoc → Bool
  | .stallWord p wa => decide (p < 6400) && decide (wa < 8192)
  | .depotLane bank word lane => decide (bank < 17) && decide (word < 131072) && decide (lane < 8)
  | .clerkWord addr => decide (addr < 65536)
  | .program p c pc => decide (p < 6400) && decide (c < 8) && decide (pc < 256)
  | .lut p copy i => decide (p < 6400) && decide (copy < 16) && decide (i < 256)
  | .passEnd => true

/-- Every operand names something the manual gives the device. -/
def Instr.wf : Instr → Bool
  | .registerWrite page off _ => page.exists && decide (off < 4096)
  | .rcCounterRead _ page off => page.exists && decide (off < 4096)
  | .faultBitClear page => page.exists
  | .twinValueWrite page off _ => page.exists && decide (off < 4096)
  | .twinComplementWrite page off _ => page.exists && decide (off < 4096)
  | .runStart => true
  | .runStop => true
  | .swHush _ => true
  | .belCountLoRead _ => true
  | .bell => true
  | .guardDecision => true
  | .slotStart slot => decide (slot < 512)
  | .hushRequestStart src => decide (src < 8)
  | .hushRequestEnd src => decide (src < 8)
  | .hushEnter => true
  | .hushLeave => true
  | .hushTimeout => true
  | .belHalt => true
  | .deadlock => true
  | .nop p => decide (p < 6400)
  | .mac8 p => decide (p < 6400)
  | .mac4 p => decide (p < 6400)
  | .wmac p => decide (p < 6400)
  | .dwmac p => decide (p < 6400)
  | .pmax p => decide (p < 6400)
  | .wxf p => decide (p < 6400)
  | .wadv p => decide (p < 6400)
  | .pfill p => decide (p < 6400)
  | .latch p => decide (p < 6400)
  | .rsc p => decide (p < 6400)
  | .mov p => decide (p < 6400)
  | .ldi p => decide (p < 6400)
  | .alu p => decide (p < 6400)
  | .addi p => decide (p < 6400)
  | .br p => decide (p < 6400)
  | .g8p p => decide (p < 6400)
  | .m8u p => decide (p < 6400)
  | .v8u p => decide (p < 6400)
  | .wupd p => decide (p < 6400)
  | .get p => decide (p < 6400)
  | .put p => decide (p < 6400)
  | .gett p => decide (p < 6400)
  | .djnz p => decide (p < 6400)
  | .brcmp p => decide (p < 6400)
  | .maskedFiring p => decide (p < 6400)
  | .planeFillDone p => decide (p < 6400)
  | .latchFillDone p => decide (p < 6400)
  | .winogradTransformDone p wg => decide (p < 6400) && decide (wg < 2)
  | .outputPush p d => decide (p < 6400) && decide (d < 4)
  | .contextSwitch p => decide (p < 6400)
  | .slotToken p b => decide (p < 6400) && decide (b < 4)
  | .limitToken p b => decide (p < 6400) && decide (b < 4)
  | .armToken p b => decide (p < 6400) && decide (b < 4)
  | .genToken p b => decide (p < 6400) && decide (b < 4)
  | .voidToken p b => decide (p < 6400) && decide (b < 4)
  | .invalidToken p b => decide (p < 6400) && decide (b < 4)
  | .tokenForward p => decide (p < 6400)
  | .drainPop p => decide (p < 6400)
  | .lbFeedStep p => decide (p < 6400)
  | .laneArrive dest => dest.exists
  | .creditReturn p d line => decide (p < 6400) && decide (d < 4) && decide (line < 4)
  | .spillWrite p b => decide (p < 6400) && decide (b < 4)
  | .tagWrite p b => decide (p < 6400) && decide (b < 4)
  | .ringRead p b => decide (p < 6400) && decide (b < 4)
  | .tagRead p b => decide (p < 6400) && decide (b < 4)
  | .swapArm => true
  | .swapDisarm => true
  | .swapCheckDone => true
  | .wbrStatsAckRel0 => true
  | .wbrStatsAckRel1 => true
  | .statsReady => true
  | .load => true
  | .loadFull => true
  | .abort => true
  | .loadReady _ => true
  | .stallSwitch p => decide (p < 6400)
  | .stallWritten p => decide (p < 6400)
  | .fullLoadWriteDone => true
  | .loadFailed ch => decide (ch < 64)
  | .porterGo ch => decide (ch < 64)
  | .descriptorStart ch => decide (ch < 64)
  | .descriptorEnd ch => decide (ch < 64)
  | .porterMove ch => decide (ch < 64)
  | .lateData ch => decide (ch < 64)
  | .verdictDeliver ch => decide (ch < 64)
  | .perBankRefresh chan _ => decide (chan < 6)
  | .patrolRead _ => true
  | .scrubRead loc => loc.exists
  | .ledgerEntryWrite => true
  | .ldgSwCode _ => true
  | .ethernetFrameReceive port _ => decide (port < 3)
  | .reorderTimeout stream => decide (stream < 512)
  | .decodeDone stream _ _ => decide (stream < 512)
  | .engineFault engine => decide (engine < 33)
  | .frameComplete stream => decide (stream < 512)
  | .flowWrite => true
  | .flowRead => true
  | .streamRead => true
  | .streamReadClear => true
  | .streamAdmit => true
  | .dismiss => true
  | .streamBuffersReleased stream => decide (stream < 512)
  | .normHiCWrite _ => true
  | .ptpStepNs _ => true
  | .ptpTimeLoRead _ => true
  | .gateTdrStart => true
  | .gateTdrDone pairs => decide (pairs.length = 4)
  | .linkChange port _ speed => decide (port < 3) && decide (speed < 3)
  | .crierFrameQueue seg => decide (seg < 4)
  | .crierTransmit seg _ => decide (seg < 4)
  | .segmentFrameReceive seg _ => decide (seg < 4)
  | .plcaOpportunity seg node => decide (seg < 4) && decide (node < 32)
  | .dupId seg node => decide (seg < 4) && decide (node < 32)
  | .beaconLost seg => decide (seg < 4)
  | .segmentTdrStart seg => decide (seg < 4)
  | .termFault seg term dist => decide (seg < 4) && decide (term < 8) && decide (dist < 1024)
  | .flitReceive link _ => decide (link < 8)
  | .replaySlow link => decide (link < 8)
  | .linkDown link reason => decide (link < 8) && decide (reason < 7)
  | .linkSilentTimeout link => decide (link < 8)
  | .cellSend link pos => decide (link < 8) && decide (pos < 27)
  | .receiveQueueDrain chan => decide (chan < 128)
  | .hushStart link => decide (link < 8)
  | .hushEnd link => decide (link < 8)
  | .bellMessage link => decide (link < 8)
  | .upReady link => decide (link < 8)
  | .upHalt link => decide (link < 8)
  | .decideMsg link => decide (link < 8)
  | .discover link => decide (link < 8)
  | .eqReq link => decide (link < 8)
  | .bellMiss => true
  | .linkTrain link => decide (link < 8)
  | .linkUp link _ => decide (link < 8)
  | .bar0Access off _ _ _ => decide (off < 67108864)
  | .bar2Read off n => decide (off + n ≤ 134217728)
  | .bar2Write off bytes _ => decide (off + bytes.length ≤ 134217728)
  | .winSelWrite _ => true
  | .doorbellWrite off _ => decide (off < 1048576)
  | .parkedDoorbellsApply => true
  | .ringWrite => true
  | .ringEnable => true
  | .ringDisable => true
  | .ringCoalesceTimeout ring => decide (ring < 4096)
  | .hostReset kind => decide (kind < 3)
  | .hrbBusyBegin => true
  | .hrbBusyEnd => true
  | .attentionPulse => true
  | .trestleStreamWritten => true
  | .configDone => true
  | .gsrForce _ => true
  | .userIrq line => decide (line < 8)
  | .bankVccioSample bank _ => decide (bank < 6)
  | .bankRelease _ => true
  | .trestlePortWord tp _ => decide (tp < 16)
  | .crierTxFrame tp _ => decide (tp < 16)
  | .verify _ => true
  | .report => true
  | .enroll => true
  | .release => true
  | .commitSvn _ => true
  | .resigned => true
  | .railSample rail _ => decide (rail < 16)
  | .droopDetect rail => decide (rail < 16)
  | .droopRecover rail => decide (rail < 16)
  | .droopLong rail => decide (rail < 16)
  | .thermalSample temps => decide (temps.length = 24)
  | .throttlePeriodStart => true
  | .throttleRequestEnd => true
  | .pmbSendByte _ _ _ => true
  | .pmbWriteByte _ _ _ => true
  | .pmbWriteWord _ _ _ => true
  | .pmbReadByte _ _ _ => true
  | .pmbReadWord _ _ _ => true
  | .pmbBlockRead _ _ _ len => decide (1 ≤ len ∧ len ≤ 8)
  | .pmbDone _ => true
  | .pmbAlert => true
  | .poll words => decide (words.length = 8)
  | .bist _ => true
  | .bistDone _ => true
  | .add => true
  | .drop => true
  | .wearCount osc _ => decide (osc < 698)
  | .reserveReload => true
  | .reserveRecordWrite _ => true
  | .powerOnReset => true
  | .perstAssert => true
  | .perstRelease _ => true
  | .pllLockBoot _ => true
  | .supplyHold => true
  | .bootFirmwareStart _ _ => true
  | .storehouseTrained gib => decide (1 ≤ gib ∧ gib ≤ 96)
  | .prepDone => true
  | .wdogKick _ => true
  | .watchdogExpire => true
  | .stockModeStart => true
  | .dhcpFallback => true
  | .stockAdmit stream _ => decide (stream < 512)
  | .stockStreamIdle stream => decide (stream < 512)
  | .jtagUpdateIr _ => true
  | .tapReset => true
  | .bellZeroAtGrid => true
  | .ethernetFrameTransmit port _ _ => decide (port < 3)
  | .pcieLink speed width => decide (speed < 6) && decide (width ≤ 8)
  | .storehouseDerate _ => true
  | .laneLosesLock link lane => decide (link < 8) && decide (lane < 4)
  | .captureIr => true

end Sys2Proof
end

