-- ==== Sys2Proof/Machine/Registers.lean ====
section
/-! DEFINITION. Register accesses: what a read returns (R8 to R12, R121, R124, R502 to R505), what a write does to an RW or W1C
field (R9, R10), and the rows RC_COUNTER_READ, FAULT_BIT_CLEAR and TWIN_VALUE_WRITE. -/

namespace Sys2Proof.Machine

/-! ### Live values -/

/-- Pages of a block whose IRQ_PEND is nonzero (R505). -/
def Device.pendPages (d : Device) (b : Nat) : List Nat :=
  (d.regs.filter (fun kv => decide (kv.1 % 4096 = 0x014 ∧ kv.1 / 4096 / 8192 = b
    ∧ kv.2 &&& KMap.get d.regs (kv.1 + 4) 0 ≠ 0))).map (fun kv => kv.1 / 4096 % 8192)

/-- A word with a bit for each number of a list that falls in it. -/
def bitSet (l : List Nat) (base : Nat) : Nat :=
  (List.range 32).foldl (fun acc j => if base + j ∈ l then acc + 2 ^ j else acc) 0

/-- A directory entry: instances, MAP, base (R500, R502). -/
def dirEntry (t : Nat) : Nat × Nat × Nat :=
  match t with
  | 0x00 => (1, 0, 0x0000)
  | 0x01 => (6400, 1, 0)
  | 0x02 => (6400, 1, 0)
  | 0x03 => (6400, 1, 0)
  | 0x04 => (1, 0, 0x3000)
  | 0x05 => (1, 0, 0x4000)
  | 0x06 => (4, 0, 0x10000)
  | 0x07 => (17, 0, 0x28000)
  | 0x08 => (1, 0, 0x8000)
  | 0x09 => (64, 0, 0x40000)
  | 0x0A => (9, 0, 0x18000)
  | 0x0B => (1, 0, 0x6000)
  | 0x0C => (1, 0, 0x7000)
  | 0x0D => (1, 0, 0x5000)
  | 0x0E => (1, 0, 0x9000)
  | 0x0F => (1, 0, 0xA000)
  | 0x10 => (1, 0, 0xB000)
  | 0x11 => (1, 0, 0xC000)
  | 0x12 => (2, 0, 0x1000)
  | 0x1F => (320, 0, 0x80000)
  | _ => (0, 0, 0)

/-- The host summary page (R505). -/
def Device.summary (d : Device) (off : Nat) : Nat :=
  let cols (b base : Nat) : Nat :=
    bitSet ((d.pendPages b).filterMap (fun p =>
      if p / 100 = (off - base) / 16 ∧ p < 6400 then some (p % 100) else none)) (32 * ((off - base) % 16 / 4))
  let rows (b lo : Nat) : Nat := bitSet ((d.pendPages b).filterMap (fun p => if p < 6400 then some (p / 100) else none)) lo
  if off = 0x100 then d.sumType.toNat
  else if off = 0x108 then bitSet (d.pendPages CRI) 0
  else if off = 0x10C then bitSet (d.pendPages AIS) 0
  else if off = 0x110 then bitSet (d.pendPages DEP) 0
  else if off = 0x118 then bitSet (d.pendPages PRT) 0
  else if off = 0x11C then bitSet (d.pendPages PRT) 32
  else if 0x120 ≤ off ∧ off < 0x148 then bitSet (d.pendPages BSK) (6400 + 32 * ((off - 0x120) / 4))
  else if off = 0x180 then rows STL 0
  else if off = 0x184 then rows STL 32
  else if off = 0x188 then rows BSK 0
  else if off = 0x18C then rows BSK 32
  else if off = 0x190 then rows ARC 0
  else if off = 0x194 then rows ARC 32
  else if 0xC00 ≤ off then cols ARC 0xC00
  else if 0x800 ≤ off then cols BSK 0x800
  else if 0x400 ≤ off then cols STL 0x400
  else 0

/-- The groups that are open in cycle `now`: opened and not marked last, or marked last by a firing that closes its group in a later cycle
(R97, R103). -/
def Stall.openIn (s : Stall) (now : Nat) : List (Nat × Nat) :=
  s.openGroups ++ s.stages.filterMap (fun e => match e.2 with | .close b n => if now < e.1 then some (b, n) else none | _ => none)

/-- Is an accumulation group open (R113, R124)? -/
def Stall.groupOpen (s : Stall) (now : Nat) : Bool := !(s.openIn now).isEmpty

/-- STATUS of a stall page (R124). A wait shows while its cycle is the last one or this one. DESIGN CHOICE (assumption 99): a stall that the mask
marks reads RETIRED = 1 and SPARE = 0, and every other stall without a logical position, those of a retired row among them, whose mask is
clear (R587), reads SPARE = 1 and RETIRED = 0. -/
def Device.stlStatus (d : Device) (p : Nat) : Nat :=
  let s := d.stall p
  let recent := match s.waitAt with | some t => decide (d.now ≤ t + 1) | none => false
  let retired := d.reserve.mapped && d.marked (p / 100) (p % 100)
  let pos := d.logOf p
  let gen := if (s.ctx s.cur).used then (s.ctx s.cur).gen else d.loader.gen
  s.cur + 8 * b2n (d.closed p) + 16 * b2n (!retired && pos.isNone) + 32 * b2n retired + 64 * gen.toNat
    + 2 ^ 8 * b2n (s.groupOpen d.work) + 2 ^ 9 * b2n (recent && s.waitIn) + 2 ^ 10 * b2n (recent && s.waitOut)
    + (match pos with | some rc => rc.2 * 2 ^ 19 + rc.1 * 2 ^ 26 | none => 0)

/-- Words that a basket holds. -/
def Basket.depth (k : Basket) : Nat := k.chain.length + k.spill.length + k.ringCount

/-- Packed words that an egress basket holds, the one being assembled among them (R207). -/
def Egress.depth (x : Egress) : Nat := x.packed.length + b2n x.part.isSome

/-- PKT of a basket: words with END = 1 and CTL = 0 that have entered before this cycle, those of the ring among them (R189). -/
def Basket.pkt (k : Basket) (now : Nat) : Nat :=
  ((k.chain ++ k.spill).filter (fun h => h.w.fin && !h.w.ctl && (h.old || decide (h.at_ < now)))).length + (k.ringEnds.filter id).length

/-- PKT of an egress basket. -/
def Egress.pkt (x : Egress) (now : Nat) : Nat := (x.packed.filter (fun w => w.fin && !w.ctl && decide (w.at_ < now))).length

/-- Capacity of a basket (R173). -/
def Device.capOf (d : Device) (u b : Nat) : Nat := if 6400 ≤ u then 16 else 8 + ((d.stall u).basket b).ext

/-- Is bell `n` a load bell or a halt bell, by a decision (R477) or by the loss of the master (R483)? -/
def Device.stopsAtBell (d : Device) (n : Nat) : Bool :=
  d.rb AIS 8 0x010 0 || d.bell.decided.any (fun k => decide (k.2 = n % 2 ^ 24 ∧ (k.1 = 3 ∨ (k.1 = 1 ∧ d.rf CLK 0 0x110 0 3 = 2))))

/-- Is the next bell a checked bell (R237)? While the market is halted none is, and a load bell or a halt bell is none. -/
def Device.checking (d : Device) : Bool :=
  d.rb BEL 0 0x010 0 && !d.rb BEL 0 0x010 1 && decide (d.bell.firstChecked ≤ d.bell.count + 1) && !d.bell.suspended &&
    !d.stopsAtBell (d.bell.count + 1)

/-- Rows still in use: 64 less the retired ones (R587). -/
def Device.availRows (d : Device) : Nat := 64 - ((List.range 64).filter (fun r => d.rowRetired r)).length

/-- Decoder engines that serve streams: 32 while at most one of the 33 is retired (R586). -/
def Device.availDecoders (d : Device) : Nat :=
  let dead := b2n (fld (d.mapWord 0x110).toNat 0 6 != 63) + b2n (fld (d.mapWord 0x110).toNat 8 6 != 63)
  min 32 (33 - dead)

/-- Fewest stall spares left in any row that is not retired (R601). -/
def Device.sparesMin (d : Device) : Nat :=
  (List.range 64).foldl (fun m r =>
    if d.rowRetired r then m else min m (4 - ((List.range 100).filter (fun c => d.marked r c)).length)) 4

/-- The normalisation entry that NORM_SEL selects (R451): value and complement. -/
def Device.normKey (d : Device) : Nat :=
  2048 * d.rf GAT 0 0x200 12 1 + 4 * d.rf GAT 0 0x200 2 9 + d.rf GAT 0 0x200 0 2

/-- STATUS.BUSY_SRC: BOOT, LOAD from a load bell to its completion bell, and WARDEN while an image of a full load is verified or the
attestation is re-signed (R507). RESERVE: the maps are applied within one step of the model (assumption 62). -/
def Device.busySrc (d : Device) : Nat :=
  let st := d.rf CLK 0 0x110 0 3
  b2n d.boot.booting + 2 * b2n (decide (st = 3 ∨ st = 4))
    + 8 * b2n (d.warden.resignDue || (decide (st = 1) && d.loader.full && !d.loader.reload && !d.warden.stagedOk))

/-- What a read of a register returns. -/
def Device.readReg (d : Device) (b u o : Nat) : Nat :=
  if b = DIR then
    (if 0x100 ≤ o ∧ o < 0x200 ∧ o % 8 = 0 then (dirEntry ((o - 0x100) / 8)).1 + (dirEntry ((o - 0x100) / 8)).2.1 * 65536
     else if 0x100 ≤ o ∧ o < 0x200 ∧ o % 8 = 4 then (dirEntry ((o - 0x104) / 8)).2.2
     else d.regN b u o)
  else if o = 0x01C then (d.reg b u 0x014 &&& d.reg b u 0x018).toNat
  else match b with
  | 0x01 =>
    if o = 0x010 then d.stlStatus u
    else if tb (d.stlStatus u) 4 && (decide (0x020 ≤ o ∧ o < 0x040) || decide (o = 0x104) || decide (0x180 ≤ o ∧ o < 0x1C0)
        || decide (0x400 ≤ o ∧ o < 0x500)) then 0
    else d.regN b u o
  | 0x02 =>
    if u < 6400 then
      let k := (d.stall u).basket ((o - 0x100) / 0x20)
      if 0x100 ≤ o ∧ o < 0x180 ∧ o % 0x20 = 0 then k.depth + k.pkt d.work * 65536
      else if 0x100 ≤ o ∧ o < 0x180 ∧ o % 0x20 = 4 then 8 + k.ext + (if k.ext = 0 then 0 else k.base * 65536)
      else d.regN b u o
    else
      let e := d.egress (u - 6400)
      if o = 0x100 then e.depth + e.pkt d.work * 65536
      else if o = 0x180 then
        (if e.item = 8 then 3 else if e.item = 4 then 2 else if e.item = 2 then 1 else 0) + 16 * b2n e.enabled
      else d.regN b u o
  | 0x03 => if o = 0x010 then d.arcade.wheel else d.regN b u o
  | 0x04 =>
    if o = 0x010 then
      d.regN b u o - d.rf b u o 2 3 * 4 + 4 * b2n d.bell.hushed + 8 * b2n d.bell.ptpLocked + 16 * b2n d.checking
    else if o = 0x120 then d.bellCount % 2 ^ 32
    else d.regN b u o
  | 0x05 =>
    if o = 0x100 then d.gate.ptpNs % 2 ^ 32
    else if 0x208 ≤ o ∧ o < 0x218 then
      let e := KMap.get d.gate.norm d.normKey (0, 0)
      let v := if o < 0x210 then e.1 else e.2
      if o % 8 = 0 then v.toNat % 2 ^ 32 else v.toNat / 2 ^ 32
    else d.regN b u o
  | 0x07 =>
    if o = 0x010 then
      let ret := fld (d.mapWord 0x114).toNat 0 5
      if u = 16 then (if ret = 31 then 16 else ret) else if ret = u then 16 + 32 else u
    else if o = 0x104 then
      let rs := KMap.get d.depot.remaps u []
      (rs.filter (fun r => r.active)).length + (rs.filter (fun r => r.pending && !r.active)).length * 2 ^ 8
        + (KMap.get d.depot.tracks u []).length * 2 ^ 16
    else d.regN b u o
  | 0x0D =>
    if o = 0x110 then d.regN b u o - d.rf b u o 6 1 * 64 + 64 * d.rf RSV 0 0x010 0 1
    else if o = 0x128 then
      d.availRows + d.availDecoders * 2 ^ 16
        + ((List.range 8).foldl (fun a l => if d.rf AIS l 0x010 0 3 = 2 then a + 2 ^ l else a) 0) * 2 ^ 24
    else d.regN b u o
  | 0x10 => if o = 0x010 then putFld (d.regN b u o) 16 3 d.sparesMin else d.regN b u o
  | 0x11 =>
    if 0x180 ≤ o ∧ o < 0x1C0 ∧ o % 4 = 0 then
      match d.trestle.ports[(o - 0x180) / 4]? with
      | some p => p.kind + min 16 p.words.length * 16 + p.edge * 2 ^ 16 + p.seg * 2 ^ 26
      | none => 0
    else d.regN b u o
  | 0x12 =>
    if u = 1 then (if o < 0x100 then d.regN b u o else d.summary o)
    else if o = 0x010 then putFld (d.regN b u o) 1 4 d.busySrc
    else if o = 0x118 then putFld (d.regN b u o) 4 1 (b2n (d.ring (d.rf HST 0 0x110 0 12)).enabled)
    else d.regN b u o
  | _ => d.regN b u o

/-- A read at any offset of a page: a listed register, the complement half of a twin register (R12), or 0 (R8). -/
def Device.readAt (d : Device) (b u o : Nat) : Nat :=
  let s := regSpec b u o
  if s.acc = .wo then 0
  else if s.acc != .none_ then (BitVec.ofNat 32 (d.readReg b u o) &&& BitVec.ofNat 32 s.mask).toNat
  else
    let v := regSpec b u (o - 4)
    if 4 ≤ o ∧ v.acc = .tw then (~~~d.reg b u (o - 4) &&& BitVec.ofNat 32 v.mask).toNat else 0

/-! ### Writes -/

/-- A copy of the selected ring into RING_DATA (R511, READ). -/
def Device.ringRead (d : Device) : Device :=
  let r := d.ring (d.rf HST 0 0x110 0 12)
  let d1 := ((d.setN HST 0 0x120 (r.addr % 2 ^ 32)).setN HST 0 0x124 (r.addr / 2 ^ 32)).setN HST 0 0x128 (r.size + r.vector * 65536)
  (((d1.setN HST 0 0x12C (r.coalCnt + r.coalUs * 256)).setN HST 0 0x130 r.pi).setN HST 0 0x134 r.ci).setF HST 0 0x118 0 3 0

/-- WIN_SEL: a write of 3 leaves a field unchanged (R501, R525). -/
def Device.winSel (d : Device) (val : Word) : Device :=
  let a := fld val.toNat 0 2
  let b := fld val.toNat 2 2
  let d1 := if a = 3 then d else d.setF HST 0 0x100 0 2 a
  if b = 3 then d1 else d1.setF HST 0 0x100 2 2 b

/-- A write of 1 to the fault bit: the fault registers clear, unless a fault is recorded in this cycle; then they hold it, the
lower value of two (R348, R504). -/
def Device.clearFault (d : Device) (b u : Nat) : Device :=
  match (d.newFaults.filter (fun f => f.1 = regKey b u 0)).foldl
      (fun (m : Option (Nat × Nat × Word × Word)) f => match m with
        | none => some f
        | some g => if f.2.1 < g.2.1 then some f else m) none with
  | some f => { d.setFaultRegs b u f.2.1 f.2.2.1 f.2.2.2 with fresh := KMap.put d.fresh (regKey b u 0x020) (0, 1) }
  | none => (d.setFaultRegs b u 0 0 0).setB b u 0x014 (faultBit b) false

/-- A write of 1 to W1C bits clears them, but for those that hardware sets in this cycle (R9, R10). -/
def Device.clearW1C (d : Device) (b u : Nat) (val : Word) : Device :=
  let m := val &&& BitVec.ofNat 32 (regSpec b u 0x014).mask
  let keep : Word := BitVec.ofNat 32 (d.freshOf b u 0x014).2
  let d1 := if m.getLsbD (faultBit b) then d.clearFault b u else d
  d1.setReg b u 0x014 (d1.reg b u 0x014 &&& ~~~(m &&& ~~~keep))

/-- What a write leaves in an RW register: each table's limits, "a write outside leaves the field unchanged". -/
def Device.limited (d : Device) (b u o : Nat) (v : Nat) : Nat :=
  let old := d.regN b u o
  match b, o with
  | 0x04, 0x138 => if v < 256 then old else v
  | 0x04, 0x140 => if v < 1024 then old else v
  | 0x05, 0x220 => if v = 0 then old else v
  | 0x06, 0x100 => if 1 ≤ fld v 8 6 ∧ fld v 8 6 ≤ 32 then v else putFld v 8 6 (fld old 8 6)
  | 0x0B, 0x100 => if 1 ≤ v ∧ v ≤ 256 then v else old
  | 0x0B, 0x104 => if v = 0 then old else v
  | 0x0B, 0x114 => if v < 1024 then old else v
  | 0x0C, 0x104 => if v = 0 ∨ (8 ≤ v ∧ v ≤ 16) then v else old
  | 0x0C, 0x10C => if (d.regN LDG 0 0x108 + 2 ^ 32 - v) % 2 ^ 32 ≤ 2 ^ d.rf LDG 0 0x104 0 5 then v else old
  | 0x0F, 0x264 =>
    if fld v 0 8 < fld v 8 8 ∧ fld v 8 8 < fld v 16 8 ∧ fld v 16 8 < fld v 24 8 ∧ fld v 24 8 ≤ 125 then v else old
  | 0x02, _ => if o % 0x20 = 8 ∧ d.capOf u ((o - 0x100) / 0x20) < v then old else v
  | _, _ => v

/-- A write to a register that has no row of its own (R8, R9, R122). -/
def Device.writeReg (d : Device) (b u o : Nat) (val : Word) : Device :=
  let s := regSpec b u o
  let v := (val &&& BitVec.ofNat 32 s.mask).toNat
  match s.acc with
  | .w1c => d.clearW1C b u val
  | .rw => if b = HST ∧ u = 0 ∧ o = 0x100 then d.winSel val else d.setN b u o (d.limited b u o v)
  | .closed =>
    if !d.closed u then d
    else if o = 0x100 ∧ v = 0 then d
    else if 0x500 ≤ o then
      (d.setN b u o v).updStall u (fun t => { t with lutBad := t.lutBad.filter (fun x => x.2 / 4 != (o - 0x500) / 4) })
    else d.setN b u o v
  | _ => d

/-- The completion of a read. -/
def Device.answer (d : Device) (v : Nat) : Device := { d with reply := { value := v, bytes := [], poisoned := false } }

/-- While the cause is BOOT, a host read of a block page returns the register's reset value and changes nothing (R608). -/
def Device.hostBoot (d : Device) (who : Agent) : Bool := d.boot.booting && decide (who = .host)

/-- The reset value as a read returns it. -/
def resetRead (b u o : Nat) : Nat :=
  let s := regSpec b u o
  if s.acc = .wo then 0
  else if s.acc != .none_ then s.reset % 2 ^ 32
  else
    let v := regSpec b u (o - 4)
    if 4 ≤ o ∧ v.acc = .tw then (~~~BitVec.ofNat 32 v.reset &&& BitVec.ofNat 32 v.mask).toNat else 0

/-- A register read with its side effects: an RC counter returns the value before this cycle's events and keeps those
(R9, R10); a read of BEL_COUNT_LO or PTP_TIME_LO latches the high word (R252, R462). -/
def Device.readWith (d : Device) (who : Agent) (b u o : Nat) : Device :=
  if d.hostBoot who && b != DIR then d.answer (resetRead b u o)
  else if (regSpec b u o).acc = .rc then
    let f := d.freshOf b u o
    let shown := if d.readAt b u o = 0 then 0 else f.1
    { d.setN b u o f.2 with fresh := KMap.put d.fresh (regKey b u o) (0, f.2) }.answer shown
  else
    let d1 := if b = BEL ∧ o = 0x120 then d.setN BEL 0 0x124 (d.bellCount / 2 ^ 32)
      else if b = GAT ∧ o = 0x100 then d.setN GAT 0 0x104 (d.gate.ptpNs / 2 ^ 32 % 2 ^ 32) else d
    d1.answer (d.readAt b u o)

/-! ### The rows -/

/-- RC_COUNTER_READ, and a read of any other register. -/
def execRcCounterRead (who : Agent) (page : Page) (off : Nat) (s : State) : Host.Outcome State Fault Refusal :=
  s.act (Instr.wf (.rcCounterRead who page off)) (fun d => d.readWith who page.block page.unit off)

/-- FAULT_BIT_CLEAR. -/
def execFaultBitClear (page : Page) (s : State) : Host.Outcome State Fault Refusal :=
  s.act (Instr.wf (.faultBitClear page)) (fun d => if page.block = DIR then d else d.clearFault page.block page.unit)

/-- The pending holder of a twin register (R11, R635). -/
def Device.twinPending (d : Device) (b u o : Nat) : Word := (KMap.get d.twins (regKey b u o) none).getD (d.reg b u o)

/-- Twin registers of an arcade page take writes only while the stall is closed (the line before R214). -/
def Device.twinOpen (d : Device) (b u : Nat) : Bool := if b = ARC then d.closed u else true

/-- A write to the value half of a twin register: the listed bits go to the pending holder (R11, R12, R635). -/
def Device.twinValue (d : Device) (b u o : Nat) (val : Word) : Device :=
  let s := regSpec b u o
  if s.acc = .tw && d.twinOpen b u then
    { d with twins := KMap.put d.twins (regKey b u o) (some (val &&& BitVec.ofNat 32 s.mask)) }
  else d

/-- TWIN_VALUE_WRITE. -/
def execTwinValueWrite (page : Page) (off : Nat) (val : Word) (s : State) : Host.Outcome State Fault Refusal :=
  s.act (Instr.wf (.twinValueWrite page off val)) (fun d => d.twinValue page.block page.unit off val)

/-- BEL_COUNT_LO_READ. -/
def execBelCountLoRead (who : Agent) (s : State) : Host.Outcome State Fault Refusal :=
  s.act (Instr.wf (.belCountLoRead who)) (fun d => d.readWith who BEL 0 0x120)

/-- PTP_TIME_LO_READ. -/
def execPtpTimeLoRead (who : Agent) (s : State) : Host.Outcome State Fault Refusal :=
  s.act (Instr.wf (.ptpTimeLoRead who)) (fun d => d.readWith who GAT 0 0x100)

end Sys2Proof.Machine
end

