-- ==== Sys2Proof/Machine/Hush.lean ====
section
/-! DEFINITION. The hush (R229 to R234), the run control of the bell (R221, R226), halt reports and the deadlock watchdog (R249,
R251), and the messages that carry them to other chips (R477 to R479). -/

namespace Sys2Proof.Machine

/-! ### Messages to other chips -/

/-- Links that are up (R492). -/
def Device.upLinks (d : Device) : List Nat := (List.range 8).filter (fun l => d.rf AIS l 0x010 0 3 = 2)

/-- This chip's index: CHIP_INDEX as of the last training (R493). -/
def Device.chipIndex (d : Device) : Nat := d.aisles.index

/-- Is this chip the bell master (R222)? -/
def Device.isMaster (d : Device) : Bool := d.rb BEL 0 0x008 1

/-- A message joins the control queue of a link, which holds 32 (R478). DESIGN CHOICE (assumption 118): the manual does not state what becomes
of a message that finds the queue full; it is lost. -/
def Device.pushCtl (d : Device) (l : Nat) (m : AisleMsg) : Device :=
  let k := d.link l
  if 32 ≤ k.ctl.length then d else d.setLink l { k with ctl := k.ctl ++ [m] }

/-- A new message of this chip, on the given links; message numbers are 4 bits (R477). -/
def Device.sendNew (d : Device) (links : List Nat) (type a b c : Nat) : Device :=
  let m : AisleMsg := ⟨type, d.chipIndex, d.aisles.msgNo, a, b, c⟩
  let d1 := links.foldl (fun acc l => acc.pushCtl l m) d
  { d1 with aisles := { d1.aisles with msgNo := (d1.aisles.msgNo + 1) % 16 } }

/-- A message towards the master, on the timing link (R478). -/
def Device.sendUp (d : Device) (type a : Nat) : Device :=
  if d.isMaster || !d.rb AIS 8 0x010 7 then d else d.sendNew [d.rf AIS 8 0x010 4 3] type a 0 0

/-! ### Readiness of the market (R70, R320, R480) -/

/-- Sections of an image for a chip: its own index or 0xFFFF (R306). -/
def sectionsFor (img : Image) (chip : Nat) : List (Nat × Section) :=
  (img.sections.zipIdx).filterMap (fun si => if si.1.chip = chip ∨ si.1.chip = 0xFFFF then some (si.2, si.1) else none)

/-- The Aisle records of a chip (R488). -/
def aisleRecs (img : Image) (chip : Nat) : List Nat :=
  (sectionsFor img chip).flatMap (fun s => match s.2.body with | .aisle l => l.map (fun r => r.toNat) | _ => [])

/-- Links whose partner has its timing link on them: the chips that report through this one (R478, R480). -/
def Device.children (d : Device) : List Nat :=
  match d.loader.staged.orElse (fun _ => d.loader.running) with
  | none => []
  | some img => (aisleRecs img d.chipIndex).filterMap (fun r =>
      if fld r 0 2 = 0 ∧ tb r 24 ∧ (aisleRecs img (fld r 5 15)).any (fun q =>
          decide (fld q 0 2 = 0 ∧ fld q 2 3 = fld r 20 3 ∧ tb q 23)) then some (fld r 2 3) else none)

/-- Is this chip ready itself: 0 swap READY, 1 LOAD_READY, 2 LOADED (R477)? -/
def Device.ownReady (d : Device) (kind : Nat) : Bool :=
  match kind with
  | 0 => d.rb WBR 0 0x010 3
  | 1 => d.loader.ready
  | _ => d.loader.loaded

/-- Is every chip that this one can see ready (R480)? At the master, that is the market (R70, R320). -/
def Device.marketReady (d : Device) (kind : Nat) : Bool :=
  d.ownReady kind && d.children.all (fun l => decide ((kind, l) ∈ d.aisles.upSeen))

/-- Once ready with all the chips behind it, a chip tells the master (R480). -/
def Device.relayReady (d : Device) (kind : Nat) : Device := if d.marketReady kind then d.sendUp 4 kind else d

/-- The UP_READY reports of a kind are spent. -/
def Device.spendReady (d : Device) (kind : Nat) : Device :=
  { d with aisles := { d.aisles with upSeen := d.aisles.upSeen.filter (fun u => decide (u.1 ≠ kind)) } }

/-! ### Requests (R230, R231) -/

/-- Sources that hold a request and are not ignored (R233). -/
def Device.asking (d : Device) : List Nat := d.bell.reqs.filter (fun s => s ∉ d.bell.ignored)

/-- A source begins to hold its request; sources 0 to 5 tell the other chips (R230, R232, R479). Source 7 never requests. -/
def Device.hushRequest (d : Device) (src : Nat) : Device :=
  if src = 7 ∨ src ∈ d.bell.reqs then d
  else
    let d1 := { d with bell := { d.bell with reqs := d.bell.reqs ++ [src] } }
    if src < 6 then d1.sendNew d1.upLinks 1 (d.bellCount % 256) (d.rf BEL 0 0x128 0 24) 1 else d1

/-- Channels whose WAITING is 1 (R391). -/
def Device.lateChans (d : Device) : List Nat := (List.range 64).filter (fun c => d.rb PRT c 0x010 4)

/-- A source drops its request; a source that was ignored since a timeout counts again from its next one (R233). With source 4, no
channel waits any more. -/
def Device.hushDrop (d : Device) (src : Nat) : Device :=
  if src ∈ d.bell.reqs then
    let d := if src = 4 then d.lateChans.foldl (fun a c => a.setB PRT c 0x010 4 false) d else d
    let told := decide (src < 6 ∧ src ∉ d.bell.ignored)
    let d1 := { d with bell := { d.bell with reqs := dropAll src d.bell.reqs, ignored := dropAll src d.bell.ignored } }
    if told then d1.sendNew d1.upLinks 2 (d.bellCount % 256) (d.rf BEL 0 0x128 0 24) 1 else d1
  else d

/-- HUSH_REQUEST_START. -/
def execHushRequestStart (src : Nat) (s : State) : Host.Outcome State Fault Refusal :=
  s.act (Instr.wf (.hushRequestStart src)) (fun d => d.hushRequest src)

/-- HUSH_REQUEST_END. -/
def execHushRequestEnd (src : Nat) (s : State) : Host.Outcome State Fault Refusal :=
  s.act (Instr.wf (.hushRequestEnd src)) (fun d => d.hushDrop src)

/-- CTRL.SW_HUSH changes: source 5 asks or drops its request (R230, R253). -/
def Device.swHush (d : Device) (on : Bool) : Device :=
  let d1 := d.setB BEL 0 0x008 3 on
  if on then d1.hushRequest 5 else d1.hushDrop 5

/-- SW_HUSH. -/
def execSwHush (on : Bool) (s : State) : Host.Outcome State Fault Refusal :=
  s.act (Instr.wf (.swHush on)) (fun d => d.swHush on)

/-- Was a request held 3 cycles ago, so that this cycle is to be hushed (R231)? -/
def Device.hushDue (d : Device) : Bool := !(d.bell.delay.getD 2 []).isEmpty

/-- HUSH_ENTER: a request was held 3 cycles ago (R231). -/
def Device.hushEnter (d : Device) : Device :=
  if !d.bell.hushed && d.hushDue then { d with bell := { d.bell with hushed := true } } else d

def execHushEnter (s : State) : Host.Outcome State Fault Refusal := s.act (Instr.wf .hushEnter) Device.hushEnter

/-- Sources 0 to 5 of a list. -/
def ownOf (l : List Nat) : List Nat := l.filter (fun s => decide (s < 6))

/-- The STAMP of the cycle 3 before this one: bell count [7:0] and BEL_CYCLE (R477). -/
def Device.stampBack (d : Device) : Nat × Nat :=
  let c := d.rf BEL 0 0x128 0 24
  if 3 ≤ c then (d.bellCount % 256, c - 3) else ((d.bellCount + 255) % 256, d.bell.prevLen + c - 3)

/-- HUSH_TIMEOUT: own sources have held a continuous hush for HUSH_LIMIT cycles (R233). The hush of these sources ends with this cycle, here and,
by an end stamped 3 cycles back (R232, R479), after as many cycles on the other chips. -/
def Device.hushTimeout (d : Device) : Device :=
  let own := ownOf d.asking
  let held := (ownOf (d.bell.delay.getD 2 [])).foldl (fun l s => insertNew s l) own
  if d.bell.hushed && decide (d.rf BEL 0 0x138 0 24 ≤ d.bell.hushRun) && !(ownOf (d.bell.delay.getD 2 [])).isEmpty then
    let d1 := ((d.raise BEL 0 5).count16 BEL 0 0x03C).setN BEL 0 0x13C (bitSet held 0)
    let d2 := own.foldl (fun a _ => a.sendNew a.upLinks 2 d.stampBack.1 d.stampBack.2 1) d1
    let rest := d2.bell.delay.map (fun l => l.filter (fun s => decide (6 ≤ s)))
    { d2 with bell := { d2.bell with ignored := d2.bell.ignored ++ own, delay := rest, hushed := !(rest.getD 2 []).isEmpty, hushRun := 0 } }
  else d

/-! ### Halt and deadlock (R249, R251) -/

/-- A halt cause is reported to the bell master; causes are numbered in the order of R249. -/
def Device.reportHalt (d : Device) (cause : Nat) : Device :=
  let d1 := { d with bell := { d.bell with halting := true } }
  d1.sendUp 5 cause

/-- A write of HALT to BEL_HALT (R249). -/
def execBelHalt (s : State) : Host.Outcome State Fault Refusal := s.act (Instr.wf .belHalt) (fun d => d.reportHalt 3)

/-- The stall that DEADLOCK names: the lowest page whose current context is inside a body and waits for input. -/
def Device.deadlocked (d : Device) : Option (Nat × Stall) :=
  d.stalls.find? (fun e => e.2.waitIn && !d.closed e.1 && (e.2.ctx e.2.cur).inBody)

/-- DEADLOCK: the watchdog count has reached DL_LIMIT (R251). -/
def Device.deadlock (d : Device) : Device :=
  if d.rb BEL 0 0x008 4 && decide (d.bell.dl = d.rf BEL 0 0x140 0 24) then
    let loc := match d.deadlocked with
      | some e => d.whereP e.1 e.2.waitOn 0 e.2.cur 0
      | none => 0
    ((d.fault BEL 0 0x5002 loc).raise BEL 0 4).reportHalt 1
  else d

def execDeadlock (s : State) : Host.Outcome State Fault Refusal := s.act (Instr.wf .deadlock) Device.deadlock

/-! ### Run control -/

/-- The committed period P in units of 1/65,536 cycle. -/
def Device.period (d : Device) : Nat := d.bell.int * 65536 + d.bell.frac

/-- PTP_ORIGIN, 64 bits (R255). -/
def Device.ptpOrigin (d : Device) : Nat := d.regN BEL 0 0x150 + d.regN BEL 0 0x154 * 2 ^ 32

/-- Index of the next grid time after the present PTP time (R226). -/
def Device.nextGrid (d : Device) : Int :=
  ((d.gate.ptpNs : Int) - d.ptpOrigin) * 65536 / ((d.period : Int) * 5) + 1

/-- CTRL.RUN goes to 1 (R221): with no bell due, bell 0 is awaited, and what was decided for bells of an earlier run is void; during the last
round, the stop is cancelled. -/
def Device.runStart (d : Device) : Device :=
  let d1 := d.setB BEL 0 0x008 0 true
  if d.rb BEL 0 0x008 0 || d.rb BEL 0 0x010 0 then d1
  else
    let g := if d.rb BEL 0 0x008 2 && d.isMaster then some d.nextGrid else none
    { d1 with bell := { d1.bell with waiting := true, count := 0, acc := 0, firstChecked := 2, grid := g, decided := [] } }

/-- CTRL.RUN goes to 0 (R221): the round in progress runs to its end. -/
def Device.runStop (d : Device) : Device :=
  let d1 := d.setB BEL 0 0x008 0 false
  { d1 with bell := { d1.bell with waiting := false } }

def execRunStart (s : State) : Host.Outcome State Fault Refusal := s.act (Instr.wf .runStart) Device.runStart
def execRunStop (s : State) : Host.Outcome State Fault Refusal := s.act (Instr.wf .runStop) Device.runStop

end Sys2Proof.Machine
end

