-- ==== Sys2Proof/Machine/Spares.lean ====
section
/-! DEFINITION. Candidates for a spare and the pending map they make (R586, R587, R592, R593), and the units that wait for a self-test. -/

namespace Sys2Proof.Machine

/-! ### Units that wait for a self-test (R588, R592, R601) -/

/-- Put the units of an oscillator on BIST_PENDING. -/
def Device.bistPending (d : Device) (osc : Nat) : Device := d.setB RSV 0 (0x120 + 4 * (osc / 32)) (osc % 32) true

/-- The oscillator that covers a stall (R588). -/
def stallOsc (p : Nat) : Nat := p / 100 * 10 + p % 100 / 10

/-! ### The pending map -/

def actMask (r w : Nat) : Nat := 0x400 + 16 * r + 4 * w
def pendMask (r w : Nat) : Nat := 0x800 + 16 * r + 4 * w

/-- The retired engines of the active map. -/
def Device.actDec (d : Device) : List Nat :=
  [fld (d.mapWord 0x110).toNat 0 6, fld (d.mapWord 0x110).toNat 8 6].filter (fun e => decide (e ≠ 63))

/-- The retired bank of the active map. -/
def Device.actDep (d : Device) : Option Nat :=
  if fld (d.mapWord 0x114).toNat 0 5 = 31 then none else some (fld (d.mapWord 0x114).toNat 0 5)

/-- The word of DEC_MAP that names some engines, and that of DEP_MAP for a bank (R601). -/
def decWord (l : List Nat) : Word := BitVec.ofNat 32 (l.getD 0 63 + l.getD 1 63 * 256)
def depWord (b : Option Nat) : Word := BitVec.ofNat 32 (b.getD 31)

/-- The words of the pending entries that no register holds: 0 the decoders, 1 the Depot bank, 2 + link the lanes, from 10 on the row
repairs, from 11 on the steered wires. -/
def Reserve.pendWords (r : Reserve) : List (Nat × Word) :=
  [(0, decWord r.pendDec), (1, depWord r.pendDep)]
    ++ (List.range 8).map (fun l => (2 + l, BitVec.ofNat 32 (KMap.get r.pendLane l 0)))
    ++ (r.pendRows.zipIdx).map (fun x => (10 + 2 * x.2, BitVec.ofNat 32 (x.1.1 + 2 ^ 13 * x.1.2.1 + 2 ^ 16 * x.1.2.2)))
    ++ (r.pendWires.zipIdx).map (fun x => (11 + 2 * x.2, BitVec.ofNat 32 (x.1.1 + 2 ^ 13 * x.1.2.1 + 2 ^ 16 * x.1.2.2)))

/-- Their complements are written with them (R593). -/
def Reserve.seal (r : Reserve) : Reserve :=
  { r with pendComps := r.pendWords.foldl (fun m kv => KMap.set m kv.1 (~~~kv.2) (if kv.1 = 0 then ~~~decWord [] else if kv.1 = 1 then ~~~depWord none else ~~~0)) [] }

/-- Does a pending entry fail its twin check? -/
def Reserve.pendBad (r : Reserve) (k : Nat) : Bool :=
  match r.pendWords.find? (fun x => x.1 == k) with
  | some x => decide (KMap.get r.pendComps k (if k = 0 then ~~~decWord [] else if k = 1 then ~~~depWord none else ~~~0) ≠ ~~~x.2)
  | none => false

/-- The pending entries without those that fail: a mismatch disables an entry (R593). -/
def Reserve.sound (r : Reserve) : Reserve :=
  { r with
    pendDec := if r.pendBad 0 then [] else r.pendDec
    pendDep := if r.pendBad 1 then none else r.pendDep
    pendLane := r.pendLane.filter (fun kv => !r.pendBad (2 + kv.1))
    pendRows := ((r.pendRows.zipIdx).filter (fun x => !r.pendBad (10 + 2 * x.2))).map (fun x => x.1)
    pendWires := ((r.pendWires.zipIdx).filter (fun x => !r.pendBad (11 + 2 * x.2))).map (fun x => x.1) }

/-- Offsets of the map words that differ from their reset value, or whose complement does. -/
def Device.mapOffsets (d : Device) : List Nat :=
  let offs := d.regs.filterMap (fun kv => if kv.1 / 4096 = RSV * 8192 ∧ (kv.1 % 4096 = 0x110 ∨ kv.1 % 4096 = 0x114 ∨ 0x400 ≤ kv.1 % 4096 ∧ kv.1 % 4096 < 0xC00)
    then some (kv.1 % 4096) else none)
  d.reserve.comps.foldl (fun l kv => insertNew kv.1 l) offs

/-- Every map word and every pending entry is checked; the failing pending entries are disabled, and INTEG is raised for each (R411, R593). -/
def Device.checkMaps (d : Device) : Device :=
  let bad := (d.reserve.pendWords.filter (fun x => d.reserve.pendBad x.1)).length
  let d1 := d.mapOffsets.foldl (fun a o => a.mapCheck o) d
  let d2 := (List.range bad).foldl (fun a _ => a.integ RSV 0 0) d1
  if bad = 0 then d2 else { d2 with reserve := d2.reserve.sound.seal }

/-- Mark a stall in the pending mask; a fifth in one row retires the row (R587). -/
def Device.pendStall (d : Device) (p : Nat) : Device :=
  let r := p / 100
  let c := p % 100
  let mark := fun (x : Nat) => (d.mapWord (pendMask r (x / 32))).getLsbD (x % 32)
  if (d.mapWord (pendMask r 3)).getLsbD 31 || mark c then d
  else if 4 ≤ ((List.range 100).filter mark).length then
    (List.range 4).foldl (fun a w => a.setMap (pendMask r w) (if w = 3 then BitVec.ofNat 32 (2 ^ 31) else 0)) d
  else d.setMap (pendMask r (c / 32)) (BitVec.ofNat 32 (putFld (d.mapWord (pendMask r (c / 32))).toNat (c % 32) 1 1))

/-- One candidate enters the pending map (R586, R593). -/
def Device.pendCand (d : Device) (c : Cand) : Device :=
  match c.kind with
  | 0 => d.pendStall c.index
  | 1 => if d.reserve.pendDep.isNone then { d with reserve := { d.reserve with pendDep := some c.index } } else d
  | 2 => if d.reserve.pendDec.length < 2 then
      { d with reserve := { d.reserve with pendDec := insertNew c.index d.reserve.pendDec } } else d
  | _ => if KMap.get d.reserve.pendLane (c.index / 5) 0 = 0 then
      { d with reserve := { d.reserve with pendLane := KMap.put d.reserve.pendLane (c.index / 5) (c.index % 5 + 1) } } else d

/-- Does the pending map differ from the active map (R593)? -/
def Device.mapDiffers (d : Device) : Bool :=
  (List.range 64).any (fun r => (List.range 4).any (fun w => d.mapWord (pendMask r w) != d.mapWord (actMask r w)))
    || decide (d.reserve.pendDec ≠ d.actDec) || decide (d.reserve.pendDep ≠ d.actDep)
    || (List.range 8).any (fun l => KMap.get d.reserve.pendLane l 0 != (if d.rf AIS l 0x100 0 3 = 7 then 0 else d.rf AIS l 0x100 0 3 + 1))
    || decide (d.reserve.pendRows ≠ d.reserve.actRows) || !d.reserve.pendWires.isEmpty

/-- The pending map from the active map and the candidates, stalls first (R593). -/
def Device.rebuildMap (d : Device) : Device :=
  let d0 := d.checkMaps
  let d1 := (List.range 64).foldl (fun a r => (List.range 4).foldl (fun b w => b.setMap (pendMask r w) (b.mapWord (actMask r w))) a) d0
  let lanes : KMap Nat := (List.range 8).foldl (fun m l =>
    if d.rf AIS l 0x100 0 3 = 7 then m else KMap.put m l (d.rf AIS l 0x100 0 3 + 1)) []
  let d2 := { d1 with reserve := { d1.reserve with pendDec := d1.actDec, pendDep := d1.actDep, pendLane := lanes } }
  let order := [0, 2, 1, 3].flatMap (fun k => d.reserve.cands.filter (fun c => decide (c.kind = k)))
  let d3 := order.foldl (fun a c => a.pendCand c) d2
  let d4 := { d3 with reserve := d3.reserve.seal }
  d4.setB RSV 0 0x010 0 d4.mapDiffers

/-- Does a unit of RSV_UNIT's form exist (R601)? -/
def Cand.onChip (c : Cand) : Bool :=
  match c.kind with
  | 0 => decide (c.index < 6400)
  | 1 => decide (c.index < 17)
  | 2 => decide (c.index < 33)
  | 3 => decide (c.index < 40)
  | _ => false

/-- RSV_UNIT form of a unit. -/
def Cand.unit (c : Cand) : Nat := c.kind + c.index * 16

/-- A unit becomes a candidate (R592); the cause is the row of R592's table. With no spare bank left, DEPOT_NO_SPARE is written
(R586). -/
def Device.candidate (d : Device) (c : Cand) (cause : Nat) : Device :=
  if c ∈ d.reserve.cands then d
  else
    let d1 := ((d.raise RSV 0 0).count16 RSV 0 0x030).log 0xB701 RSV 0 0 (c.unit + cause * 2 ^ 20)
    let d2 := if c.kind = 1 ∧ d1.reserve.pendDep.isSome then d1.log 0xB704 RSV 0 0 c.index else d1
    ({ d2 with reserve := { d2.reserve with cands := d2.reserve.cands ++ [c] } }).rebuildMap

end Sys2Proof.Machine
end

