-- ==== Sys2Proof/Machine/Arcade.lean ====
section
/-! DEFINITION. Baskets, lanes, credits, the extension ring and the egress baskets (R168 to R211). Times are counted on the clock
of unhushed cycles, `Device.work`, because the hush freezes all of these (R205). -/

namespace Sys2Proof

open Sys2Proof.Machine

/-! ### The basket word (R168) -/

/-- The parity that makes bits [69:0] hold an even number of ones. -/
def BWord.parBit (w : BWord) : Bool :=
  (((parityOf 64 w.data.toNat != w.fin) != w.spoil) != parityOf 2 w.gen.toNat) != w.ctl

/-- A word with PAR computed (R170). -/
def BWord.sealed (w : BWord) : BWord := { w with par := w.parBit }

/-- Does the word pass its parity check (R190)? -/
def BWord.parOk (w : BWord) : Bool := decide (w.par = w.parBit)

/-- A control token: payload and complement; a token carries END = 0 (R157, R169). -/
def tokenWord (payload : Word) (gen : BitVec 2) : BWord :=
  BWord.sealed { data := ~~~payload ++ payload, fin := false, spoil := false, gen := gen, ctl := true, par := false }

/-- A data word. -/
def dataWord (v : DWord) (fin spoil : Bool) (gen : BitVec 2) : BWord :=
  BWord.sealed { data := v, fin := fin, spoil := spoil, gen := gen, ctl := false, par := false }

/-- Payload of a token: its low half. -/
def BWord.payload (w : BWord) : Word := w.data.setWidth 32
/-- The twin check of a token (R159). -/
def BWord.twinOk (w : BWord) : Bool := decide ((w.data >>> 32).setWidth 32 = ~~~w.payload)
/-- KIND and CTX of a token (R157). -/
def BWord.kind (w : BWord) : Nat := fld w.payload.toNat 28 4
def BWord.tctx (w : BWord) : Nat := fld w.payload.toNat 25 3
/-- Slot number of a SLOT or VOID token. -/
def BWord.slot (w : BWord) : Nat := fld w.payload.toNat 0 9
/-- Is the token a GEN token? -/
def BWord.isGen (w : BWord) : Bool := w.ctl && decide (w.kind = 4)

end Sys2Proof

namespace Sys2Proof.Machine

/-! ### Geometry of the Square (R206) -/

/-- The stall and side at an edge position, for the rows of the running image. -/
def Device.edgeStall (d : Device) (e : Nat) : Option (Nat × Nat) :=
  if e < 96 then (d.physOf 0 e).map (fun p => (p, 0))
  else if e < 160 then (if e - 96 < d.arcade.rows then (d.physOf (e - 96) 95).map (fun p => (p, 1)) else none)
  else if e < 256 then (d.physOf (d.arcade.rows - 1) (e - 160)).map (fun p => (p, 2))
  else if e < 320 then (if e - 256 < d.arcade.rows then (d.physOf (e - 256) 0).map (fun p => (p, 3)) else none)
  else none

/-- Where the lane output `o` of a physical stall leads. -/
def Device.laneTo (d : Device) (p o : Nat) : Option LaneEnd :=
  match d.logOf p with
  | none => none
  | some (r, c) =>
    match o with
    | 0 => if r = 0 then some (.edge c) else (d.physOf (r - 1) c).map (fun q => .basket q 2)
    | 1 => if c = 95 then some (.edge (96 + r)) else (d.physOf r (c + 1)).map (fun q => .basket q 3)
    | 2 => if r + 1 = d.arcade.rows then some (.edge (160 + c)) else (d.physOf (r + 1) c).map (fun q => .basket q 0)
    | _ => if c = 0 then some (.edge (256 + r)) else (d.physOf r (c - 1)).map (fun q => .basket q 1)

/-! ### Faults of R211 -/

/-- A stall and its four neighbours join BIST_PENDING (R592). -/
def Device.suspect (d : Device) (p : Nat) : Device :=
  let near := (List.range 4).filterMap (fun o => match d.laneTo p o with | some (.basket q _) => some q | _ => none)
  (p :: near).foldl (fun a q => a.bistPending (stallOsc q)) d

/-- A hardware fault of a basket: the stall holds closed from the following cycle until the next full load, and the market halts (R164,
R211, R249). -/
def Device.basketFault (d : Device) (p code b index : Nat) : Device :=
  (((d.fault BSK p code (d.whereP p b 0 0 index)).updStall p (fun s => { s with faulting := true })).suspect p).reportHalt 2

/-! ### Entering a basket -/

/-- A word arrives at a basket (R182, R188, R211). -/
def Device.basketPush (d : Device) (p b : Nat) (w : BWord) : Device :=
  let k := (d.stall p).basket b
  if 8 + k.ext ≤ k.depth then d.basketFault p 0x6001 b 0
  else if k.spill.isEmpty && decide (k.ringCount = 0) && decide (k.chain.length < 8) then
    d.setBasket p b { k with chain := k.chain ++ [{ w := w, at_ := d.work }] }
  else if 4 ≤ k.spill.length then d.basketFault p 0x6002 b 4
  else d.setBasket p b { k with spill := k.spill ++ [{ w := w, at_ := d.work }] }

/-! ### Leaving a basket -/

/-- The word at the head at the start of the cycle: it entered before, and nothing has left the basket in this cycle (R135, R158, R172,
R177). -/
def Device.headOf (d : Device) (p b : Nat) : Option BWord :=
  let k := (d.stall p).basket b
  if k.popped then none
  else match k.chain with
    | [] => none
    | h :: _ => if h.at_ < d.work then some h.w else none

/-! ### Credit lines (R200, R215) -/

/-- KIND and LINE of credit line `j` leaving through input `i` of a stall. -/
def Device.crKind (d : Device) (p i j : Nat) : Nat := d.rf ARC p (0x110 + 0x20 * i) (5 * j) 3
def Device.crLine (d : Device) (p i j : Nat) : Nat := d.rf ARC p (0x110 + 0x20 * i) (5 * j + 3) 2

/-- Where the credit that comes in on line `j` against lane output `o` of stall `p` ends, and the stalls it has crossed before: in FREE of
that output where ROUTE_OUT says so, else it is forwarded by the CRLINE that names it. -/
def Device.creditEnd (d : Device) : Nat → Nat → Nat → Nat → Nat → Option (Producer × Nat)
  | 0, _, _, _, _ => none
  | n + 1, p, o, j, h =>
    if d.rb ARC p (0x118 + 0x20 * o) j then some (.lane p o j, h)
    else (List.range 4).findSome? (fun i => (List.range 4).findSome? (fun m =>
      if d.crKind p i m = 2 + o ∧ d.crLine p i m = j then
        (match d.laneTo p i with
          | some (.basket q r) => d.creditEnd n q r m (h + 1)
          | _ => none)
      else none))

/-- Where the credits of a place go: along the credit lines that its stall's CRLINE gives the basket's pops, or, off the Square and for a basket
that the edge feeds, to the leaf's producer; a route has at most 31 hops. -/
def Device.creditEnds (d : Device) (dest : LaneEnd) : List (Producer × Nat) :=
  let leaf := (d.arcade.leaves.find? (fun l => decide (l.dest = dest))).toList
  match dest with
  | .basket p b =>
    match d.laneTo p b with
    | some (.basket q o) => (List.range 4).filterMap (fun j => if d.crKind p b j = 1 then d.creditEnd 32 q o j 0 else none)
    | _ => leaf.map (fun l => (l.prod, l.hops))
  | .edge e =>
    leaf.filterMap (fun l => match l.prod, d.edgeStall e with
      | .lane _ _ _, some (p, o) => d.creditEnd 32 p o l.line 0
      | prod, _ => some (prod, l.hops))

/-- A credit sets out for a producer: it comes `h` cycles after the next, and one cycle after the credit before it on its line, which carries one
a cycle (R175, R200). -/
def Arcade.sendCredit (a : Arcade) (now : Nat) (e : Producer × Nat) : Arcade :=
  let last := (a.credits.filter (fun c => decide (c.prod = e.1))).foldl (fun m c => max m (c.due + 1)) 0
  { a with credits := a.credits ++ [⟨max (now + 1 + e.2) last, e.1⟩] }

/-- A pop's credit sets out towards its producer (R175). -/
def Device.creditBack (d : Device) (dest : LaneEnd) : Device :=
  { d with arcade := (d.creditEnds dest).foldl (fun a e => a.sendCredit d.work e) d.arcade }

/-- A parity failure is counted, and the word goes on spoiled (R190). -/
def Device.checkPar (d : Device) (p b : Nat) (w : BWord) : BWord × Device :=
  if w.parOk then (w, d)
  else ({ w with spoil := true }.sealed, (d.count16 BSK p (0x110 + 0x20 * b)).raise BSK p (4 + b))

/-- A basket after its head has left. A word that came in this cycle and found the chain full enters the chain, since the pop counts first
(R182). -/
def Basket.popHead (k : Basket) (now : Nat) : Basket :=
  let k1 := { k with chain := k.chain.drop 1, popped := true }
  match k.spill with
  | [h] => if h.at_ = now ∧ k.ringCount = 0 ∧ k.chain.length = 8 then { k1 with chain := k1.chain ++ [h], spill := [] } else k1
  | _ => k1

/-- Take the head word: parity check, and the credit of the pop. -/
def Device.basketPop (d : Device) (p b : Nat) : Option BWord × Device :=
  match d.headOf p b with
  | none => (none, d)
  | some w =>
    let k := (d.stall p).basket b
    let d1 := (d.setBasket p b (k.popHead d.work)).creditBack (.basket p b)
    let r := d1.checkPar p b w
    (some r.1, r.2)

/-! ### Lane outputs -/

/-- Wheel entry `k` of output `o` (R203). -/
def Device.wheelEntry (d : Device) (p o k : Nat) : Nat :=
  if k < 8 then d.rf ARC p (0x100 + 0x20 * o) (4 * k) 4
  else d.rf ARC p (0x108 + 0x20 * o) (4 * (k - 8)) 4

/-- Credit lines whose leaves belong to the route of output `o` (R215). -/
def Device.leafLines (d : Device) (p o : Nat) : List Nat :=
  (List.range 4).filter (fun j => d.rb ARC p (0x118 + 0x20 * o) j)

/-- FREE of a leaf (R174). -/
def Device.freeOf (d : Device) (p o j : Nat) : Nat := d.rf ARC p (0x1A0 + 0x10 * o + 4 * j) 0 12
def Device.setFree (d : Device) (p o j v : Nat) : Device := d.setN ARC p (0x1A0 + 0x10 * o + 4 * j) v

/-- Room of a lane output: the smallest FREE of its leaves; none where no route originates (R176). -/
def Device.outFree (d : Device) (p o : Nat) : Nat :=
  match d.leafLines p o with
  | [] => 0
  | j :: rest => rest.foldl (fun m i => min m (d.freeOf p o i)) (d.freeOf p o j)

/-- Words in an output queue, reserved or ready (R137). -/
def Stall.outLen (s : Stall) (o : Nat) : Nat := (s.outq.getD o []).length

/-- Conditions 2 and 3 of R135 for `n` words on output `o`. -/
def Device.outRoom (d : Device) (p o n : Nat) : Bool :=
  let q := (d.stall p).outLen o
  decide (q + n ≤ d.outFree p o) && decide (q + n ≤ 16)

/-- Put words in an output queue; the first may leave from cycle `ready`, each later one a cycle after (R137, R148). -/
def Device.reserve_ (d : Device) (p o ready : Nat) (ws : List BWord) : Device :=
  d.updStall p (fun s => { s with outq := upd s.outq o (fun q => q ++ (ws.zipIdx).map (fun wi => ⟨wi.1, ready + wi.2⟩)) })

/-- A word starts along lane output `o` and arrives in cycle `due`. -/
def Device.launch (d : Device) (p o due : Nat) (w : BWord) (dlv : Bool) : Device :=
  match d.laneTo p o with
  | some dest => { d with arcade := { d.arcade with lanes := d.arcade.lanes ++ [⟨dest, due, w, dlv⟩] } }
  | none => d

/-- OUTPUT_PUSH: the oldest word of the queue leaves in an entry that selects the queue, one word a cycle (R137, R175, R195, R203). -/
def Device.outputPush (d : Device) (p o : Nat) : Device :=
  let en := d.wheelEntry p o d.arcade.wheel
  match (d.stall p).outq.getD o [] with
  | [] => d
  | x :: _ =>
    if d.bell.hushed || decide (o ∈ (d.stall p).pushed) || decide (en % 8 ≠ 1) || decide (d.work < x.ready) || decide (d.outFree p o = 0) then d
    else
      let d1 := d.updStall p (fun s => { s with outq := upd s.outq o (fun q => q.drop 1), pushed := insertNew o s.pushed })
      let d2 := (d.leafLines p o).foldl (fun a j => a.setFree p o j (a.freeOf p o j - 1)) d1
      d2.launch p o d.work x.w.sealed (tb en 3)

def execOutputPush (p d : Nat) (s : State) : Host.Outcome State Fault Refusal :=
  s.act (Instr.wf (.outputPush p d)) (fun x => x.outputPush p d)

/-! ### Credits -/

/-- A credit reaches its producer. -/
def Device.creditIn (d : Device) (prod : Producer) : Device :=
  match prod with
  | .lane p o j => d.setFree p o j (d.freeOf p o j + 1)
  | .porter e => { d with arcade := { d.arcade with edgeFree := KMap.put d.arcade.edgeFree e (KMap.get d.arcade.edgeFree e 0 + 1) } }
  | .aisle e => { d with arcade := { d.arcade with edgeFree := KMap.put d.arcade.edgeFree e (KMap.get d.arcade.edgeFree e 0 + 1) } }
  | .trestle t => { d with trestle := { d.trestle with ports := upd d.trestle.ports t (fun x => { x with free := x.free + 1 }) } }

/-- Drop the first entry of a list that meets a condition. -/
def dropFirst {α : Type} (f : α → Bool) : List α → List α
  | [] => []
  | x :: rest => if f x then rest else x :: dropFirst f rest

/-- CREDIT_RETURN: a credit that is due increments FREE of its line, which brings one a cycle (R175, R200). -/
def Device.creditReturn (d : Device) (p o j : Nat) : Device :=
  let f := fun (c : CreditFlight) => decide (c.prod = .lane p o j ∧ c.due ≤ d.work)
  if !d.bell.hushed && d.arcade.credits.any f && !decide (.lane p o j ∈ d.arcade.credited) then
    ({ d with arcade := { d.arcade with credits := dropFirst f d.arcade.credits, credited := .lane p o j :: d.arcade.credited } }).creditIn
      (.lane p o j)
  else d

def execCreditReturn (p d line : Nat) (s : State) : Host.Outcome State Fault Refusal :=
  s.act (Instr.wf (.creditReturn p d line)) (fun x => x.creditReturn p d line)

/-! ### Egress baskets (R207 to R209, R248) -/

/-- Is the verdict of a slot on an egress basket complete: delivered, or gathered whole (R248)? -/
def Device.verdictComplete (d : Device) (e slot : Nat) : Bool :=
  match d.bell.owing.find? (fun x => decide (x.egress = e)) with
  | none => true
  | some first =>
    if first.slot = slot then first.cause.isNone && decide (first.packets ≤ (d.egress e).got)
    else !d.bell.owing.any (fun x => decide (x.egress = e ∧ x.slot = slot))

/-- Close the word being assembled. -/
def Egress.close (x : Egress) (now : Nat) : Egress :=
  match x.part with
  | none => x
  | some w => { x with packed := x.packed ++ [{ w with at_ := now }], part := none }

/-- Items that hold a place in the basket. -/
def Egress.items (x : Egress) : Nat :=
  (x.packed.map (fun w => w.items)).sum + (match x.part with | some w => w.items | none => 0)

/-- Pack one word that arrives in cycle `now` (R207 to R209). -/
def Egress.pack (x : Egress) (now : Nat) (w : BWord) : Egress :=
  if w.ctl then
    let y := x.close now
    { y with packed := y.packed ++ [⟨w.data, 8, false, w.spoil, true, w.gen, 1, now⟩] }
  else
    let y := match x.part with
      | some q => if q.gen = w.gen then x else x.close now
      | none => x
    let q := y.part.getD ⟨0, 0, false, false, false, w.gen, 0, now⟩
    let q' : PWord := { q with data := mergeBytes q.data q.vb ((bytesOf w.data).take y.item), vb := q.vb + y.item,
                               fin := w.fin, spoil := q.spoil || w.spoil, items := q.items + 1 }
    let z := { y with part := some q' }
    if 8 ≤ q'.vb || w.fin then z.close now else z

/-- An item or a token arrives at an egress basket (R207, R208, R248). -/
def Device.egressArrive (d : Device) (e : Nat) (w0 : BWord) : Device :=
  let r := if w0.parOk then (w0, d)
    else ({ w0 with spoil := true }, (d.count16 BSK (6400 + e) 0x110).raise BSK (6400 + e) 4)
  let w := r.1
  let d := r.2
  let x := d.egress e
  if 16 ≤ x.items then (d.fault BSK (6400 + e) 0x6001 0).reportHalt 2
  else d.setEgress e (x.pack d.work w)

/-! ### Edge positions -/

/-- The outgoing Aisle channel in edge mode at an edge position (R470). -/
def Device.edgeAisle (d : Device) (e : Nat) : Option (Nat × OutChan) :=
  d.aisles.outs.findSome? (fun kc => match kc.2 with
    | some c => if !c.porter && decide (c.edge = e) then some (kc.1, c) else none
    | none => none)

/-- The stream port of kind EDGE_IN at an edge position (R541). -/
def Device.edgePort (d : Device) (e : Nat) : Option Nat :=
  d.trestle.ports.findIdx? (fun t => decide (t.kind = 2 ∧ t.edge = e))

/-- A word leaves the Square at an edge position: into an Aisle queue, a Trestle port or the egress basket. During a
reconfiguration the Trestle discards it and returns its credit (R545). -/
def Device.edgeArrive (d : Device) (e : Nat) (w : BWord) : Device :=
  match d.edgeAisle e with
  | some (k, c) => { d with aisles := { d.aisles with outs := KMap.put d.aisles.outs k (some { c with queue := c.queue ++ [w] }) } }
  | none =>
    match d.edgePort e with
    | some t =>
      if d.trestle.reconfiguring then ((d.count32 TRS 0 0x034).log 0xB404 TRS 0 0 (t + 2 ^ 16)).creditBack (.edge e)
      else
        let r := if w.parOk then (w, d) else ({ w with spoil := true }.sealed, ((d.count32 TRS 0 0x030).raise TRS 0 9).log 0xB402 TRS 0 0 t)
        { r.2 with trestle := { r.2.trestle with ports := upd r.2.trestle.ports t (fun x => { x with words := x.words ++ [r.1] }) } }
    | none => d.egressArrive e w

/-- The stream port of kind EDGE_OUT at an edge position (R541). -/
def Device.edgeOutPort (d : Device) (e : Nat) : Option Nat :=
  d.trestle.ports.findIdx? (fun t => decide (t.kind = 3 ∧ t.edge = e))

/-- FREE of the producer at an edge position, and one word less of it. -/
def Device.edgeFreeOf (d : Device) (e : Nat) : Nat :=
  match d.edgeOutPort e with
  | some t => (d.trestle.ports.getD t {}).free
  | none => KMap.get d.arcade.edgeFree e 0

def Device.edgeSpend (d : Device) (e : Nat) : Device :=
  match d.edgeOutPort e with
  | some t => { d with trestle := { d.trestle with ports := upd d.trestle.ports t (fun x => { x with free := x.free - 1 }) } }
  | none => { d with arcade := { d.arcade with edgeFree := KMap.put d.arcade.edgeFree e (KMap.get d.arcade.edgeFree e 0 - 1) } }

/-- Push onto the edge stall's basket on the off-Square side; the pusher is the route's producer with h = 0 (R206, R390). -/
def Device.edgePush (d : Device) (e : Nat) (w : BWord) : Device :=
  match d.edgeStall e with
  | some (p, b) => (d.edgeSpend e).basketPush p b w
  | none => d

/-- May the producer at an edge position push? -/
def Device.edgeRoom (d : Device) (e : Nat) : Bool := decide (0 < d.edgeFreeOf e)

/-! ### Arrival on a lane -/

/-- A GEN token leaves an output from a pass-through source during an overlapped load (R325). -/
def Device.genPassed (d : Device) (p o : Nat) (w : BWord) : Device :=
  if w.isGen && decide (d.rf CLK 0 0x110 0 3 = 3) && decide (0 < d.rf ARC p (0x1E0 + 4 * o) 0 12)
  then d.setN ARC p (0x1E0 + 4 * o) (d.rf ARC p (0x1E0 + 4 * o) 0 12 - 1) else d

/-- The word goes on in the next cycle by every other output whose entry selects the side it came from (R198, R204). -/
def Device.passOn (d : Device) (p b : Nat) (w : BWord) : Device :=
  (List.range 4).foldl (fun a o =>
    let en := a.wheelEntry p o ((a.arcade.wheel + 1) % 16)
    if o ≠ b ∧ en % 8 = 2 + b then (a.launch p o (a.work + 1) w (tb en 3)).genPassed p o w else a) d

/-- LANE_ARRIVE. -/
def Device.laneArrive (d : Device) (dest : LaneEnd) : Device :=
  let f := fun (x : Flight) => decide (x.dest = dest ∧ x.due ≤ d.work)
  match d.bell.hushed, d.arcade.lanes.find? f with
  | false, some x =>
    let d1 := { d with arcade := { d.arcade with lanes := dropFirst f d.arcade.lanes } }
    match dest with
    | .edge e => if x.dlv then d1.edgeArrive e x.w else d1
    | .basket p b => (if x.dlv then d1.basketPush p b x.w else d1).passOn p b x.w
  | _, _ => d

def execLaneArrive (dest : LaneEnd) (s : State) : Host.Outcome State Fault Refusal :=
  s.act (Instr.wf (.laneArrive dest)) (fun x => x.laneArrive dest)

/-! ### The extension ring (R180 to R188) -/

/-- Take banks of a stall's store for this cycle: all of them, or none while one is in use, which counts once in BANK_WAIT (R106). -/
def Device.claimUnder (d : Device) (p : Nat) (inUse banks : List Nat) : Bool × Device :=
  if banks.any (fun b => decide (b ∈ inUse)) then (false, d.count32 STL p 0x104)
  else (true, d.updStall p (fun s => { s with banks := banks ++ s.banks }))

/-- Ring entry that the next data write goes to. -/
def Basket.tail (k : Basket) : Nat := if k.ext = 0 then 0 else (k.ringHead + k.ringCount) % k.ext

/-- Store word of a ring entry, and of a group's tag word (R180). -/
def Basket.entryWord (k : Basket) (i : Nat) : Nat := k.base + 9 * (i / 8) + 1 + i % 8
def Basket.tagWord (k : Basket) (g : Nat) : Nat := k.base + 9 * g

/-- The tag byte of a word (R181). -/
def tagByte (w : BWord) : Byte := BitVec.ofNat 8 (b2n w.fin + 2 * w.gen.toNat + 8 * b2n w.ctl)

/-- A basket word from its data, spoil and tag byte; PAR is computed again (R181). -/
def ofTag (v : DWord) (spoil : Bool) (t : Byte) : BWord :=
  BWord.sealed { data := v, fin := tb t.toNat 0, spoil := spoil, gen := BitVec.ofNat 2 (t.toNat / 2), ctl := tb t.toNat 3, par := false }

/-- The group whose tags are still in the accumulator (R186). -/
def Basket.accGroup (k : Basket) : Option Nat :=
  match k.tagDue with
  | some g => some g
  | none => if k.tagAcc = [] then none else some (k.tail / 8)

/-- Tags of the head's group, where the basket has them. -/
def Basket.headTags (k : Basket) : Option (List Byte) :=
  if k.tagNow ≠ [] then some k.tagNow else if k.accGroup = some (k.ringHead / 8) then some k.tagAcc else none

/-- The four kinds of extension access in the order in which they are served (R185). -/
inductive ExtKind where
  | tagWrite
  | dataWrite
  | tagRead
  | dataRead
  deriving DecidableEq, Repr

/-- The store word that a basket asks for in this cycle with an access of a kind: a tag word that is due; the spill queue's head for the ring,
unless it can go to the chain; for a chain with room, the tag word of the head's group where its tags are not at hand, or the head entry
(R183, R184, R186). One data write and one refill a cycle. -/
def Basket.asks (k : Basket) (now : Nat) : ExtKind → Option Nat
  | .tagWrite => if k.wrote then none else k.tagDue.map k.tagWord
  | .dataWrite =>
    match k.spill with
    | [] => none
    | h :: _ =>
      if k.wrote || decide (now ≤ h.at_) || k.tagDue.isSome || decide (k.ext ≤ k.ringCount)
          || (decide (k.ringCount = 0) && decide (k.chain.length < 8)) then none
      else some (k.entryWord k.tail)
  | .tagRead =>
    if k.refilled || decide (8 ≤ k.chain.length) || decide (k.ringCount = 0) || decide (k.ringHead % 8 ≠ 0) || k.headTags.isSome then none
    else some (k.tagWord (k.ringHead / 8))
  | .dataRead =>
    if k.refilled || decide (8 ≤ k.chain.length) || decide (k.ringCount = 0) || k.headTags.isNone then none
    else some (k.entryWord k.ringHead)

/-- Extension accesses in the order of R185. -/
def extOrder : List (ExtKind × Nat) :=
  [ExtKind.tagWrite, .dataWrite, .tagRead, .dataRead].flatMap (fun x => (List.range 4).map (fun b => (x, b)))

/-- Banks in use for a requester that comes after the given ones: what has been taken, and what each of them will take. -/
def Stall.afterExt (s : Stall) (now : Nat) (l : List (ExtKind × Nat)) : List Nat :=
  l.foldl (fun u e => match (s.basket e.2).asks now e.1 with
    | some a => if a % 8 ∈ u then u else a % 8 :: u
    | none => u) s.banks

/-- An extension access takes its bank ahead of every other requester but the extension accesses before it (R106, R185). -/
def Device.claimExt (d : Device) (p b : Nat) (x : ExtKind) (wa : Nat) : Bool × Device :=
  d.claimUnder p ((d.stall p).afterExt d.work (extOrder.takeWhile (fun e => !decide (e = (x, b))))) [wa % 8]

/-- SPILL_WRITE: the spill queue's head goes to the ring's tail entry, one write a cycle (R183, R187). A tag word that is due is written first; a
word for an empty ring with room in the chain goes there without a bank (R184). -/
def Device.spillWrite (d : Device) (p b : Nat) : Device :=
  let k := (d.stall p).basket b
  match k.asks d.work .dataWrite, k.spill with
  | some a, h :: rest =>
    if d.bell.hushed then d
    else
      let c := d.claimExt p b .dataWrite a
      if !c.1 then c.2
      else
        let r := c.2.checkPar p b h.w
        let w := r.1
        let acc := k.tagAcc ++ [tagByte w]
        let due := if acc.length = 8 then some (k.tail / 8) else none
        (r.2.storeWrite p a w.data w.spoil).setBasket p b
          { k with spill := rest, ringCount := k.ringCount + 1, tagAcc := acc, tagDue := due,
                   ringEnds := k.ringEnds ++ [w.fin && !w.ctl], wrote := true }
  | _, _ => d

def execSpillWrite (p b : Nat) (s : State) : Host.Outcome State Fault Refusal :=
  s.act (Instr.wf (.spillWrite p b)) (fun x => x.spillWrite p b)

/-- TAG_WRITE: the tag word of a full group, from the cycle after its last data write on, and ahead of the next one (R183). Tags that the head still needs stay with the basket (R186). -/
def Device.tagWrite (d : Device) (p b : Nat) : Device :=
  let k := (d.stall p).basket b
  match k.asks d.work .tagWrite, k.tagDue with
  | some a, some g =>
    if d.bell.hushed then d
    else
      let c := d.claimExt p b .tagWrite a
      if !c.1 then c.2
      else
        let keep := if k.ringHead / 8 = g ∧ k.ringHead % 8 ≠ 0 ∧ k.tagNow = [] then k.tagAcc else k.tagNow
        (c.2.storeWrite p a (wordOf k.tagAcc) false).setBasket p b
          { k with tagAcc := [], tagDue := none, tagNow := keep }
  | _, _ => d

def execTagWrite (p b : Nat) (s : State) : Host.Outcome State Fault Refusal :=
  s.act (Instr.wf (.tagWrite p b)) (fun x => x.tagWrite p b)

/-- RING_READ: the ring's head entry enters the chain, one refill a cycle (R184). -/
def Device.ringReadWord (d : Device) (p b : Nat) : Device :=
  let k := (d.stall p).basket b
  match k.asks d.work .dataRead, k.headTags with
  | some a, some tags =>
    if d.bell.hushed then d
    else
      let c := d.claimExt p b .dataRead a
      if !c.1 then c.2
      else
        let r := c.2.storeRead p a
        let w := ofTag r.1.data r.1.spoil (tags.getD (k.ringHead % 8) 0)
        let next := (k.ringHead + 1) % k.ext
        r.2.setBasket p b
          { k with chain := k.chain ++ [⟨w, d.work, true⟩], ringHead := next, ringCount := k.ringCount - 1,
                   ringEnds := k.ringEnds.drop 1, tagNow := if next % 8 = 0 then [] else k.tagNow, refilled := true }
  | _, _ => d

def execRingRead (p b : Nat) (s : State) : Host.Outcome State Fault Refusal :=
  s.act (Instr.wf (.ringRead p b)) (fun x => x.ringReadWord p b)

/-- TAG_READ: the tag word of the head's group, before its first entry, once the chain has room (R184). Lost tags lose the group (R187). -/
def Device.tagReadWord (d : Device) (p b : Nat) : Device :=
  let k := (d.stall p).basket b
  let g := k.ringHead / 8
  match k.asks d.work .tagRead with
  | some a =>
    if d.bell.hushed then d
    else
      let c := d.claimExt p b .tagRead a
      if !c.1 then c.2
      else
        let r := c.2.storeRead p a
        if r.1.spoil then
          (r.2.setBasket p b
            { k with ringHead := (k.ringHead + 8) % k.ext, ringCount := k.ringCount - 8, ringEnds := k.ringEnds.drop 8, refilled := true }).basketFault
              p 0x6003 b (g % 512)
        else r.2.setBasket p b { k with tagNow := bytesOf r.1.data, refilled := true }
  | none => d

def execTagRead (p b : Nat) (s : State) : Host.Outcome State Fault Refusal :=
  s.act (Instr.wf (.tagRead p b)) (fun x => x.tagReadWord p b)

end Sys2Proof.Machine
end

