-- ==== Sys2Proof/Machine/Feed.lean ====
section
/-! DEFINITION. The line-buffer feed as a requester: the steps of a body (R268 to R271), the step that is due, the store word it asks for, and
the banks that are in use before an instruction reads (R106, R143). -/

namespace Sys2Proof

open Sys2Proof.Machine

/-- Words of a column of a block. -/
def LbDecl.pw (l : LbDecl) : Nat := if l.pwd = 1 then 4 else 2
def LbDecl.keepRow (l : LbDecl) (y : Int) : Bool := tb l.rmask (y % ((l.rper : Int) + 1)).toNat
def LbDecl.keepCol (l : LbDecl) (x : Nat) : Bool := tb l.cmask (x % (l.cper + 1))
/-- Kept columns of a block. -/
def LbDecl.kept (l : LbDecl) : Nat := ((List.range l.w).filter l.keepCol).length
/-- RW: words of a written row (R268). -/
def LbDecl.rowWords (l : LbDecl) : Nat := l.nb * (l.padL + l.kept + l.padR) * l.pw
/-- Words of an arriving row. -/
def LbDecl.arriving (l : LbDecl) : Nat := l.nb * (l.w + l.tailC) * l.pw
/-- Steps of a taken row that is kept: its pad words and all its arriving words. -/
def LbDecl.keptSteps (l : LbDecl) : Nat := l.nb * (l.padL + l.w + l.tailC + l.padR) * l.pw

/-- One step of the feed (R270). -/
inductive FeedStep where
  | pad
  | take (b : Nat)
  | drop (b : Nat)
  deriving DecidableEq, Repr

/-- A row of the feed: its steps, and the step number `n` within it. -/
inductive FeedRow where
  | padRow
  | dropRow (b : Nat)
  | keepRow (b : Nat)
  deriving DecidableEq, Repr

/-- A taken row is discarded whole when the row mask does not keep its map row (R269). -/
def LbDecl.taken (l : LbDecl) (b : Nat) (y : Int) : FeedRow := if l.keepRow y then .keepRow b else .dropRow b

/-- The rows of a body in order (R269). -/
def LbDecl.rows (l : LbDecl) (feed : Nat) : List FeedRow :=
  List.replicate l.padT .padRow
    ++ (if l.htBsk = 7 then [] else List.replicate (l.htRows - l.htN) (.dropRow l.htBsk)
        ++ (List.range l.htN).map (fun (i : Nat) => l.taken l.htBsk ((l.y0 : Int) - l.htN + i)))
    ++ (List.range l.ownRows).map (fun (i : Nat) => l.taken feed ((l.y0 : Int) + i)) ++ List.replicate l.tailR (.dropRow feed)
    ++ (if l.hbBsk = 7 then [] else (List.range l.hbN).map (fun (i : Nat) => l.taken l.hbBsk ((l.y0 : Int) + l.ownRows + i))
        ++ List.replicate (l.hbRows - l.hbN) (.dropRow l.hbBsk))
    ++ List.replicate l.padB .padRow

/-- Steps of a row. -/
def LbDecl.steps (l : LbDecl) : FeedRow → Nat
  | .padRow => l.rowWords
  | .dropRow _ => l.arriving
  | .keepRow _ => l.keptSteps

/-- Step `m` of a row. -/
def LbDecl.stepIn (l : LbDecl) (m : Nat) : FeedRow → FeedStep
  | .padRow => .pad
  | .dropRow b => .drop b
  | .keepRow b =>
    let pos := m / l.pw % (l.padL + l.w + l.tailC + l.padR)
    if pos < l.padL then .pad
    else if pos < l.padL + l.w then (if l.keepCol (pos - l.padL) then .take b else .drop b)
    else if pos < l.padL + l.w + l.tailC then .drop b
    else .pad

/-- Step `n` of the body's feed; none when the feed's part has ended (R271). -/
def LbDecl.stepAt (l : LbDecl) (n : Nat) : List FeedRow → Option FeedStep
  | [] => none
  | r :: rest => if n < l.steps r then some (l.stepIn n r) else l.stepAt (n - l.steps r) rest

end Sys2Proof

namespace Sys2Proof.Machine

/-- Store word that the next fed word goes to (R142, R143). -/
def feedAddr (r : CtxRecord) (fed : Nat) : Nat := r.lbBase + (if r.lbSize = 0 then fed else fed % r.lbSize)

/-- The feed has made a step; `wrote` when it wrote a word. -/
def Ctx.stepped (c : Ctx) (wrote : Bool) : Ctx := { c with feedStep := c.feedStep + 1, fed := c.fed + b2n wrote }

/-- The context whose feed has a part of its body left, and that part's next step. -/
def Stall.feeding (s : Stall) : Option (Nat × CtxRecord × LbDecl × FeedStep) :=
  (List.range 8).findSome? (fun k =>
    let c := s.ctx k
    match c.rec_, c.lb with
    | some r, some l => if c.feeding && decide (r.feed ≠ 7) then (l.stepAt c.feedStep (l.rows r.feed)).map (fun x => (k, r, l, x)) else none
    | _, _ => none)

/-- The GEN of the head of a basket against a context's (R324): none, no data there; else the difference modulo 4. -/
def Device.headGen (d : Device) (p b : Nat) (g : BitVec 2) : Option Nat :=
  match d.headOf p b with
  | some w => if w.ctl then none else some (w.gen - g).toNat
  | none => none

/-- The store word that the feed writes in this cycle: one step a cycle, a pad word, or a word whose generation is the context's (R143,
R270). -/
def Device.feedAsk (d : Device) (p : Nat) : Option Nat :=
  let s := d.stall p
  if decide (s.fedAt = some d.work) || d.closed p then none
  else match s.feeding with
    | some (k, r, _, .pad) => some (feedAddr r (s.ctx k).fed % 8192)
    | some (k, r, _, .take b) => if d.headGen p b (s.ctx k).gen = some 0 then some (feedAddr r (s.ctx k).fed % 8192) else none
    | _ => none

/-- Banks in use for the feed: DEDUCED (assumption 100), the extension accesses go first, both have priority 1. -/
def Device.beforeFeed (d : Device) (p : Nat) : List Nat := (d.stall p).afterExt d.work extOrder

/-- One more requester, whose accesses need all of their banks at once: the banks in use after it. -/
def serve (inUse banks : List Nat) : List Nat := if banks.any (fun b => decide (b ∈ inUse)) then inUse else banks ++ inUse

/-- Banks in use after priority 1 (R106, R143, R185). -/
def Device.afterPrio1 (d : Device) (p : Nat) : List Nat :=
  match d.feedAsk p with
  | some a => serve (d.beforeFeed p) [a % 8]
  | none => d.beforeFeed p

/-- Of a list of numbered words, those that one cycle can access, the first of each bank, and the rest (R106). -/
def splitWave (used : List Nat) : List (Nat × Nat) → List (Nat × Nat) × List (Nat × Nat)
  | [] => ([], [])
  | x :: rest =>
    if x.2 % 8 ∈ used then let t := splitWave used rest
      (t.1, x :: t.2)
    else let t := splitWave (x.2 % 8 :: used) rest
      (x :: t.1, t.2)

/-- The banks that one cycle of a list of accesses takes. -/
def waveBanks (l : List Nat) : List Nat := ((splitWave [] (l.map (fun a => (0, a)))).1).map (fun x => x.2 % 8)

/-- Reads go on in issue order: the first that finds no bank holds back those behind it. -/
def serveReads (inUse : List Nat) : List (List Nat) → List Nat
  | [] => inUse
  | b :: rest => if b.any (fun x => decide (x ∈ inUse)) then inUse else serveReads (b ++ inUse) rest

/-- Banks in use after the result writes and the reads of earlier instructions that are due: DEDUCED (assumption 100), of priority 2 the older
requesters go first, result writes before reads. -/
def Device.afterOlder (d : Device) (p : Nat) : List Nat :=
  let s := d.stall p
  let u := (s.landing.filter (fun x => decide (x.due ≤ d.work))).foldl (fun u x => serve u (waveBanks (x.words.map (fun w => w.1)))) (d.afterPrio1 p)
  serveReads u ((s.reads.filter (fun x => decide (x.due ≤ d.work))).map (fun x => waveBanks ((x.todo.headD []).map (fun a => a.2))))

end Sys2Proof.Machine
end

