-- ==== Sys2Proof/Machine/Numbers.lean ====
section
/-! DEFINITION. Codes, the rescale and the activations (R25 to R39), rescale entries (R38, R39, R40, R351), and the Winograd transforms
(R277, R281). -/

namespace Sys2Proof.Machine

/-! ### Codes -/

/-- An int8 operand as it is read, and whether it was 0x80 (R26). -/
def readI8 (b : Nat) : Int × Nat := if b % 256 = 0x80 then (-127, 1) else (sx 8 b, 0)

/-- An int4 weight as it is read, and whether it was 0x8 (R27). -/
def readI4 (b : Nat) : Int × Nat := if b % 16 = 8 then (-7, 1) else (sx 4 b, 0)

/-- The int8 values of a byte list, and how many read 0x80. -/
def readCodes (l : List Byte) : List Int × Nat :=
  (l.map (fun b => (readI8 b.toNat).1), (l.map (fun b => (readI8 b.toNat).2)).sum)

/-- A code as its byte. -/
def codeByte (c : Int) : Byte := BitVec.ofInt 8 c

/-! ### Rescale (R32, R35) -/

/-- Steps 1 to 3 of R32: the rounded quotient. A leaky channel takes M_LEAK when the sum is below 0 (R35). -/
def LatchCh.quotient (c : LatchCh) (acc : Int) : Int :=
  let s := acc + c.bias
  rhe (s * (if c.act = 3 ∧ s < 0 then (c.leak : Int) else (c.m : Int))) c.n

/-- Step 4: the code, and 1 when it saturated. -/
def saturate (q : Int) : Int × Nat := (clampI (-127) 127 q, if q < -127 ∨ 127 < q then 1 else 0)

/-- A look-up entry as it is delivered (R37). -/
def lutValue (e : Nat) : Int × Nat := readI8 e

/-- The native activations of R34; the look-up table is read by the stall. -/
def LatchCh.activate (c : LatchCh) (code : Int) : Int :=
  match c.act with
  | 1 => max code 0
  | 2 => min (max code c.lo) c.hi
  | _ => code

/-! ### Normalisation (R58) -/

/-- A pixel's code and 1 when it saturated. -/
def normalise (pix offset gain shift : Nat) : Int × Nat :=
  saturate (rhe (((pix : Int) * 256 - offset) * gain) shift)

/-! ### Rescale entries (R38, R39) -/

def entM (v : Nat) : Nat := fld v 0 31
def entN (v : Nat) : Nat := fld v 32 6
def entAct (v : Nat) : Nat := fld v 40 3
def entLo (v : Nat) : Nat := fld v 48 8
def entHi (v : Nat) : Nat := fld v 56 8

/-- An entry that stands by itself: reserved bits 0, ACT not reserved, the clamp's bounds in order (R36, R38). -/
def entryPlain (v : Nat) : Bool :=
  !tb v 31 && decide (fld v 38 2 = 0) && decide (fld v 43 5 = 0) && decide (entAct v ≠ 5) && decide (entAct v ≠ 6)
    && (if entAct v = 2 then decide (entLo v ≠ 0x80) && decide (entHi v ≠ 0x80) && decide (sx 8 (entLo v) ≤ sx 8 (entHi v)) else true)
    && (if entAct v = 7 then decide (v = entM v + 7 * 2 ^ 40) else true)

/-- How an entry that is read fails: 1 twin mismatch, 2 invalid, 0 not at all. `prev` and `next` are the ACT fields of its
neighbours within the same reading (R36, R38 to R40). -/
def entryBad (v c : DWord) (prev next : Option Nat) : Nat :=
  if c ≠ ~~~v then 1
  else if !entryPlain v.toNat then 2
  else if entAct v.toNat = 7 ∧ prev ≠ some 3 then 2
  else if entAct v.toNat = 3 ∧ next ≠ some 7 then 2
  else 0

/-! ### Winograd (R277) -/

/-- The transform Bᵀ d B of a 4 × 4 patch, given and answered row by row. -/
def winoIn (d : List Int) : List Int :=
  let g := fun i j => d.getD (4 * i + j) 0
  let row := fun (f : Nat → Int) (i : Nat) => match i with
    | 0 => f 0 - f 2
    | 1 => f 1 + f 2
    | 2 => f 2 - f 1
    | _ => f 1 - f 3
  (List.range 16).map (fun k => row (fun c => row (fun r => g r c) (k / 4)) (k % 4))

/-- The transform Aᵀ M A of 4 × 4 sums into 2 × 2 outputs, row by row. -/
def winoOut (m : List Int) : List Int :=
  let g := fun i j => m.getD (4 * i + j) 0
  let row := fun (f : Nat → Int) (i : Nat) => match i with
    | 0 => f 0 + f 1 + f 2
    | _ => f 1 - f 2 - f 3
  (List.range 4).map (fun k => row (fun c => row (fun r => g r c) (k / 2)) (k % 2))

/-- A transformed weight of a Winograd plane: 10 bits at 10 × i, little-endian (R267). -/
def wino10 (bytes : List Byte) (i : Nat) : Int :=
  let lo := (bytes.getD (10 * i / 8) 0).toNat
  let hi := (bytes.getD (10 * i / 8 + 1) 0).toNat
  sx 10 ((lo + 256 * hi) / 2 ^ (10 * i % 8))

end Sys2Proof.Machine
end

