-- ==== Sys2Proof/Machine/Operands.lean ====
section
/-! DEFINITION. The stall's sequencer: the instruction word and its fields (R140, R144, R145), store addresses through pointers (R141 to
R143), the firing rule (R134 to R139), loops and masked firings (R154 to R156), faults of a program (R164), and the issue of
one instruction, which every stall instruction is written with. -/

namespace Sys2Proof.Machine

/-! ### Fields of an instruction word (R145) -/

def fOp (w : Nat) : Nat := fld w 26 6
def fSrcA (w : Nat) : Nat := fld w 23 3
def fSrcB (w : Nat) : Nat := fld w 20 3
def fPlane (w : Nat) : Nat := fld w 16 4
def fGroup (w : Nat) : Nat := fld w 11 5
def fOpen (w : Nat) : Bool := tb w 10
def fClose (w : Nat) : Bool := tb w 9
def fDst (w : Nat) : Nat := fld w 6 3
def fPtr (w : Nat) : Nat := fld w 4 2
def fEmk (w : Nat) : Nat := fld w 0 2
def fTb (w : Nat) : Nat := fld w 25 1
def fWg (w : Nat) : Nat := fld w 15 1
def fPos (w : Nat) : Nat := fld w 11 4
def fGd (w : Nat) : Nat := fld w 22 4
def fGa (w : Nat) : Nat := fld w 18 4

/-! ### Faults raised by a program (R164) -/

/-- The stall records the fault, closes from the following cycle until the next full load, and the market halts (R164, R249). -/
def Device.stallFault (d : Device) (p k code lane index : Nat) : Device :=
  ((d.fault STL p code (d.whereP p lane 0 k index)).updStall p (fun s => { s with faulting := true })).reportHalt 2

/-- The sequencer's part of this cycle is over: nothing else issues in it (R134). -/
def Device.holdIssue (d : Device) (p : Nat) : Device := d.updStall p (fun s => { s with noIssue := some d.work })

/-- A fault of the instruction that is due, which does not execute (R164). -/
def Device.instrFault (d : Device) (p k code lane index : Nat) : Device := (d.stallFault p k code lane index).holdIssue p

/-- Is a context in use? -/
def Stall.used (s : Stall) (k : Nat) : Bool := (s.ctx k).used && (s.ctx k).rec_.isSome

/-! ### T5 steering mode (R165, R167) -/

/-- CTRL.T5_MODE. -/
def Device.t5 (d : Device) (p : Nat) : Bool := d.rb STL p 0x008 1

/-- The spoil bit of a register; only T5 steering mode has them. -/
def Device.gSpoil (d : Device) (p k g : Nat) : Bool := d.t5 p && decide (g ∈ ((d.stall p).ctx k).gSpoil)

/-- Set or clear the spoil bit of a register. -/
def Device.setGSpoil (d : Device) (p k g : Nat) (x : Bool) : Device :=
  d.updStall p (fun s => let c := s.ctx k
    s.setCtx k { c with gSpoil := if x then insertNew g c.gSpoil else dropAll g c.gSpoil })

/-! ### Store addresses (R141 to R143) -/

/-- A pointer: P0 to P3 are g12 to g15 (R141). -/
def Device.ptr (d : Device) (p k i : Nat) : Nat := (d.greg p k (12 + i)).toNat

/-- Advance a pointer. -/
def Device.bumpPtr (d : Device) (p k i n : Nat) : Device := d.setGreg p k (12 + i) (d.greg p k (12 + i) + BitVec.ofNat 32 n)

/-- Is the pointer in the context's line buffer (R142)? -/
def inLineBuffer (r : CtxRecord) (ptr : Nat) : Bool := decide (r.lbBase ≤ ptr) && decide (ptr < r.lbBase + r.lbSize)

/-- The effective address of word `ptr + i` (R142). -/
def effAddr (r : CtxRecord) (ptr i : Nat) : Nat :=
  if inLineBuffer r ptr then r.lbBase + (ptr + i - r.lbBase) % r.lbSize else ptr + i

/-- The verdict on a read of word `ptr + i`: 0 it may be read, 1 it has not been fed, 2 underrun, 3 store range (R142, R143). -/
def readVerdict (r : CtxRecord) (fed ptr i : Nat) : Nat :=
  if 0x1FFF < effAddr r ptr i then 3
  else if inLineBuffer r ptr then
    let x := ptr + i - r.lbBase
    if r.feedWords ≤ x ∨ x + r.lbSize < fed then 2 else if fed ≤ x then 1 else 0
  else 0

/-- May an instruction write this store word: does it lie in a region of kind `low` to 6? The kinds are 4 line buffer, 5 per-stream state
and 6 scratch; an adaptation operation writes the last two alone (R142, R367). -/
def Stall.writable (s : Stall) (low a : Nat) : Bool :=
  decide (a ≤ 0x1FFF) && s.regions.any (fun g => decide (low ≤ g.kind ∧ g.kind ≤ 6) && decide (g.base ≤ a) && decide (a < g.base + g.size))

/-- Is a write of an adaptation operation outstanding (R370)? -/
def Stall.adapting (s : Stall) : Bool :=
  s.landing.any (fun x => x.adapt) || s.reads.any (fun x => match x.op with | .moment _ _ _ _ => true | .wupd _ _ _ _ => true | _ => false)

/-! ### The firing rule (R135) -/

/-- What an instruction names, as the firing rule judges it. -/
structure Needs where
  srcs : List Nat := []                   -- source baskets
  locked : Bool := false                  -- a plane, buffer, window, latch, group or adaptation write it waits for
  reads : List (Nat × Nat × Nat) := []    -- store reads: pointer, first offset, words
  now_ : Bool := false                    -- the reads take their banks in the issue cycle (R103)
  writes : List Nat := []                 -- store words it writes
  low : Nat := 4                          -- the lowest kind of region that they may lie in
  lane : Option (Nat × Nat) := none       -- lane output and the words it pushes
  on : Nat := 0                           -- the basket that a lock stands for
  deriving DecidableEq, Repr

/-- How an instruction that is due stands. -/
inductive Verdict where
  | go
  | waitIn (b : Nat)
  | waitOut
  | fault (code lane index : Nat)
  deriving DecidableEq, Repr

/-- The words and their offsets that a list of reads covers. -/
def readWords (l : List (Nat × Nat × Nat)) : List (Nat × Nat) :=
  l.flatMap (fun e => (List.range e.2.2).map (fun j => (e.1, e.2.1 + j)))

/-- The store words that an instruction reads. -/
def Needs.operands (n : Needs) (r : CtxRecord) : List Nat := (readWords n.reads).map (fun e => effAddr r e.1 e.2)

/-- Judge an instruction (R135, R142, R143, R324). A fault that a source or a read raises comes before a wait. -/
def Device.judge (d : Device) (p k : Nat) (r : CtxRecord) (n : Needs) : Verdict :=
  let c := (d.stall p).ctx k
  let gens := n.srcs.map (fun b => (b, d.headGen p b c.gen))
  let reads := (readWords n.reads).map (fun e => readVerdict r c.fed e.1 e.2)
  match gens.find? (fun e => decide (e.2 = some 2 ∨ e.2 = some 3)) with
  | some e => .fault 0x4007 e.1 0
  | none =>
    match gens.find? (fun e => decide (e.2 ≠ some 0)) with
    | some e => .waitIn e.1
    | none =>
      if n.locked then .waitIn n.on
      else if reads.any (fun v => v == 3) then .fault 0x4002 0 (d.pc p k)
      else if reads.any (fun v => v == 2) then .fault 0x4003 r.feed (d.pc p k)
      else if n.writes.any (fun a => !(d.stall p).writable n.low a) then .fault 0x4002 0 (d.pc p k)
      else if reads.any (fun v => v == 1) then .waitIn r.feed
      else match n.lane with
        | some l => if d.outRoom p l.1 l.2 then .go else .waitOut
        | none => .go

/-- Take the banks of an operand read for this cycle; a bank that another requester has delays the instruction, and so does a second word in the
bank of the first, which is read a cycle later (R106). -/
def Device.claimOperands (d : Device) (p : Nat) (addrs : List Nat) : Bool × Device :=
  let t := splitWave [] (addrs.zipIdx.map (fun x => (x.2, x.1)))
  let c := d.claimUnder p (d.afterOlder p) (t.1.map (fun x => x.2 % 8))
  if !c.1 || t.2.isEmpty then c
  else if (d.stall p).operandHalf then (true, c.2.updStall p (fun s => { s with operandHalf := false }))
  else (false, (c.2.updStall p (fun s => { s with operandHalf := true })).count32 STL p 0x104)

/-! ### Loops (R128, R154 to R156) -/

/-- Put a loop in its place: inner loops first, the one with the later LOOP_FIRST, then the lower number (R128). -/
def insLoop (r : CtxRecord) (k : Nat) : List Nat → List Nat
  | [] => [k]
  | j :: rest =>
    if r.loopFirst.getD j 0 < r.loopFirst.getD k 0 then k :: j :: rest else j :: insLoop r k rest

/-- The loops in use whose LOOP_LAST is `pc`, inner first. -/
def loopsAt (r : CtxRecord) (pc : Nat) : List Nat :=
  ((List.range 4).filter (fun k => decide (0 < r.loopBound.getD k 0 ∧ r.loopLast.getD k 0 = pc))).foldl (fun l k => insLoop r k l) []

/-- R154: the counters after LOOP_LAST issues, and where the loop goes back to. -/
def loopStep (r : CtxRecord) (cnt : Nat → Nat) : List Nat → List (Nat × Nat) × Option Nat
  | [] => ([], none)
  | k :: rest =>
    if cnt k + 1 < r.loopBound.getD k 0 then ([(k, cnt k + 1)], some (r.loopFirst.getD k 0))
    else
      let t := loopStep r cnt rest
      ((k, 0) :: t.1, t.2)

/-- Is the instruction at `pc` masked (R155)? A LIMIT token taken in this cycle does not count yet (R161). -/
def Device.masked (d : Device) (p k : Nat) (r : CtxRecord) (pc : Nat) : Bool :=
  let c := (d.stall p).ctx k
  (List.range 4).any (fun i => decide (0 < r.loopBound.getD i 0 ∧ r.loopFirst.getD i 0 ≤ pc ∧ pc ≤ r.loopLast.getD i 0
    ∧ (c.limitsWas.getD c.limits).getD i 0 ≤ d.cnt p k i))

/-! ### Issue -/

/-- The body of a slot has ended: completed, or voided (R375). -/
def Ctx.bodyOver (c : Ctx) (slot : Nat) (completed : Bool) : Ctx := { c with ends := KMap.set c.ends slot (if completed then 2 else 1) 0 }

/-- The body ends: the context waits at ENTRY from the next cycle on (R132). -/
def Device.endBody (d : Device) (p k : Nat) (r : CtxRecord) : Device :=
  (d.setPc p k r.entry).updStall p (fun s =>
    let c := s.ctx k
    { s.setCtx k (({ c with inBody := false }).bodyOver c.slot true) with endedAt := some d.work })

/-- The next PC after an instruction has issued: a taken branch, T5 steering mode's delayed target, a loop, the next
instruction, or the end of the body (R132, R154, R166). -/
def Device.nextPc (d : Device) (p k : Nat) (r : CtxRecord) (br : Option Nat) : Device :=
  let pc := d.pc p k
  match br with
  | some t => if d.t5 p then (d.setPc p k (pc + 1)).updStall p (fun s => { s with branchTo := some t }) else d.setPc p k t
  | none =>
    match (d.stall p).branchTo with
    | some t => (d.setPc p k t).updStall p (fun s => { s with branchTo := none })
    | none =>
      let l := loopStep r (d.cnt p k) (loopsAt r pc)
      let d1 := l.1.foldl (fun a e => a.setCnt p k e.1 e.2) d
      match l.2 with
      | some f => d1.setPc p k f
      | none => if pc = r.stop then d1.endBody p k r else d1.setPc p k (pc + 1)

/-- An issued instruction is one firing (R115, R139). -/
def Device.countFiring (d : Device) (p k : Nat) : Device :=
  let d1 := d.setN STL p (0x180 + 4 * k) ((d.regN STL p (0x180 + 4 * k) + 1) % 2 ^ 32)
  let d2 := d1.updStall p (fun s =>
    { s.setCtx k { s.ctx k with fired := (s.ctx k).fired + 1 } with
      noIssue := some d.work, waitIn := false, waitOut := false })
  { d2 with bell := { d2.bell with firedNow := true } }

/-- A cycle in which the next instruction waits (R116). -/
def Device.waits (d : Device) (p : Nat) (inp : Bool) (b : Nat) : Device :=
  (d.count32 STL p (if inp then 0x038 else 0x03C)).updStall p (fun s =>
    { s with noIssue := some d.work, waitIn := inp, waitOn := b, waitOut := !inp, waitAt := some d.now })

/-- The stored instruction at the current context's PC, with its parity bit (R110). -/
def Device.fetched (d : Device) (p : Nat) : Nat :=
  let k := (d.stall p).cur
  (KMap.get d.prog ((8 * p + k) * 256 + d.pc p k) 0).toNat

/-- May the sequencer issue in this cycle (R113, R134, R135, R240, R245)? In T5 steering mode only ctx0 runs (R165). -/
def Device.mayIssue (d : Device) (p : Nat) : Bool :=
  let s := d.stall p
  !d.bell.hushed && !d.closed p && (s.ctx s.cur).inBody && decide (s.noIssue ≠ some d.work) && s.switchTo.isNone
    && s.ctxs.all (fun c => c.draining.isEmpty) && decide ((s.ctx s.cur).lateAt ≠ some d.now) && (!d.t5 p || decide (s.cur = 0))

/-- R111: an instruction whose parity fails is not executed. A second failure since the last full load makes the stall a
candidate (R592). -/
def Device.progParity (d : Device) (p : Nat) : Device :=
  let s := d.stall p
  let d1 := (d.fault STL p 0x6004 (d.whereP p 0 0 s.cur (d.pc p s.cur))).raise STL p 2
  let d2 := d1.updStall p (fun t => { t with parityClosed := true, parityCount := t.parityCount + 1, noIssue := some d.work })
  if s.parityCount = 1 then d2.candidate ⟨0, p⟩ 3 else d2

/-- R156: a counter at or above its bound when LOOP_LAST issues. -/
def Device.boundBroken (d : Device) (p k : Nat) (r : CtxRecord) (pc : Nat) : Bool :=
  (loopsAt r pc).any (fun i => decide (r.loopBound.getD i 0 ≤ d.cnt p k i))

/-- A masked firing (R155). -/
def Device.maskedFire (d : Device) (p k : Nat) (r : CtxRecord) : Device := (d.countFiring p k).nextPc p k r none

/-- A branch that leaves the program: an indirect branch or a branch of T5 steering mode to LENGTH or beyond (R164). In that mode
the instruction after the branch is executed first, so it too lies in the program. -/
def Device.branchOut (d : Device) (p k : Nat) (r : CtxRecord) (indirect : Bool) (br : Option Nat) : Bool :=
  match br with
  | some t => (indirect || d.t5 p) && (decide (r.length ≤ t) || (d.t5 p && decide (r.length ≤ d.pc p k + 1)))
  | none => false

/-- Issue the instruction that is due, if its opcode is `op`: `needs`, `eff` and `br` are given the instruction word. -/
def Device.issue (d : Device) (p op : Nat) (needs : Device → Nat → CtxRecord → Nat → Needs)
    (eff : Device → Nat → CtxRecord → Nat → Device) (br : Device → Nat → Nat → Option Nat) : Device :=
  let s := d.stall p
  let k := s.cur
  match (s.ctx k).rec_ with
  | none => d
  | some r =>
    let code := d.fetched p
    let w := code % 2 ^ 32
    let pc := d.pc p k
    if !d.mayIssue p then d
    else if parityOf 33 code then d.progParity p
    else if fOp w ≠ op then d
    else if d.boundBroken p k r pc then d.instrFault p k 0x4004 0 pc
    else if d.masked p k r pc then d.maskedFire p k r
    else
      let n := needs d k r w
      match d.judge p k r n with
      | .fault code lane index => d.instrFault p k code lane index
      | .waitIn b => d.waits p true b
      | .waitOut => d.waits p false 0
      | .go =>
        let target := br d k w
        if d.branchOut p k r (decide (op = 0x14 ∧ fSrcA w = 7)) target then d.instrFault p k 0x4001 0 pc
        else
          let c := if n.now_ then d.claimOperands p (n.operands r) else (true, d)
          if !c.1 then c.2.updStall p (fun t => { t with noIssue := some d.work, waitIn := false, waitOut := false })
          else ((eff c.2 k r w).countFiring p k).nextPc p k r target

/-- An instruction that names nothing it could wait for. -/
def noNeeds : Device → Nat → CtxRecord → Nat → Needs := fun _ _ _ _ => {}

/-- An instruction that does not branch. -/
def noBranch : Device → Nat → Nat → Option Nat := fun _ _ _ => none

/-- MASKED_FIRING: the instruction that is due is masked (R155). -/
def Device.maskedFiring (d : Device) (p : Nat) : Device :=
  let s := d.stall p
  match (s.ctx s.cur).rec_ with
  | none => d
  | some r =>
    let pc := d.pc p s.cur
    if !d.mayIssue p || !d.masked p s.cur r pc then d
    else if parityOf 33 (d.fetched p) then d.progParity p
    else if d.boundBroken p s.cur r pc then d.instrFault p s.cur 0x4004 0 pc
    else d.maskedFire p s.cur r

def execMaskedFiring (p : Nat) (s : State) : Host.Outcome State Fault Refusal :=
  s.act (Instr.wf (.maskedFiring p)) (fun d => d.maskedFiring p)

/-! ### Operands -/

/-- Read store words through a pointer: their data, and whether one came spoiled (R109).
-/
def Device.readVia (d : Device) (p : Nat) (r : CtxRecord) (ptr ofs n : Nat) : List DWord × Bool × Device :=
  (List.range n).foldl (fun (a : List DWord × Bool × Device) i =>
    let x := a.2.2.storeRead p (effAddr r ptr (ofs + i) % 8192)
    (a.1 ++ [x.1.data], a.2.1 || x.1.spoil, x.2)) ([], false, d)

/-- Pop one word of each source basket (R136). -/
def Device.popAll (d : Device) (p : Nat) (bs : List Nat) : List BWord × Device :=
  bs.foldl (fun (a : List BWord × Device) b =>
    match a.2.basketPop p b with
    | (some w, d1) => (a.1 ++ [w], d1)
    | (none, d1) => (a.1, d1)) ([], d)

/-- EMK: does the firing's last word carry the end mark (R146)? -/
def Device.endMark (d : Device) (p k : Nat) (r : CtxRecord) (emk : Nat) : Bool :=
  match emk with
  | 0 => false
  | 1 => true
  | _ => decide (d.cnt p k (emk - 2) + 1 = r.loopBound.getD (emk - 2) 0)

/-! ### Results -/

/-- The destination store words of a result of `n` words (R141). -/
def dstWords (r : CtxRecord) (ptr n : Nat) : List Nat := (List.range n).map (fun i => effAddr r ptr i)

/-- Send result words: to a lane output, one word per cycle from cycle t + lat, or to the stall store, all in cycle t + lat (R137,
R138, R148). -/
def Device.sendOut (d : Device) (p k : Nat) (dst : Nat) (addrs : List Nat) (lat : Nat) (ws : List (DWord × Bool)) (fin : Bool) : Device :=
  let c := (d.stall p).ctx k
  if dst ≤ 3 then
    d.reserve_ p dst (d.work + lat)
      ((ws.zipIdx).map (fun wi => dataWord wi.1.1 (fin && decide (wi.2 + 1 = ws.length)) (wi.1.2 || c.spoilPushes) c.gen))
  else if dst = 4 ∨ dst = 5 then
    if addrs.isEmpty then d
    else d.updStall p (fun s => { s with landing := s.landing ++ [{ due := d.work + lat, words := addrs.zip ws }] })
  else d

end Sys2Proof.Machine
end

