-- ==== Sys2Proof/Machine/Flags.lean ====
section
/-! DEFINITION. The accumulator file and the rescale unit: sums, wraps and spoil bits (R29, R30, R96 to R98), codes with their
saturation counts, look-ups and parity (R32 to R37, R42, R102, R640), what a Weighbridge tap observes (R45, R46), and the stages of the
pipeline after the issue cycle (R103). -/

namespace Sys2Proof.Machine

/-! ### Accumulators -/

def Stall.acc (s : Stall) (i : Nat) : Int := (KMap.get s.accs i 0).toInt
def Stall.accBad (s : Stall) (i : Nat) : Bool := KMap.get s.accSpoil i false

/-- Put a value in an accumulator, modulo 2^32 (R29). -/
def Stall.setAcc (s : Stall) (i : Nat) (v : Int) : Stall := { s with accs := KMap.set s.accs i (BitVec.ofInt 32 v) 0 }

/-- Give an accumulator its spoil bit. -/
def Stall.setAccBad (s : Stall) (i : Nat) (x : Bool) : Stall := { s with accSpoil := KMap.set s.accSpoil i x false }

/-- Does an exact value fall outside the 32-bit range (R30)? -/
def wraps (v : Int) : Bool := decide (v < -(2 ^ 31 : Nat)) || decide (((2 ^ 31 : Nat) : Int) ≤ v)

/-- Work for a later stage of the pipeline: the stage of cycle t + `lat` (R103). -/
def Device.addStages (d : Device) (p lat : Nat) (l : List Stage) : Device :=
  if l.isEmpty then d else d.updStall p (fun s => { s with stages := s.stages ++ l.map (fun x => (d.work + lat, x)) })

/-- New contents for accumulators, by number, with their spoil bits: they are written in cycle t + 3, and until then a read of the file gives
the contents that stay behind (R103, R152). -/
def Device.putAccs (d : Device) (p : Nat) (l : List (Nat × Int × Bool)) : Device :=
  d.updStall p (fun s =>
    { l.foldl (fun a x => (a.setAcc x.1 x.2.1).setAccBad x.1 x.2.2) s with
      accLag := s.accLag ++ l.map (fun x => ⟨d.work + 3, x.1, KMap.get s.accs x.1 0, s.accBad x.1⟩) })

/-- A firing's sums enter a group: written when it opens the group, added otherwise (R97); a spoiled firing spoils what it
writes (R98); a sum out of range sets ACC_WRAP as it is written (R30, R103). -/
def Device.addSums (d : Device) (p base : Nat) (sums : List Int) (spoil opening : Bool) : Device :=
  let s := d.stall p
  let vals := (sums.zipIdx).map (fun vi => (base + vi.2, if opening then vi.1 else s.acc (base + vi.2) + vi.1,
    spoil || (!opening && s.accBad (base + vi.2))))
  (d.putAccs p vals).addStages p 3 (if vals.any (fun x => wraps x.2.1) then [.wrap] else [])

/-- OPEN and CLOSE of a group (R97); the group is closed in cycle t + 3 (R103). -/
def Device.groupMarks (d : Device) (p base size : Nat) (opn cls : Bool) : Device :=
  let d1 := d.updStall p (fun s =>
    { s with openGroups := if cls then dropAll (base, size) s.openGroups
                           else if opn then insertNew (base, size) s.openGroups else s.openGroups })
  if cls then d1.addStages p 3 [.close base size] else d1

/-- The sums of a group with their spoil bits, every issued firing among them. -/
def Stall.sums (s : Stall) (base n : Nat) : List (Int × Bool) := (List.range n).map (fun i => (s.acc (base + i), s.accBad (base + i)))

/-- An accumulator as an instruction that issues in cycle `now` reads it, in the next cycle: a write of that cycle or a later one does not
count yet (R103, R152). -/
def Stall.accSeen (s : Stall) (now i : Nat) : Int × Bool :=
  match s.accLag.find? (fun x => decide (x.acc = i ∧ now < x.due)) with
  | some x => (x.old.toInt, x.spoil)
  | none => (s.acc i, s.accBad i)

/-- The sums of a group as an instruction that issues in cycle `now` reads them. -/
def Stall.sumsSeen (s : Stall) (now base n : Nat) : List (Int × Bool) := (List.range n).map (fun i => s.accSeen now (base + i))

/-- Is a firing into accumulators `base` to `base + n - 1` still to write its sums (R103, R370)? -/
def Stall.sumsDue (s : Stall) (now base n : Nat) : Bool :=
  s.accLag.any (fun x => decide (base ≤ x.acc ∧ x.acc < base + n ∧ now < x.due))

/-! ### Weighbridge taps (R45, R46, R81) -/

/-- The taps of the open window that cover a channel: tap number and channel offset. -/
def tapsOn (w : Window) (row col ctx chan : Nat) : List (Nat × Nat) :=
  ((w.taps.zipIdx).filter (fun t =>
    let loc := t.1.1.toNat
    let first := fld t.1.2.toNat 0 9
    let count := fld t.1.2.toNat 16 9
    tb loc 0 && decide (fld loc 26 6 = row ∧ fld loc 19 7 = col ∧ fld loc 9 3 = ctx) && decide (count ≤ 256)
      && decide (first ≤ chan ∧ chan < first + count))).map (fun t => (t.2, chan - fld t.1.2.toNat 0 9))

/-- One output enters the statistics of the open window. -/
def Window.observe (w : Window) (row col ctx chan : Nat) (q : Int) : Window :=
  if !w.stats then w
  else (tapsOn w row col ctx chan).foldl (fun a t =>
    let m := min q.natAbs 65535
    let bin := 16 * t.1 + min (m / 8) 15
    { a with mags := KMap.put a.mags (256 * t.1 + t.2) (max (KMap.get a.mags (256 * t.1 + t.2) 0) (m + 1)),
             hist := KMap.put a.hist bin (satAdd 0xFFFFFFFF (KMap.get a.hist bin 0) 1) }) w

/-- A rescaled output is observed (R45). -/
def Device.tapObserve (d : Device) (p k chan : Nat) (q : Int) : Device :=
  match d.wbr.window, d.logOf p with
  | some w, some (row, col) => { d with wbr := { d.wbr with window := some (w.observe row col k chan q) } }
  | _, _ => d

/-! ### Codes -/

/-- LUT[code] with its saturations, and the look-up that fails parity in the copy that serves the channel (R37, R102). -/
def Device.lookUp (d : Device) (p k copy : Nat) (code : Int) : Int × Nat × List Stage :=
  let i := wrapN 8 code
  let v := lutValue (fld (d.regN STL p (0x500 + 4 * (i / 4))) (8 * (i % 4)) 8)
  (v.1, v.2, if (copy, i) ∈ (d.stall p).lutBad then [.lut k copy i] else [])

/-- A failing look-up: LUT_PARITY, and the Ledger names the copy and the index (R102). -/
def Device.lutParity (d : Device) (p k copy i : Nat) : Device :=
  (d.raise STL p 3).log 0xA005 STL p (d.whereP p 0 0 k 0) (copy + i * 256)

/-- Saturations of the rescale unit (R42). -/
def satStage (n : Nat) : List Stage := if n = 0 then [] else [.sat n]

/-- One channel through the rescale unit: its code byte and spoil mark, and what its last stage does: the output that a tap observes, the
saturations and a failing look-up (R32 to R37, R45, R101, R103, R640). -/
def Device.rescaleCh (d : Device) (p k latchIx copy : Nat) (acc : Int) (bad : Bool) : (Byte × Bool) × List Stage :=
  match (d.stall p).latch[latchIx]? with
  | none => ((0, true), [])
  | some c =>
    let q := c.quotient acc
    let st := saturate q
    if c.act = 4 then
      let x := d.lookUp p k copy st.1
      ((codeByte x.1, bad || c.spoil || !x.2.2.isEmpty), .tap k c.chan q :: satStage (st.2 + x.2.1) ++ x.2.2)
    else ((codeByte (c.activate st.1), bad || c.spoil), .tap k c.chan q :: satStage st.2)

/-- A run of channels through the rescale unit, from latch channel `chan0`, with what their last stage does. -/
def Device.rescaleRun (d : Device) (p k chan0 : Nat) (l : List (Int × Bool)) : List ((Byte × Bool) × List Stage) :=
  (l.zipIdx).map (fun vi => d.rescaleCh p k (chan0 + vi.2) (vi.2 % 16) vi.1.1 vi.1.2)

/-- A rescale with its first result in cycle t + `lat`: the codes; its last stage acts in the cycle before (R103), and until then the rescale
is pending and keeps the latch (R100, R148). -/
def Device.rescaleAll (d : Device) (p k chan0 lat : Nat) (l : List (Int × Bool)) : List (Byte × Bool) × Device :=
  let x := d.rescaleRun p k chan0 l
  (x.map (fun c => c.1), (d.addStages p (lat - 1) (x.flatMap (fun c => c.2))).updStall p (fun s =>
    { s with rescaleUntil := max s.rescaleUntil (d.work + lat - 1) }))

/-- What a stage does in its cycle. -/
def Device.stageDue (d : Device) (p : Nat) : Stage → Device
  | .wrap => d.raise STL p 0
  | .close _ _ => d
  | .sat n => d.sat p n
  | .lut k copy i => d.lutParity p k copy i
  | .tap k chan q => d.tapObserve p k chan q

/-- The stages of this cycle, in order; sums that have been written need no older contents. -/
def Device.runStages (d : Device) (p : Nat) : Device :=
  let l := (d.stall p).stages
  let keep := fun (x : AccLag) => decide (d.work + 1 < x.due)
  let d1 := if l.isEmpty then d
    else (l.filter (fun e => decide (e.1 ≤ d.work))).foldl (fun a e => a.stageDue p e.2)
      (d.updStall p (fun s => { s with stages := l.filter (fun e => decide (d.work < e.1)) }))
  if (d.stall p).accLag.all keep then d1 else d1.updStall p (fun s => { s with accLag := s.accLag.filter keep })

/-- Codes packed eight to a word; a word with a spoiled code is spoiled (R101). -/
def codeWords (l : List (Byte × Bool)) : List (DWord × Bool) :=
  (List.range ((l.length + 7) / 8)).map (fun i =>
    let c := (l.drop (8 * i)).take 8
    (wordOf (c.map (fun x => x.1)), c.any (fun x => x.2)))

end Sys2Proof.Machine
end

