-- ==== Sys2Proof/Machine/Array.lean ====
section
/-! DEFINITION. The array instructions MAC8, MAC4, WMAC, DWMAC, PMAX and RSC (R92 to R98, R148). -/

namespace Sys2Proof.Machine

/-! ### Planes -/

def Stall.plane (s : Stall) (i : Nat) : Plane := KMap.get s.planes i {}

/-- A plane is locked up to the last cycle of a fill of it (R89, R149). -/
def Stall.planeLocked (s : Stall) (now i : Nat) : Bool := s.planeFills.any (fun f => decide (f.plane = i)) || decide (s.planeAt = some (now, i))

/-- Does a firing that reads `n` bytes of the plane meet a bad byte or a spoiled plane (R90, R91)? -/
def Device.planeUse (d : Device) (p k i n : Nat) : Bool × Device :=
  let pl := (d.stall p).plane i
  if pl.bad.any (fun b => decide (b < n)) then (true, (d.raise STL p 4).log 0xA004 STL p (d.whereP p 0 0 k 0) i)
  else (pl.spoil, d)

/-- Byte `b` of a plane. -/
def Plane.byte (pl : Plane) (b : Nat) : Byte := pl.bytes.getD b 0

/-- The dense int8 weights: input c, output o at byte 16c + o (R267), and how many read 0x80. DESIGN CHOICE (assumption 103): such a byte counts
at every firing that uses its plane, not at the fill (R26). -/
def Plane.int8 (pl : Plane) : List Int × Nat := readCodes ((List.range 256).map pl.byte)

/-- The dense int4 weights: input c, output o, o from 0 to 31 (R267), and how many read 0x8. -/
def Plane.int4 (pl : Plane) : List Int × Nat :=
  let l := (List.range 512).map (fun i => readI4 ((pl.byte (i / 2)).toNat / 16 ^ (i % 2)))
  (l.map (fun x => x.1), (l.map (fun x => x.2)).sum)

/-- Column sums: `outs` outputs of 16 inputs against a weight table. -/
def columnSums (acts : List Int) (w : List Int) (outs : Nat) : List Int :=
  (List.range outs).map (fun o => ((List.range 16).map (fun c => acts.getD c 0 * w.getD (outs * c + o) 0)).sum)

/-! ### Latch and destination -/

/-- Does the array instruction rescale (R100)? -/
def rescales (w : Nat) : Bool := fClose w && decide (fDst w ≠ 6)

/-- Is a latch fill in progress, its last cycle included (R100)? -/
def Stall.latchFilling (s : Stall) (now : Nat) : Bool := !s.latchFills.isEmpty || decide (s.latchAt = some now)

/-- The destination an array instruction uses: HOLD unless it closes its group (R147). -/
def outDst (w : Nat) : Nat := if fClose w then fDst w else 6

/-- Words by which the operand read has advanced the pointer before the result write uses it (R141). -/
def readAdvance (w : Nat) : Nat := if fSrcA w = 5 then 2 else 0

/-- What the destination of `n` words asks of the firing rule. -/
def Device.dstNeeds (d : Device) (p k : Nat) (r : CtxRecord) (dst ptr adv n : Nat) : List Nat × Option (Nat × Nat) :=
  if dst ≤ 3 then ([], some (dst, n))
  else if dst = 4 ∨ dst = 5 then (dstWords r ((d.ptr p k ptr + adv) % 2 ^ 32) n, none)
  else ([], none)

/-- Send the codes of a closed group to its destination and advance the pointer (R141, R146, R148). -/
def Device.sendCodes (d : Device) (p k : Nat) (r : CtxRecord) (w lat adv : Nat) (fin : Bool) (codes : List (Byte × Bool)) : Device :=
  let ws := codeWords codes
  let bad := d.gSpoil p k (12 + fPtr w)
  let addrs := if bad then [] else dstWords r ((d.ptr p k (fPtr w) + adv) % 2 ^ 32) ws.length
  d.sendOut p k (fDst w) addrs lat ws fin

/-- Rescale sums and send them. -/
def Device.closeGroup (d : Device) (p k : Nat) (r : CtxRecord) (w lat adv chan0 : Nat) (fin : Bool) (sums : List (Int × Bool)) : Device :=
  let x := d.rescaleAll p k chan0 lat sums
  x.2.sendCodes p k r w lat adv fin x.1

/-- Advance the pointer of an array instruction: by its read, and by its result write (R141). -/
def Device.advancePtr (d : Device) (p k w adv words : Nat) : Device :=
  let n := adv + (if outDst w = 5 then words else 0)
  if n = 0 then d else d.bumpPtr p k (fPtr w) n

/-! ### MAC8 and MAC4 -/

/-- What a dense firing names. -/
def denseNeeds (outs : Nat) (d : Device) (k : Nat) (r : CtxRecord) (p w : Nat) : Needs :=
  let s := d.stall p
  let fromStore := decide (fSrcA w = 4 ∨ fSrcA w = 5)
  let x := d.dstNeeds p k r (outDst w) (fPtr w) (readAdvance w) (outs / 8)
  { srcs := if fromStore then [] else [fSrcA w, fSrcB w]
    locked := s.planeLocked d.work (fPlane w) || (rescales w && s.latchFilling d.work) || (fromStore && s.adapting)
    reads := if fromStore then [(d.ptr p k (fPtr w), 0, 2)] else []
    now_ := fromStore, writes := x.1, lane := x.2 }

/-- The two operand words: from baskets, or from the store at the pointer (R93, R148). -/
def Device.denseOperands (d : Device) (p k : Nat) (r : CtxRecord) (w : Nat) : List DWord × Bool × Device :=
  if fSrcA w ≤ 3 then
    let x := d.popAll p [fSrcA w, fSrcB w]
    (x.1.map (fun v => v.data), x.1.any (fun v => v.spoil), x.2)
  else
    let x := d.readVia p r (d.ptr p k (fPtr w)) 0 2
    (x.1, x.2.1 || d.gSpoil p k (12 + fPtr w), x.2.2)

/-- A dense firing: 16 codes against a plane of 16 or 32 outputs (R92, R93, R97, R98). -/
def denseEffect (outs : Nat) (p : Nat) (d : Device) (k : Nat) (r : CtxRecord) (w : Nat) : Device :=
  let fin := d.endMark p k r (fEmk w)
  let x := d.denseOperands p k r w
  let acts := readCodes (x.1.flatMap bytesOf)
  let pl := (x.2.2.stall p).plane (fPlane w)
  let wt := if outs = 16 then pl.int8 else pl.int4
  let u := x.2.2.planeUse p k (fPlane w) 256
  let base := outs * fGroup w
  let d1 := ((u.2.sat p (acts.2 + wt.2)).addSums p base (columnSums acts.1 wt.1 outs) (x.2.1 || u.1) (fOpen w)).groupMarks p base outs
    (fOpen w) (fClose w)
  let d2 := if rescales w then d1.closeGroup p k r w 7 (readAdvance w) 0 fin ((d1.stall p).sums base outs) else d1
  d2.advancePtr p k w (readAdvance w) (outs / 8)

/-- A dense instruction. -/
def Device.dense (d : Device) (p op outs : Nat) : Device :=
  d.issue p op (fun x k r w => denseNeeds outs x k r p w) (denseEffect outs p) noBranch

/-- MAC8 (R148). -/
def execMac8 (p : Nat) (s : State) : Host.Outcome State Fault Refusal := s.act (Instr.wf (.mac8 p)) (fun d => d.dense p 0x01 16)

/-- MAC4 (R148). -/
def execMac4 (p : Nat) (s : State) : Host.Outcome State Fault Refusal := s.act (Instr.wf (.mac4 p)) (fun d => d.dense p 0x02 32)

/-! ### WMAC (R94, R98, R153, R277, R281) -/

/-- The transformed values of a tile position, by channel. -/
def Stall.tbVector (s : Stall) (buf pos : Nat) : List Int :=
  (List.range 16).map (fun c => (KMap.get s.tb (256 * buf + 16 * pos + c) 0).toInt)

/-- The transformed weights of a plane, input c and output o at 16c + o. -/
def Plane.wino (pl : Plane) : List Int := (List.range 256).map (wino10 pl.bytes)

/-- Is a transform buffer locked: a WXF of it has not read its rows or transformed them (R94, R148)? -/
def Stall.tbLocked (s : Stall) (now buf : Nat) : Bool :=
  decide (now < s.tbReady.getD buf 0) || s.reads.any (fun x => match x.op with | .wxf b _ => decide (b = buf) | _ => false)

/-- Is the window locked: a WADV has not read its words, or its column is not in yet (R148)? -/
def Stall.winLocked (s : Stall) (now : Nat) : Bool :=
  decide (now < s.winReady) || s.reads.any (fun x => match x.op with | .wadv _ _ => true | _ => false)

/-- Does the output transform still read the sums of a Winograd group (R153)? -/
def Stall.wgReading (s : Stall) (now wg : Nat) : Bool :=
  match KMap.get s.wgReads wg none with
  | some x => !x.2 || decide (now ≤ x.1)
  | none => false

def wmacNeeds (p : Nat) (d : Device) (k : Nat) (r : CtxRecord) (w : Nat) : Needs :=
  let s := d.stall p
  let x := d.dstNeeds p k r (outDst w) (fPtr w) 0 8
  { locked := s.planeLocked d.work (fPlane w) || s.tbLocked d.work (fTb w) || (fOpen w && s.wgReading d.work (fWg w)) || (rescales w && s.latchFilling d.work)
    writes := x.1, lane := x.2 }

/-- The 16 outputs of the tile's four positions: sums modulo 2^32 with their spoil, position by position, and whether one wrapped. -/
def Stall.winoOutputs (s : Stall) (base : Nat) : List (Int × Bool) × Bool :=
  let per := (List.range 16).map (fun o =>
    (winoOut ((List.range 16).map (fun i => s.acc (base + 16 * i + o))), (List.range 16).any (fun i => s.accBad (base + 16 * i + o))))
  let l := (List.range 4).flatMap (fun pos => per.map (fun x => (x.1.getD pos 0, x.2)))
  (l.map (fun x => ((BitVec.ofInt 32 x.1).toInt, x.2)), l.any (fun x => wraps x.1))

/-- The tile's four positions in order, their codes and what the last stage does; latch channel j serves channel j at all four (R640). -/
def Device.rescaleTile (d : Device) (p k lat : Nat) (l : List (Int × Bool)) : List (Byte × Bool) × Device :=
  (List.range 4).foldl (fun (a : List (Byte × Bool) × Device) i =>
    let x := a.2.rescaleAll p k 0 lat ((l.drop (16 * i)).take 16)
    (a.1 ++ x.1, x.2)) ([], d)

/-- What a Winograd firing leaves in its group: the 16 sums of its position, added, or alone in the group when it opens it; a spoiled tile
spoils the whole group (R97, R98). -/
def Stall.winoGroup (s : Stall) (base pos : Nat) (sums : List Int) (opening spoil spoilTile : Bool) : List (Nat × Int × Bool) :=
  let olds := if opening || spoilTile then List.range 256 else (List.range 16).map (fun o => 16 * pos + o)
  olds.map (fun i =>
    let v : Int := if opening then 0 else s.acc (base + i)
    let bad := spoilTile || (!opening && s.accBad (base + i))
    if i / 16 = pos then (base + i, v + sums.getD (i % 16) 0, bad || spoil) else (base + i, v, bad))

/-- The group's sums are being read from the cycle after its last firing to cycle c + 17, whatever the destination; the output transform's
wraps set ACC_WRAP in the stage before the first result, DEDUCED (assumption 101) (R30, R153, R281). -/
def wmacEffect (p : Nat) (d : Device) (k : Nat) (r : CtxRecord) (w : Nat) : Device :=
  let fin := d.endMark p k r (fEmk w)
  let s := d.stall p
  let base := 256 * fWg w
  let u := d.planeUse p k (fPlane w) 320
  let l := s.winoGroup base (fPos w) (columnSums (s.tbVector (fTb w) (fPos w)) (s.plane (fPlane w)).wino 16) (fOpen w) u.1
    (decide (fTb w ∈ s.tbSpoil))
  let d1 := (((u.2.putAccs p l).addStages p 3 (if l.any (fun x => wraps x.2.1) then [.wrap] else [])).groupMarks p base 256
    (fOpen w) (fClose w))
  if !fClose w then d1
  else
    let o := (d1.stall p).winoOutputs base
    let d2 := (d1.updStall p (fun t => { t with wgReads := KMap.put t.wgReads (fWg w) (some (d.work + 17, false)) })).addStages p 9
      (if o.2 then [.wrap] else [])
    if fDst w = 6 then d2
    else
      let x := d2.rescaleTile p k 10 o.1
      (x.2.sendCodes p k r w 10 0 fin x.1).advancePtr p k w 0 8

/-- WMAC (R148). -/
def execWmac (p : Nat) (s : State) : Host.Outcome State Fault Refusal :=
  s.act (Instr.wf (.wmac p)) (fun d => d.issue p 0x03 (wmacNeeds p) (wmacEffect p) noBranch)

/-- WINOGRAD_TRANSFORM_DONE: in cycle c + 17 at the earliest the output transform has read the group's sums; it may be opened again from the
next cycle (R153). -/
def Device.winogradDone (d : Device) (p wg : Nat) : Device :=
  match KMap.get (d.stall p).wgReads wg none with
  | some x =>
    if d.bell.hushed || decide (d.work < x.1) then d
    else d.updStall p (fun t => { t with wgReads := KMap.put t.wgReads wg (some (max x.1 d.work, true)) })
  | none => d

def execWinogradTransformDone (p wg : Nat) (s : State) : Host.Outcome State Fault Refusal :=
  s.act (Instr.wf (.winogradTransformDone p wg)) (fun d => d.winogradDone p wg)

/-! ### DWMAC and PMAX (R95) -/

/-- Tap t of channel j in the window register. -/
def Stall.tapCode (s : Stall) (t j : Nat) : Int := (KMap.get s.window (16 * t + j) 0).toInt

def windowNeeds (p : Nat) (d : Device) (k : Nat) (r : CtxRecord) (w : Nat) : Needs :=
  let s := d.stall p
  let x := d.dstNeeds p k r (outDst w) (fPtr w) 0 2
  { locked := s.planeLocked d.work (fPlane w) || s.winLocked d.work || (rescales w && s.latchFilling d.work)
    writes := x.1, lane := x.2 }

def dwmacEffect (p : Nat) (d : Device) (k : Nat) (r : CtxRecord) (w : Nat) : Device :=
  let fin := d.endMark p k r (fEmk w)
  let s := d.stall p
  let wt := (s.plane (fPlane w)).int8
  let u := d.planeUse p k (fPlane w) 256
  let base := 16 * fGroup w
  let sums := (List.range 16).map (fun j => ((List.range 16).map (fun t => s.tapCode t j * wt.1.getD (16 * t + j) 0)).sum)
  let d1 := ((u.2.sat p wt.2).addSums p base sums (u.1 || !s.winSpoil.isEmpty) (fOpen w)).groupMarks p base 16 (fOpen w) (fClose w)
  let d2 := if rescales w then d1.closeGroup p k r w 7 0 0 fin ((d1.stall p).sums base 16) else d1
  d2.advancePtr p k w 0 2

/-- DWMAC (R148). -/
def execDwmac (p : Nat) (s : State) : Host.Outcome State Fault Refusal :=
  s.act (Instr.wf (.dwmac p)) (fun d => d.issue p 0x04 (windowNeeds p) (dwmacEffect p) noBranch)

/-- The largest selected code of channel j; −127 when the mask selects no tap (R95). -/
def Stall.tapMax (s : Stall) (pl : Plane) (j : Nat) : Int :=
  (List.range 16).foldl (fun m t => if (pl.byte (16 * t + j)) ≠ 0 then max m (s.tapCode t j) else m) (-127)

/-- The maxima of a pool-max firing: alone when it opens the group, else with the group's contents; DESIGN CHOICE (assumption 102): a spoiled position
of the window spoils all of them, whether or not a column selects it (R95, R98). -/
def Stall.poolMax (s : Stall) (base : Nat) (pl : Plane) (opening spoil : Bool) : List (Nat × Int × Bool) :=
  let bad := spoil || !s.winSpoil.isEmpty
  (List.range 16).map (fun j =>
    let m := s.tapMax pl j
    if opening then (base + j, m, bad) else (base + j, max m (s.acc (base + j)), bad || s.accBad (base + j)))

/-- The code that a column delivers. A maximum with a held sum above 127 is no code, and the spec states none for it: a free value from -127 to 127
(assumption 3). -/
def Device.poolCode (d : Device) (j : Nat) (v : Int) : Byte :=
  codeByte (if v ≤ 127 then v else (((Config.freeValue (d.frees + j)).toNat % 255 : Nat) : Int) - 127)

def pmaxEffect (p : Nat) (d : Device) (k : Nat) (r : CtxRecord) (w : Nat) : Device :=
  let fin := d.endMark p k r (fEmk w)
  let base := 16 * fGroup w
  let u := d.planeUse p k (fPlane w) 256
  let vals := (d.stall p).poolMax base ((d.stall p).plane (fPlane w)) (fOpen w) u.1
  let d1 := (u.2.putAccs p vals).groupMarks p base 16 (fOpen w) (fClose w)
  let d3 := if rescales w then
      let d2 := if vals.any (fun x => decide (127 < x.2.1)) then { d1 with frees := d1.frees + 16 } else d1
      d2.sendCodes p k r w 4 0 fin ((vals.zipIdx).map (fun (x : (Nat × Int × Bool) × Nat) => (d1.poolCode x.2 x.1.2.1, x.1.2.2)))
    else d1
  d3.advancePtr p k w 0 2

/-- PMAX (R148). -/
def execPmax (p : Nat) (s : State) : Host.Outcome State Fault Refusal :=
  s.act (Instr.wf (.pmax p)) (fun d => d.issue p 0x05 (windowNeeds p) (pmaxEffect p) noBranch)

/-! ### RSC -/

def rscNeeds (p : Nat) (d : Device) (k : Nat) (r : CtxRecord) (w : Nat) : Needs :=
  let x := d.dstNeeds p k r (fDst w) (fPtr w) 0 2
  { locked := (d.stall p).latchFilling d.work, writes := x.1, lane := x.2 }

/-- Half GROUP[0] of the held group: the 16 accumulators at 16 × GROUP (R148, R640). -/
def rscEffect (p : Nat) (d : Device) (k : Nat) (r : CtxRecord) (w : Nat) : Device :=
  let fin := d.endMark p k r (fEmk w)
  let chan0 := if 16 < (d.stall p).latch.length then 16 * (fGroup w % 2) else 0
  let d1 := d.closeGroup p k r w 4 0 chan0 fin ((d.stall p).sumsSeen d.work (16 * fGroup w) 16)
  if fDst w = 5 then d1.bumpPtr p k (fPtr w) 2 else d1

/-- RSC (R148). -/
def execRsc (p : Nat) (s : State) : Host.Outcome State Fault Refusal :=
  s.act (Instr.wf (.rsc p)) (fun d => d.issue p 0x0C (rscNeeds p) (rscEffect p) noBranch)

end Sys2Proof.Machine
end

