-- ==== Sys2Proof/Machine/Feeds.lean ====
section
/-! DEFINITION. What feeds the array: WXF, WADV, PFILL and LATCH with the ends of their fills (R88 to R90, R94, R95, R99 to R101, R148,
R149, R267, R640, R641), and the line-buffer feed (R268 to R271). -/

namespace Sys2Proof.Machine

/-- The pointer field PA of formats X and M. -/
def fPa20 (w : Nat) : Nat := fld w 20 2

/-! ### WXF -/

/-- The stride register's value. -/
def Device.wxfStride (d : Device) (p k w : Nat) : Nat := (d.greg p k (fld w 22 4)).toNat

def wxfNeeds (p : Nat) (d : Device) (k : Nat) (_r : CtxRecord) (w : Nat) : Needs :=
  let s := d.stall p
  { locked := s.tbLocked d.work (fld w 19 1) || s.adapting
    reads := (List.range 4).map (fun i => (d.ptr p k (fPa20 w), i * d.wxfStride p k w, 8)) }

/-- A read of the store that begins in the cycle after issue: the numbered words of each cycle, at addresses fixed in the issue cycle (R141). -/
def Device.readLater (d : Device) (p k : Nat) (op : ReadOp) (cycles : List (List (Nat × Nat))) : Device :=
  d.updStall p (fun s => { s with reads := s.reads ++ [⟨d.work + 1, k, op, cycles.map (fun c => c.map (fun x => (x.1, x.2 % 8192))), []⟩] })

/-- The four rows are read in cycles t + 1 to t + 4 (R148). -/
def wxfEffect (p : Nat) (d : Device) (k : Nat) (r : CtxRecord) (w : Nat) : Device :=
  let ptr := d.ptr p k (fPa20 w)
  let rows := (List.range 4).map (fun i => (List.range 8).map (fun j => (8 * i + j, effAddr r ptr (i * d.wxfStride p k w + j))))
  let d1 := d.readLater p k (.wxf (fld w 19 1) (d.gSpoil p k (12 + fPa20 w))) rows
  if tb w 18 then d1.bumpPtr p k (fPa20 w) 4 else d1

/-- The transformed patch: value of channel c at tile position q in entry 256 × buffer + 16q + c (R94, R277, R278). -/
def wxfValues (buf : Nat) (codes : List Int) : List (Nat × BitVec 10) :=
  (List.range 16).flatMap (fun c =>
    ((winoIn ((List.range 16).map (fun q => codes.getD (64 * (q / 4) + 16 * (q % 4) + c) 0))).zipIdx).map (fun vq =>
      (256 * buf + 16 * vq.2 + c, BitVec.ofInt 10 vq.1)))

/-- The last row of a patch has been read: its 16 channels are transformed, and the buffer is ready two cycles later (R94, R148). -/
def Device.wxfDone (d : Device) (p buf : Nat) (bad : Bool) (got : List (DWord × Bool)) : Device :=
  let codes := readCodes (got.flatMap (fun x => bytesOf x.1))
  (d.sat p codes.2).updStall p (fun s =>
    { s with tb := (wxfValues buf codes.1).foldl (fun m kv => KMap.set m kv.1 kv.2 0) s.tb
             tbSpoil := if bad || got.any (fun x => x.2) then insertNew buf s.tbSpoil else dropAll buf s.tbSpoil
             tbReady := upd s.tbReady buf (fun _ => d.work + 2) })

/-- WXF (R148). -/
def execWxf (p : Nat) (s : State) : Host.Outcome State Fault Refusal :=
  s.act (Instr.wf (.wxf p)) (fun d => d.issue p 0x08 (wxfNeeds p) (wxfEffect p) noBranch)

/-! ### WADV -/

def wadvNeeds (p : Nat) (d : Device) (k : Nat) (_r : CtxRecord) (w : Nat) : Needs :=
  { locked := (d.stall p).adapting, reads := [(d.ptr p k (fPa20 w), 0, fld w 17 3 + 1)] }

/-- The window moves on by one column; bytes that no word fills hold code 0 (R95). -/
def Stall.advance (s : Stall) (codes : List Int) (bad : Nat → Bool) : Stall :=
  let moved := s.window.filterMap (fun e => if e.1 / 16 % 4 = 0 then none else some (e.1 - 16, e.2))
  let col : List (Nat × Int) := (List.range 4).flatMap (fun wr =>
    (List.range 16).map (fun c => (16 * (4 * wr + 3) + c, codes.getD (16 * wr + c) 0)))
  { s with window := col.foldl (fun m kv => KMap.set m kv.1 (BitVec.ofInt 8 kv.2) 0) moved
           winSpoil := (s.winSpoil.filter (fun t => decide (t % 4 ≠ 0))).map (fun t => t - 1)
             ++ ((List.range 4).filter bad).map (fun wr => 4 * wr + 3) }

/-- The words of the new column are read in cycle t + 1 (R148). -/
def wadvEffect (p : Nat) (d : Device) (k : Nat) (r : CtxRecord) (w : Nat) : Device :=
  let n := fld w 17 3 + 1
  let d1 := d.readLater p k (.wadv n (d.gSpoil p k (12 + fPa20 w))) [(List.range n).map (fun i => (i, effAddr r (d.ptr p k (fPa20 w)) i))]
  if tb w 16 then d1.bumpPtr p k (fPa20 w) n else d1

/-- The words have been read: the window moves on, and is ready in the next cycle (R95, R148). -/
def Device.wadvDone (d : Device) (p n : Nat) (through : Bool) (got : List (DWord × Bool)) : Device :=
  let codes := readCodes (got.flatMap (fun x => bytesOf x.1))
  let spoilOf := fun (i : Nat) => (got.getD i (0, false)).2
  let bad := fun wr => spoilOf (2 * wr) || spoilOf (2 * wr + 1) || (through && decide (2 * wr < n))
  (d.sat p codes.2).updStall p (fun s => { s.advance codes.1 bad with winReady := d.work + 1 })

/-- WADV (R148). -/
def execWadv (p : Nat) (s : State) : Host.Outcome State Fault Refusal :=
  s.act (Instr.wf (.wadv p)) (fun d => d.issue p 0x09 (wadvNeeds p) (wadvEffect p) noBranch)

/-! ### PFILL -/

/-- Words of a plane fill (R88). -/
def fillWords (w : Nat) : Nat := if tb w 23 then 40 else 32

def pfillNeeds (p : Nat) (d : Device) (k : Nat) (_r : CtxRecord) (w : Nat) : Needs :=
  let s := d.stall p
  { locked := s.planeLocked d.work (fPlane w) || s.adapting
    reads := [(d.ptr p k (fld w 24 2), fld w 0 13, fillWords w)] }

/-- The fill begins in the next cycle and locks the plane (R89, R149); its addresses are fixed in the issue cycle (R141). -/
def pfillEffect (p : Nat) (d : Device) (k : Nat) (r : CtxRecord) (w : Nat) : Device :=
  let ptr := d.ptr p k (fld w 24 2)
  d.updStall p (fun s => { s with planeFills := s.planeFills ++
    [{ plane := fPlane w, ctx := k, trans := tb w 22, bad := d.gSpoil p k (12 + fld w 24 2), at_ := d.work, got := []
       todo := (List.range (fillWords w)).map (fun i => effAddr r ptr (fld w 0 13 + i) % 8192) }] })

/-- PFILL (R148). -/
def execPfill (p : Nat) (s : State) : Host.Outcome State Fault Refusal :=
  s.act (Instr.wf (.pfill p)) (fun d => d.issue p 0x0A (pfillNeeds p) (pfillEffect p) noBranch)

/-- The transposed order of a 256-byte plane (R267). -/
def transposed (l : List Byte) : List Byte :=
  (List.range 256).map (fun i => l.getD (16 * (4 * (i / 16 % 4) + i / 64) + i % 16) 0)

/-- What a plane holds after a fill with the given words (R88 to R91, R267). -/
def Plane.filled (old : Plane) (f : PlaneFill) (got : List (DWord × Bool)) : Plane :=
  let raw := got.flatMap (fun x => bytesOf x.1)
  let bytes := if f.trans then transposed raw else raw
  { bytes := bytes ++ old.bytes.drop bytes.length, bad := [], spoil := f.bad || got.any (fun x => x.2) }

/-! ### LATCH -/

/-- An entry as a fill reads it: value, complement and spoil; none when it lies beyond its set's region (R351). -/
abbrev ReadEntry := Option (DWord × DWord × Bool)

/-- ACT of an entry that was read. -/
def readAct (e : ReadEntry) : Option Nat := e.map (fun x => entAct x.1.toNat)

/-- The kind of an entry's failure: 1 twin mismatch, 2 invalid (R39, R40, R351). -/
def readBad (e : ReadEntry) (prev next : Option Nat) : Nat :=
  match e with
  | none => 2
  | some x => entryBad x.1 x.2.1 prev next

/-- Is an entry spoiled as read, or failing? -/
def readSpoil (e : ReadEntry) (bad : Nat) : Bool :=
  match e with
  | none => true
  | some x => x.2.2 || bad != 0

/-- The latch channel that an entry makes; its bias comes later. -/
def channelOf (i : Nat) (e : ReadEntry) (leak : Nat) (spoil : Bool) : LatchCh :=
  match e with
  | none => ⟨i, 0, 0, 0, 0, 0, 0, 0, spoil⟩
  | some x => let v := x.1.toNat
    ⟨i, entM v, entN v, entAct v, sx 8 (entLo v), sx 8 (entHi v), leak, 0, spoil⟩

/-- M_LEAK of a second entry. -/
def readLeak (e : ReadEntry) : Nat :=
  match e with
  | some x => entM x.1.toNat
  | none => 0

/-- The latch channels of a fill, in order, and its failing entries with their kind. The second entry of a leaky pair makes no
channel of its own (R39, R640). -/
def buildLatch (i : Nat) (prev : Option Nat) : List ReadEntry → List LatchCh × List (Nat × Nat)
  | [] => ([], [])
  | e :: rest =>
    let next := (rest.head?).bind readAct
    let b := readBad e prev next
    let t := buildLatch (i + 1) (readAct e) rest
    let fails := (if b = 0 then [] else [(i, b)]) ++ t.2
    if readAct e = some 7 ∧ prev = some 3 then (t.1, fails)
    else if readAct e = some 3 ∧ next = some 7 then
      let n := rest.headD none
      let b2 := readBad n (some 3) none
      (channelOf i e (readLeak n) (readSpoil e b || readSpoil n b2) :: t.1, fails)
    else (channelOf i e 0 (readSpoil e b) :: t.1, fails)

/-- Entry `i` of a set lies in words BASE + 2i and BASE + 2i + 1 (R41). -/
def Stall.entryWord (s : Stall) (setB : Bool) (i : Nat) : Nat := s.setBase.getD (b2n setB) 0 + 2 * i

/-- Does entry `i` lie inside the set's region (R351)? -/
def Stall.entryInside (s : Stall) (i : Nat) : Bool := decide (2 * i + 2 ≤ s.setWords)

/-- The latch channels a fill will place, found without reading for it: the number of bias words follows (R641). -/
def Device.latchChannels (d : Device) (p first count : Nat) (setB : Bool) : Nat :=
  let s := d.stall p
  let peek := fun a => (decodeWord (d.storeCode p (a % 8192))).data
  (buildLatch first none ((List.range count).map (fun i =>
    if s.entryInside (first + i) then some (peek (s.entryWord setB (first + i)), peek (s.entryWord setB (first + i) + 1), false)
    else none))).1.length

/-- Bias words of a LATCH (R641). -/
def Device.biasWords (d : Device) (p k w : Nat) : Nat :=
  (d.latchChannels p (fld w 16 9) (fld w 10 6) ((d.stall p).ctx k).calSet + 1) / 2

def latchNeeds (p : Nat) (d : Device) (k : Nat) (_r : CtxRecord) (w : Nat) : Needs :=
  let s := d.stall p
  { locked := decide (d.work ≤ s.rescaleUntil) || s.adapting
    reads := [(d.ptr p k (fld w 8 2), fld w 0 8, d.biasWords p k w)] }

/-- The fill begins in the next cycle, from the set that the body's slot names (R63, R133, R149): its entries, but for one beyond the region
(R351), then its biases. -/
def latchEffect (p : Nat) (d : Device) (k : Nat) (r : CtxRecord) (w : Nat) : Device :=
  let s := d.stall p
  let setB := (s.ctx k).calSet
  let entries := ((List.range (fld w 10 6)).filter (fun i => s.entryInside (fld w 16 9 + i))).flatMap (fun i =>
    [s.entryWord setB (fld w 16 9 + i) % 8192, (s.entryWord setB (fld w 16 9 + i) + 1) % 8192])
  let biases := (List.range (d.biasWords p k w)).map (fun i => effAddr r (d.ptr p k (fld w 8 2)) (fld w 0 8 + i) % 8192)
  d.updStall p (fun s => { s with latchFills := s.latchFills ++
    [{ ctx := k, first := fld w 16 9, count := fld w 10 6, bad := d.gSpoil p k (12 + fld w 8 2), at_ := d.work, got := []
       todo := entries ++ biases }] })

/-- LATCH (R148). -/
def execLatch (p : Nat) (s : State) : Host.Outcome State Fault Refusal :=
  s.act (Instr.wf (.latch p)) (fun d => d.issue p 0x0B (latchNeeds p) (latchEffect p) noBranch)

/-- The entries of a fill, from its words: one beyond the region has not been read (R351). -/
def Stall.fillEntries (s : Stall) (f : LatchFill) (got : List (DWord × Bool)) : List ReadEntry :=
  let w := fun (i : Nat) => got.getD i (0, true)
  (List.range f.count).map (fun i =>
    if s.entryInside (f.first + i) then some ((w (2 * i)).1, (w (2 * i + 1)).1, (w (2 * i)).2 || (w (2 * i + 1)).2) else none)

/-- The latch after a fill with the given words, and its failing entries with their kind (R99, R101, R640, R641). -/
def Stall.filledLatch (s : Stall) (f : LatchFill) (got : List (DWord × Bool)) : List LatchCh × List (Nat × Nat) :=
  let t := buildLatch f.first none (s.fillEntries f got)
  let biases := got.drop (2 * ((List.range f.count).filter (fun i => s.entryInside (f.first + i))).length)
  ((t.1.zipIdx).map (fun cj =>
    let b := biases.getD (cj.2 / 2) (0, true)
    { cj.1 with bias := sx 32 (fld b.1.toNat (32 * (cj.2 % 2)) 32), spoil := cj.1.spoil || b.2 || f.bad }), t.2)

/-! ### The line-buffer feed -/

/-- The feed has had its step of this cycle, made or lost (R270). -/
def Device.fedNow (d : Device) (p : Nat) : Device := d.updStall p (fun s => { s with fedAt := some d.work })

/-- LB_FEED_STEP (R143, R270, R324). -/
def Device.feedStep (d : Device) (p : Nat) : Device :=
  match (d.stall p).feeding with
  | none => d
  | some (k, r, l, x) =>
    let c := (d.stall p).ctx k
    let a := feedAddr r c.fed % 8192
    if d.bell.hushed || d.closed p || decide ((d.stall p).fedAt = some d.work) then d
    else match x with
      | .pad =>
        let y := (d.fedNow p).claimUnder p (d.beforeFeed p) [a % 8]
        if !y.1 then y.2 else (y.2.storeWrite p a (wordOf (List.replicate 8 l.padCode)) false).setCtx p k (c.stepped true)
      | .take b =>
        match d.headGen p b c.gen with
        | some 0 =>
          let y := (d.fedNow p).claimUnder p (d.beforeFeed p) [a % 8]
          if !y.1 then y.2
          else match y.2.basketPop p b with
            | (some w, d1) => (d1.storeWrite p a w.data w.spoil).setCtx p k (c.stepped true)
            | (none, d1) => d1
        | some 2 | some 3 => d.stallFault p k 0x4007 b 0
        | _ => d
      | .drop b =>
        match d.headGen p b c.gen with
        | some 0 => ((d.fedNow p).basketPop p b).2.setCtx p k (c.stepped false)
        | some 2 | some 3 => d.stallFault p k 0x4007 b 0
        | _ => d

def execLbFeedStep (p : Nat) (s : State) : Host.Outcome State Fault Refusal :=
  s.act (Instr.wf (.lbFeedStep p)) (fun d => d.feedStep p)

end Sys2Proof.Machine
end

