-- ==== Sys2Proof/Machine/Scalar.lean ====
section
/-! DEFINITION. Data movement, scalar and control instructions (R148, R150, R151), and those of T5 steering mode (R165 to R167). -/

namespace Sys2Proof.Machine

/-! ### NOP, MOV -/

/-- NOP (R148). -/
def execNop (p : Nat) (s : State) : Host.Outcome State Fault Refusal :=
  s.act (Instr.wf (.nop p)) (fun d => d.issue p 0x00 noNeeds (fun x _ _ _ => x) noBranch)

def mSrc (w : Nat) : Nat := fld w 23 3
def mDst (w : Nat) : Nat := fld w 20 3
def mPa (w : Nat) : Nat := fld w 18 2
def mPd (w : Nat) : Nat := fld w 16 2

/-- Words by which a MOV's read advances the pointer its write uses (R141). -/
def movAdvance (w : Nat) : Nat := if mSrc w = 5 ∧ mPa w = mPd w then 1 else 0

def movNeeds (p : Nat) (d : Device) (k : Nat) (r : CtxRecord) (w : Nat) : Needs :=
  let fromStore := decide (mSrc w = 4 ∨ mSrc w = 5)
  let x := d.dstNeeds p k r (mDst w) (mPd w) (movAdvance w) 1
  { srcs := if mSrc w ≤ 3 then [mSrc w] else []
    locked := fromStore && (d.stall p).adapting
    reads := if fromStore then [(d.ptr p k (mPa w), 0, 1)] else []
    now_ := fromStore, writes := x.1, lane := x.2 }

/-- The word a MOV takes: data, spoil, end mark. -/
def Device.movWord (d : Device) (p k : Nat) (r : CtxRecord) (w : Nat) : (DWord × Bool × Bool) × Device :=
  if mSrc w ≤ 3 then
    match d.basketPop p (mSrc w) with
    | (some x, d1) => ((x.data, x.spoil, x.fin), d1)
    | (none, d1) => ((0, false, false), d1)
  else
    let x := d.readVia p r (d.ptr p k (mPa w)) 0 1
    ((x.1.headD 0, x.2.1 || d.gSpoil p k (12 + mPa w), false), x.2.2)

/-- One word from SRC to DST with its spoil mark (R146, R148). -/
def movEffect (p : Nat) (d : Device) (k : Nat) (r : CtxRecord) (w : Nat) : Device :=
  let x := d.movWord p k r w
  let d1 := if mSrc w = 5 then x.2.bumpPtr p k (mPa w) 1 else x.2
  let addrs := if d1.gSpoil p k (12 + mPd w) then [] else dstWords r (d1.ptr p k (mPd w)) 1
  let fin := match fld w 14 2 with
    | 0 => x.1.2.2
    | 1 => true
    | _ => false
  let d2 := d1.sendOut p k (mDst w) addrs 1 [(x.1.1, x.1.2.1)] fin
  if mDst w = 5 then d2.bumpPtr p k (mPd w) 1 else d2

/-- MOV (R148). -/
def execMov (p : Nat) (s : State) : Host.Outcome State Fault Refusal :=
  s.act (Instr.wf (.mov p)) (fun d => d.issue p 0x10 (movNeeds p) (movEffect p) noBranch)

/-! ### LDI, ALU, ADDI -/

/-- A result in a register with its spoil bit (R167). -/
def Device.putG (d : Device) (p k g : Nat) (v : Word) (bad : Bool) : Device :=
  let d1 := d.setGreg p k g v
  if d.t5 p then d1.setGSpoil p k g bad else d1

/-- LDI (R148). -/
def ldiEffect (p : Nat) (d : Device) (k : Nat) (_r : CtxRecord) (w : Nat) : Device :=
  let imm : BitVec 16 := BitVec.ofNat 16 w
  let g := fGd w
  match fld w 20 2 with
  | 0 => d.putG p k g (imm.signExtend 32) false
  | 1 => d.putG p k g (imm.setWidth 32) false
  | _ => d.putG p k g (imm ++ (d.greg p k g).setWidth 16 : Word) (d.gSpoil p k g)

def execLdi (p : Nat) (s : State) : Host.Outcome State Fault Refusal :=
  s.act (Instr.wf (.ldi p)) (fun d => d.issue p 0x11 noNeeds (ldiEffect p) noBranch)

/-- The ALU by FUNC (R150). -/
def aluOp (f : Nat) (a b : Word) : Word :=
  let n := (b.setWidth 5).toNat
  match f with
  | 0 => a + b
  | 1 => a - b
  | 2 => a &&& b
  | 3 => a ||| b
  | 4 => a ^^^ b
  | 5 => a <<< n
  | 6 => a >>> n
  | 7 => a.sshiftRight n
  | 8 => if a.toInt ≤ b.toInt then a else b
  | _ => if a.toInt ≤ b.toInt then b else a

def aluEffect (p : Nat) (d : Device) (k : Nat) (_r : CtxRecord) (w : Nat) : Device :=
  let ga := fGa w
  let gb := fld w 14 4
  d.putG p k (fGd w) (aluOp (fld w 0 4) (d.greg p k ga) (d.greg p k gb)) (d.gSpoil p k ga || d.gSpoil p k gb)

/-- ALU (R150). -/
def execAlu (p : Nat) (s : State) : Host.Outcome State Fault Refusal :=
  s.act (Instr.wf (.alu p)) (fun d => d.issue p 0x12 noNeeds (aluEffect p) noBranch)

def addiEffect (p : Nat) (d : Device) (k : Nat) (_r : CtxRecord) (w : Nat) : Device :=
  let imm : BitVec 12 := BitVec.ofNat 12 w
  d.putG p k (fGd w) (d.greg p k (fGa w) + imm.signExtend 32) (d.gSpoil p k (fGa w))

/-- ADDI (R148). -/
def execAddi (p : Nat) (s : State) : Host.Outcome State Fault Refusal :=
  s.act (Instr.wf (.addi p)) (fun d => d.issue p 0x13 noNeeds (addiEffect p) noBranch)

/-! ### BR (R151) -/

/-- The register a branch tests, if it tests one. -/
def brTests (w : Nat) : Option Nat := if 5 ≤ fSrcA w then some (fld w 17 4) else none

/-- Where a BR goes when its condition holds; an ARM token taken in this cycle does not count yet (R161); a branch that tests a spoiled register
falls through (R167). -/
def brTarget (p : Nat) (d : Device) (k w : Nat) : Option Nat :=
  let c := (d.stall p).ctx k
  let kv := fld w 21 2
  let ga := fld w 17 4
  let bound := match c.rec_ with
    | some r => r.loopBound.getD kv 0
    | none => 0
  let go := match fSrcA w with
    | 0 => true
    | 1 => decide (c.armWas.getD c.arm = kv)
    | 2 => decide (c.armWas.getD c.arm ≠ kv)
    | 3 => decide (d.cnt p k kv = 0)
    | 4 => decide (d.cnt p k kv + 1 = bound)
    | 5 => decide (d.greg p k ga = 0)
    | 6 => decide (d.greg p k ga ≠ 0)
    | _ => true
  let bad := match brTests w with
    | some g => d.gSpoil p k g
    | none => false
  if !go || bad then none else if fSrcA w = 7 then some ((d.greg p k ga).toNat % 256) else some (fld w 0 8)

/-- A branch that tested a spoiled register spoils every push until the next body (R167). -/
def Device.spoilOn (d : Device) (p k : Nat) (bad : Bool) : Device :=
  if bad then d.updStall p (fun s => s.setCtx k { s.ctx k with spoilPushes := true }) else d

def brEffect (p : Nat) (d : Device) (k : Nat) (_r : CtxRecord) (w : Nat) : Device :=
  match brTests w with
  | some g => d.spoilOn p k (d.gSpoil p k g)
  | none => d

/-- BR (R148). -/
def execBr (p : Nat) (s : State) : Host.Outcome State Fault Refusal :=
  s.act (Instr.wf (.br p)) (fun d => d.issue p 0x14 noNeeds (brEffect p) (brTarget p))

/-! ### T5 steering mode (R166, R167) -/

/-- Only a stall in T5 steering mode has these instructions. -/
def Device.issueT5 (d : Device) (p op : Nat) (needs : Device → Nat → CtxRecord → Nat → Needs)
    (eff : Device → Nat → CtxRecord → Nat → Device) (br : Device → Nat → Nat → Option Nat) : Device :=
  if d.t5 p then d.issue p op needs eff br else d

/-- GET pops one word: g[GD] takes its low half, or its high half. -/
def getEffect (p : Nat) (d : Device) (k : Nat) (_r : CtxRecord) (w : Nat) : Device :=
  match d.basketPop p (fld w 20 2) with
  | (some x, d1) => d1.putG p k (fGd w) (if tb w 19 then (x.data >>> 32).setWidth 32 else x.data.setWidth 32) x.spoil
  | (none, d1) => d1

def execGet (p : Nat) (s : State) : Host.Outcome State Fault Refusal :=
  s.act (Instr.wf (.get p)) (fun d => d.issueT5 p 0x30 (fun _ _ _ w => { srcs := [fld w 20 2] }) (getEffect p) noBranch)

/-- PUT pushes g[GB] and g[GA]. Its first result is counted as MOV's is. -/
def putEffect (p : Nat) (d : Device) (k : Nat) (_r : CtxRecord) (w : Nat) : Device :=
  let ga := fld w 22 4
  let gb := fld w 18 4
  d.sendOut p k (fld w 16 2) [] 1 [((d.greg p k gb ++ d.greg p k ga : DWord), d.gSpoil p k ga || d.gSpoil p k gb)] (tb w 15)

def execPut (p : Nat) (s : State) : Host.Outcome State Fault Refusal :=
  s.act (Instr.wf (.put p)) (fun d => d.issueT5 p 0x31 (fun _ _ _ w => { lane := some (fld w 16 2, 1) }) (putEffect p) noBranch)

/-- A LIMIT, ARM or USER token that passes its checks stands at the head (R166). -/
def Device.gettReady (d : Device) (p b : Nat) : Bool :=
  match d.headOf p b with
  | some x => x.ctl && x.twinOk && !x.spoil && x.parOk && (decide (x.kind = 2 ∨ x.kind = 3 ∨ x.kind = 6))
  | none => false

def gettEffect (p : Nat) (d : Device) (k : Nat) (_r : CtxRecord) (w : Nat) : Device :=
  match d.basketPop p (fld w 20 2) with
  | (some x, d1) => d1.putG p k (fGd w) x.payload false
  | (none, d1) => d1

def execGett (p : Nat) (s : State) : Host.Outcome State Fault Refusal :=
  s.act (Instr.wf (.gett p)) (fun d => d.issueT5 p 0x32
    (fun x _ _ w => { locked := !x.gettReady p (fld w 20 2), on := fld w 20 2 }) (gettEffect p) noBranch)

/-- DJNZ counts down and branches while the result is not 0. -/
def djnzEffect (p : Nat) (d : Device) (k : Nat) (_r : CtxRecord) (w : Nat) : Device :=
  let g := fld w 22 4
  (d.putG p k g (d.greg p k g - 1) (d.gSpoil p k g)).spoilOn p k (d.gSpoil p k g)

def djnzTarget (p : Nat) (d : Device) (k w : Nat) : Option Nat :=
  let g := fld w 22 4
  if d.gSpoil p k g || decide (d.greg p k g - 1 = 0) then none else some (fld w 0 8)

def execDjnz (p : Nat) (s : State) : Host.Outcome State Fault Refusal :=
  s.act (Instr.wf (.djnz p)) (fun d => d.issueT5 p 0x33 noNeeds (djnzEffect p) (djnzTarget p))

/-- BRCMP branches on g[GA] against g[GB], signed. -/
def brcmpTarget (p : Nat) (d : Device) (k w : Nat) : Option Nat :=
  let ga := fld w 19 4
  let gb := fld w 15 4
  let a := (d.greg p k ga).toInt
  let b := (d.greg p k gb).toInt
  let go := match fSrcA w with
    | 0 => decide (a = b)
    | 1 => decide (a ≠ b)
    | 2 => decide (a < b)
    | _ => decide (b ≤ a)
  if !go || d.gSpoil p k ga || d.gSpoil p k gb then none else some (fld w 0 8)

def brcmpEffect (p : Nat) (d : Device) (k : Nat) (_r : CtxRecord) (w : Nat) : Device :=
  d.spoilOn p k (d.gSpoil p k (fld w 19 4) || d.gSpoil p k (fld w 15 4))

def execBrcmp (p : Nat) (s : State) : Host.Outcome State Fault Refusal :=
  s.act (Instr.wf (.brcmp p)) (fun d => d.issueT5 p 0x34 noNeeds (brcmpEffect p) (brcmpTarget p))

end Sys2Proof.Machine
end

