-- ==== Sys2Proof/Machine/Adapt.lean ====
section
/-! DEFINITION. The adaptation operations G8P, M8U, V8U and WUPD (R360 to R372). An exact value is a mantissa and a power of two. -/

namespace Sys2Proof.Machine

/-! ### Exact values -/

/-- `m × 2^e`. -/
structure Dyad where
  m : Int
  e : Int
  deriving DecidableEq, Repr

/-- The mantissa of a value at a lower or equal exponent. -/
def Dyad.at_ (x : Dyad) (e : Int) : Int := x.m * (2 ^ (x.e - e).toNat : Nat)

def Dyad.add (x y : Dyad) : Dyad := let e := min x.e y.e; ⟨x.at_ e + y.at_ e, e⟩

/-- floor(x ÷ 2^s). -/
def Dyad.floorAt (x : Dyad) (s : Int) : Int :=
  if s ≤ x.e then x.at_ s else x.m / ((2 ^ (s - x.e).toNat : Nat) : Int)

/-- Round-half-to-even of x ÷ 2^s. -/
def Dyad.roundAt (x : Dyad) (s : Int) : Int := if s ≤ x.e then x.at_ s else rhe x.m (s - x.e).toNat

/-- Stochastic rounding of x ÷ 2^s with an 8-bit draw (R363). -/
def Dyad.stochAt (x : Dyad) (s : Int) (r : Nat) : Int := (x.floorAt (s - 8) + r) / 256

/-- The smallest E with |x| ≤ 127 × 2^E; x is not 0. -/
def Dyad.fit (x : Dyad) : Int :=
  let n := x.m.natAbs
  let l := Nat.log2 n
  if n * 64 ≤ 127 * 2 ^ l then x.e + l - 6 else x.e + l - 5

/-- The block exponent of R365. -/
def blockExp (xs : List Dyad) : Int :=
  match (xs.filter (fun x => decide (x.m ≠ 0))).map Dyad.fit with
  | [] => -128
  | f :: rest => clampI (-128) 127 (rest.foldl max f)

/-- A mantissa that a limited exponent saturates (R365). -/
def satMant (m : Int) : Int × Nat := (clampI (-127) 127 m, if m < -127 ∨ 127 < m then 1 else 0)

/-! ### Draws (R117, R364) -/

def lfsrStep (s : Word) : Word := if s.getLsbD 0 then (s >>> 1) ^^^ 0x80200003#32 else s >>> 1

/-- `n` draws: the bits [7:0] of each new state, and the last state. -/
def draws : Nat → Word → List Nat × Word
  | 0, s => ([], s)
  | n + 1, s =>
    let t := lfsrStep s
    let r := draws n t
    (t.toNat % 256 :: r.1, r.2)

/-! ### Blocks (R360, R361) -/

/-- The fixed table of R362. -/
def tblList : List Nat :=
  [32768, 34219, 35734, 37316, 38968, 40693, 42495, 44376, 46341, 48393, 50535, 52773, 55109, 57549, 60097, 62757, 65536]

def tbl (f : Nat) : Nat := tblList.getD f 0

/-- A block as it is read: exponent or shift, and its 32 element bytes. -/
structure Block where
  e : Int
  elems : List Byte
  deriving DecidableEq, Repr

/-- A block from its five words. -/
def blockOf (ws : List DWord) : Block := ⟨sx 8 ((ws.headD 0).toNat % 256), (ws.drop 1).flatMap bytesOf⟩

/-- The words of a block (R360). -/
def blockWords (e : Int) (elems : List Byte) : List DWord :=
  BitVec.ofNat 64 (wrapN 8 e) :: (List.range 4).map (fun i => wordOf ((elems.drop (8 * i)).take 8))

/-- Mantissas of a G8 or M8 block, and how many read 0x80. -/
def Block.mants (b : Block) : List Int × Nat := readCodes b.elems

/-- L of a V8 element; none for code 0 (R361). -/
def Block.logOf (b : Block) (i : Nat) : Option Int :=
  let c := (b.elems.getD i 0).toNat
  if c = 0 then none else some (16 * b.e + c - 1)

/-- The value of a V8 logarithm. -/
def logValue (l : Option Int) : Dyad :=
  match l with
  | none => ⟨0, 0⟩
  | some x => ⟨(tbl (x % 16).toNat : Nat), x / 16 - 15⟩

/-! ### The four computations (R368) -/

/-- G8P: exponent, mantissas and saturations. -/
def g8pBlock (accs : List Int) (gbase : Int) : Int × List Int × Nat :=
  let xs := accs.map (fun a => (⟨a, gbase⟩ : Dyad))
  let e := blockExp xs
  let ms := xs.map (fun x => satMant (x.roundAt e))
  (e, ms.map (fun m => m.1), (ms.map (fun m => m.2)).sum)

/-- M8U. -/
def m8uBlock (ge : Int) (g : List Int) (me : Int) (mo : List Int) (b1 : Nat) (rs : List Nat) : Int × List Int × Nat :=
  let xs := (List.range 32).map (fun i =>
    Dyad.add ⟨mo.getD i 0 * ((2 ^ b1 : Nat) - 1), me - b1⟩ ⟨g.getD i 0, ge - b1⟩)
  let e := blockExp xs
  let ms := (xs.zipIdx).map (fun xi => satMant (xi.1.stochAt e (rs.getD xi.2 0)))
  (e, ms.map (fun m => m.1), (ms.map (fun m => m.2)).sum)

/-- The stochastic logarithm of a positive value (V8U). -/
def stochLog (y : Dyad) (r : Nat) : Int :=
  let k : Int := Nat.log2 y.m.natAbs + y.e
  let c := min y.e (k - 15)
  let at_ := fun f => Dyad.at_ ⟨(tbl f : Nat), k - 15⟩ c
  let f := (List.range 16).foldl (fun b i => if at_ i ≤ y.at_ c then i else b) 0
  16 * k + f + (if (r : Int) * (at_ (f + 1) - at_ f) < 256 * (y.at_ c - at_ f) then 1 else 0)

/-- The largest of a list of logarithms. -/
def maxLog : List (Option Int) → Option Int
  | [] => none
  | x :: rest =>
    match x, maxLog rest with
    | some a, some b => some (max a b)
    | some a, none => some a
    | none, t => t

/-- V8U: shift, codes and saturations. -/
def v8uBlock (ge : Int) (g : List Int) (v : Block) (b2 : Nat) (rs : List Nat) : Int × List Nat × Nat :=
  let ls := (List.range 32).map (fun i =>
    let old := logValue (v.logOf i)
    let m := g.getD i 0
    let y := Dyad.add ⟨old.m * ((2 ^ b2 : Nat) - 1), old.e - b2⟩ ⟨m * m, 2 * ge - b2⟩
    if y.m = 0 then none else some (stochLog y (rs.getD i 0)))
  let s : Int := match maxLog ls with
    | none => -128
    | some x => clampI (-128) 127 (-((254 - x) / 16))
  let cs := ls.map (fun l => match l with
    | none => (0, 0)
    | some x =>
      let c := x - 16 * s + 1
      if c < 1 then (0, 0) else if 255 < c then (255, 1) else (c.toNat, 0))
  (s, cs.map (fun c => c.1), (cs.map (fun c => c.2)).sum)

/-- WUPD for one element: the new code and crumb, and 1 when it was limited. -/
def wupdElem (m me : Int) (l : Option Int) (wc cc : Int) (lrm : Nat) (lre keps : Int) (r : Nat) : Int × Int × Nat :=
  let k : Int := match l with
    | none => keps
    | some x => max (-((-x) / 2)) keps
  let a := (-k) / 16
  let f := (-k - 16 * a).toNat
  let p := m * lrm * (tbl f : Nat)
  let q := (⟨-p, me + lre + a⟩ : Dyad).floorAt 0
  let t := 128 * wc + cc + (q + r) / 256
  let t1 := clampI (-16319) 16319 t
  let w1 := rhe t1 7
  (w1, t1 - 128 * w1, if t1 = t then 0 else 1)

/-! ### The instructions -/

def dPa (w : Nat) : Nat := fld w 24 2
def dPd (w : Nat) : Nat := fld w 22 2
def dPx (w : Nat) : Nat := fld w 20 2
def dPost (w : Nat) : Bool := tb w 19

/-- B1 and B2: 0 is read as 1 (R366). -/
def shiftOf (n : Nat) : Nat := if n = 0 then 1 else n

/-- Result words of an adaptation operation, written in cycle `due` (R369, R370); a spoiled operand spoils them all (R372). -/
def Device.adaptWrite (d : Device) (p due : Nat) (addrs : List Nat) (ws : List DWord) (bad : Bool) : Device :=
  d.updStall p (fun s => { s with landing := s.landing ++ [⟨due, (addrs.zip ws).map (fun x => (x.1, x.2, bad)), true⟩] })

/-- Take 32 draws (R364). -/
def Device.draw32 (d : Device) (p k : Nat) : List Nat × Device :=
  let r := draws 32 (d.reg STL p 0x100)
  (r.1, (d.setReg STL p 0x100 r.2).updStall p (fun s => s.setCtx k { s.ctx k with drew := true }))

/-- POST: each pointer used advances by its block (R367). -/
def Device.postBy (d : Device) (p k w : Nat) (l : List (Nat × Nat)) : Device :=
  if dPost w then l.foldl (fun a x => a.bumpPtr p k x.1 x.2) d else d

/-- Does a group pair lie in an open group (R370)? -/
def Stall.pairOpen (s : Stall) (now base : Nat) : Bool :=
  (s.openIn now).any (fun g => decide (g.1 < base + 32) && decide (base < g.1 + g.2))

def g8pNeeds (p : Nat) (d : Device) (k : Nat) (r : CtxRecord) (w : Nat) : Needs :=
  let s := d.stall p
  let base := 16 * fGroup w
  { locked := s.adapting || s.pairOpen d.work base || s.sumsDue d.work base 32
    writes := dstWords r (d.ptr p k (dPd w)) 5, low := 5 }

def g8pEffect (p : Nat) (d : Device) (k : Nat) (r : CtxRecord) (w : Nat) : Device :=
  let l := (d.stall p).sums (16 * fGroup w) 32
  let b := g8pBlock (l.map (fun x => x.1)) (sx 8 (d.greg p k 8).toNat)
  ((d.addStages p 1 (satStage b.2.2)).adaptWrite p (d.work + 3) (dstWords r (d.ptr p k (dPd w)) 5) (blockWords b.1 (b.2.1.map codeByte))
    (l.any (fun x => x.2))).postBy p k w [(dPd w, 5)]

/-- G8P (R368). -/
def execG8p (p : Nat) (s : State) : Host.Outcome State Fault Refusal :=
  s.act (Instr.wf (.g8p p)) (fun d => d.issue p 0x18 (g8pNeeds p) (g8pEffect p) noBranch)

/-- M8U and V8U read a block at P[PA] and one at P[PD], and write at P[PD]. -/
def momentNeeds (p : Nat) (d : Device) (k : Nat) (r : CtxRecord) (w : Nat) : Needs :=
  { locked := (d.stall p).adapting
    reads := [(d.ptr p k (dPa w), 0, 5), (d.ptr p k (dPd w), 0, 5)]
    writes := dstWords r (d.ptr p k (dPd w)) 5, low := 5 }

/-- The draws are made in the issue cycle (R364); the G8 block is read in cycle t + 1 and the old block in t + 2 (R369). -/
def momentEffect (second : Bool) (p : Nat) (d : Device) (k : Nat) (r : CtxRecord) (w : Nat) : Device :=
  let dr := d.draw32 p k
  let g10 := (d.greg p k 10).toNat
  let shift := shiftOf (if second then fld g10 20 4 else fld g10 16 3)
  let old := dstWords r (d.ptr p k (dPd w)) 5
  (dr.2.readLater p k (.moment second shift dr.1 old)
    [(dstWords r (d.ptr p k (dPa w)) 5).zipIdx.map (fun x => (x.2, x.1)), old.zipIdx.map (fun x => (5 + x.2, x.1))]).postBy
      p k w [(dPa w, 5), (dPd w, 5)]

/-- The new block of M8U or V8U from its ten operand words, with its saturations (R26, R42, R368). -/
def momentBlock (second : Bool) (shift : Nat) (rs : List Nat) (ws : List DWord) : List DWord × Nat :=
  let g := blockOf (ws.take 5)
  let o := blockOf (ws.drop 5)
  if second then
    let b := v8uBlock g.e g.mants.1 o shift rs
    (blockWords b.1 (b.2.1.map (BitVec.ofNat 8)), g.mants.2 + b.2.2)
  else
    let b := m8uBlock g.e g.mants.1 o.e o.mants.1 shift rs
    (blockWords b.1 (b.2.1.map codeByte), g.mants.2 + o.mants.2 + b.2.2)

/-- The operands of an M8U or V8U have been read: its block is written in the next cycle (R369). -/
def Device.momentDone (d : Device) (p : Nat) (second : Bool) (shift : Nat) (rs dst : List Nat) (got : List (DWord × Bool)) : Device :=
  let b := momentBlock second shift rs (got.map (fun x => x.1))
  (d.sat p b.2).adaptWrite p (d.work + 1) dst b.1 (got.any (fun x => x.2))

/-- M8U (R368). -/
def execM8u (p : Nat) (s : State) : Host.Outcome State Fault Refusal :=
  s.act (Instr.wf (.m8u p)) (fun d => d.issue p 0x19 (momentNeeds p) (momentEffect false p) noBranch)

/-- V8U (R368). -/
def execV8u (p : Nat) (s : State) : Host.Outcome State Fault Refusal :=
  s.act (Instr.wf (.v8u p)) (fun d => d.issue p 0x1A (momentNeeds p) (momentEffect true p) noBranch)

/-- Words from a W8 block to its C8 block (R366). -/
def Device.crofs (d : Device) (p k : Nat) : Nat := fld (d.greg p k 9).toNat 0 13

/-- The W8 and C8 words of WUPD. -/
def wupdWords (r : CtxRecord) (ptr ofs : Nat) : List Nat :=
  dstWords r ptr 4 ++ (List.range 4).map (fun i => effAddr r ptr (ofs + i))

def wupdNeeds (p : Nat) (d : Device) (k : Nat) (r : CtxRecord) (w : Nat) : Needs :=
  let pd := d.ptr p k (dPd w)
  { locked := (d.stall p).adapting
    reads := [(d.ptr p k (dPa w), 0, 5), (d.ptr p k (dPx w), 0, 5), (pd, 0, 4), (pd, d.crofs p k, 4)]
    writes := wupdWords r pd (d.crofs p k), low := 5 }

/-- The operand words of WUPD by number: M8 0 to 4, V8 5 to 9, W8 10 to 13, C8 14 to 17; and those of its three cycles of reads (R369). -/
def wupdCycles : List (List Nat) := [[0, 1, 2, 3, 5, 6, 7, 8], [4, 9, 10, 11, 12, 13, 14, 15], [16, 17]]

def wupdEffect (p : Nat) (d : Device) (k : Nat) (r : CtxRecord) (w : Nat) : Device :=
  let dr := d.draw32 p k
  let dst := wupdWords r (d.ptr p k (dPd w)) (d.crofs p k)
  let words := dstWords r (d.ptr p k (dPa w)) 5 ++ dstWords r (d.ptr p k (dPx w)) 5 ++ dst
  (dr.2.readLater p k (.wupd (d.greg p k 10) (d.greg p k 11) dr.1 dst) (wupdCycles.map (fun c => c.map (fun i => (i, words.getD i 0))))).postBy
    p k w [(dPa w, 5), (dPx w, 5), (dPd w, 4)]

/-- The new W8 and C8 words from the 18 operand words of WUPD, with its saturations (R26, R42, R366, R368). -/
def wupdResult (g10 g11 : Word) (rs : List Nat) (ws : List DWord) : List DWord × Nat :=
  let mo := blockOf (ws.take 5)
  let vo := blockOf ((ws.drop 5).take 5)
  let old := readCodes (((ws.drop 10).take 4).flatMap bytesOf)
  let crumbs := readCodes ((ws.drop 14).flatMap bytesOf)
  let out := (List.range 32).map (fun i =>
    wupdElem (mo.mants.1.getD i 0) mo.e (vo.logOf i) (old.1.getD i 0) (crumbs.1.getD i 0) (fld g10.toNat 0 8)
      (sx 8 (fld g10.toNat 8 8)) (sx 16 g11.toNat) (rs.getD i 0))
  let words := fun (l : List Int) => (List.range 4).map (fun i => wordOf (((l.map codeByte).drop (8 * i)).take 8))
  (words (out.map (fun o => o.1)) ++ words (out.map (fun o => o.2.1)), mo.mants.2 + old.2 + crumbs.2 + (out.map (fun o => o.2.2)).sum)

/-- Of the eight words that WUPD writes: words 0 and 1 of each block, or words 2 and 3 (R369). -/
def wupdHalf {α : Type} (late : Bool) (l : List α) : List α :=
  (l.zipIdx.filter (fun x => decide (2 ≤ x.2 % 4) == late)).map (fun x => x.1)

/-- The operands of a WUPD have been read: words 0 and 1 of W8 and C8 are written in this cycle, words 2 and 3 in the next (R369). -/
def Device.wupdDone (d : Device) (p : Nat) (g10 g11 : Word) (rs dst : List Nat) (got : List (DWord × Bool)) : Device :=
  let b := wupdResult g10 g11 rs (got.map (fun x => x.1))
  let bad := got.any (fun x => x.2)
  ((d.sat p b.2).adaptWrite p d.work (wupdHalf false dst) (wupdHalf false b.1) bad).adaptWrite
    p (d.work + 1) (wupdHalf true dst) (wupdHalf true b.1) bad

/-- WUPD (R368). -/
def execWupd (p : Nat) (s : State) : Host.Outcome State Fault Refusal :=
  s.act (Instr.wf (.wupd p)) (fun d => d.issue p 0x1B (wupdNeeds p) (wupdEffect p) noBranch)

end Sys2Proof.Machine
end

