-- ==== Sys2Proof/Machine/Cells.lean ====
section
/-! DEFINITION. What an Aisle carries, bit by bit: flits (R467), word cells (R468), control cells (R477), and the flit that a link sends in a
cycle (R474, R478). -/

namespace Sys2Proof.Machine

/-! ### Word cells (R168, R468) -/

/-- Bits [69:0] of a basket word, as R168 lays them out. -/
def wordBits (w : BWord) : Nat :=
  w.data.toNat + b2n w.fin * 2 ^ 64 + b2n w.spoil * 2 ^ 65 + w.gen.toNat * 2 ^ 66 + b2n w.ctl * 2 ^ 68 + b2n w.par * 2 ^ 69

/-- A word cell: VALID in bit 70. -/
def cellBits : Option BWord → Nat
  | some w => wordBits w + 2 ^ 70
  | none => 0

/-- The word that a cell holds; PAR crosses as it is (R468). -/
def cellWord (c : Nat) : Option BWord :=
  if tb c 70 then
    some { data := BitVec.ofNat 64 c, fin := tb c 64, spoil := tb c 65, gen := BitVec.ofNat 2 (fld c 66 2), ctl := tb c 68, par := tb c 69 }
  else none

/-! ### Control cells (R477) -/

/-- The payload of a message. DESIGN CHOICE (assumption 118): the manual gives its fields and not their places; they stand in the order of R477
from bit 0 on, and DISCOVER's latency, which training makes a whole number of cycles on every hop, is in cycles. -/
def ctlPayload (m : AisleMsg) : Nat :=
  match m.type with
  | 1 | 2 => m.a % 2 ^ 8 + m.b % 2 ^ 24 * 2 ^ 8 + m.c % 2 ^ 6 * 2 ^ 32
  | 3 => m.a % 2 ^ 16 + m.b % 2 ^ 24 * 2 ^ 16
  | 4 => m.a % 4
  | 5 => m.a % 2 ^ 8
  | 6 => m.a % 4 + m.b % 2 ^ 24 * 4
  | 7 => m.a % 2 ^ 32 + m.b % 2 ^ 16 * 2 ^ 32
  | 8 => m.a % 8 + m.b % 2 ^ 45 * 8
  | _ => 0

/-- A control cell: TYPE, ORIGIN, number and payload. -/
def ctlBits : Option AisleMsg → Nat
  | some m => m.type % 16 + m.origin % 2 ^ 15 * 2 ^ 4 + m.number % 16 * 2 ^ 19 + ctlPayload m * 2 ^ 23
  | none => 0

/-- The message of a control cell; TYPE 0 is no message, and 9 to 15 are reserved. -/
def ctlMsg (c : Nat) : Option AisleMsg :=
  let p := fld c 23 48
  let m := fun (a b h : Nat) => some (AisleMsg.mk (fld c 0 4) (fld c 4 15) (fld c 19 4) a b h)
  match fld c 0 4 with
  | 1 | 2 => m (fld p 0 8) (fld p 8 24) (fld p 32 6)
  | 3 => m (fld p 0 16) (fld p 16 24) 0
  | 4 => m (fld p 0 2) 0 0
  | 5 => m (fld p 0 8) 0 0
  | 6 => m (fld p 0 2) (fld p 2 24) 0
  | 7 => m (fld p 0 32) (fld p 32 16) 0
  | 8 => m (fld p 0 3) (fld p 3 45) 0
  | _ => none

/-- The place of a message type in the order of R478. -/
def ctlRank (type : Nat) : Nat :=
  match type with
  | 1 | 2 => 0
  | 3 => 1
  | 6 => 2
  | 5 => 3
  | 4 => 4
  | 7 => 5
  | _ => 6

/-- The message that leaves next: of the first type in that order, the oldest (R478). -/
def ctlNext (q : List AisleMsg) : Option AisleMsg :=
  q.find? (fun m => q.all (fun x => decide (ctlRank m.type ≤ ctlRank x.type)))

/-! ### CRC -/

/-- One bit of the CRC. -/
def crcBit (crc : Nat) (bit : Bool) : Nat :=
  if tb crc 0 != bit then (crc / 2) ^^^ 0xEDB88320 else crc / 2

/-- CRC-32 over the low `n` bits, bit 0 first. PRESUMED (assumption 118): the manual names no polynomial; this is the one of IEEE 802.3, with its
preset and its final inversion. -/
def crc32 (n v : Nat) : Nat := (List.range n).foldl (fun c i => crcBit c (tb v i)) 0xFFFFFFFF ^^^ 0xFFFFFFFF

end Sys2Proof.Machine

namespace Sys2Proof

open Sys2Proof.Machine

/-! ### The fields of a flit (R467) -/

def Flit.seq (f : Flit) : Nat := fld f.bits.toNat 0 12
def Flit.ack (f : Flit) : Nat := fld f.bits.toNat 12 12
def Flit.nak (f : Flit) : Bool := tb f.bits.toNat 24
def Flit.wpos (f : Flit) : Nat := fld f.bits.toNat 25 4
def Flit.cred (f : Flit) (p : Nat) : Bool := tb f.bits.toNat (29 + p)
def Flit.held (f : Flit) : Bool := tb f.bits.toNat 56
def Flit.cell (f : Flit) (p : Nat) : Option BWord := cellWord (fld f.bits.toNat (72 * p + 64) 72)
def Flit.msg (f : Flit) : Option AisleMsg := ctlMsg (fld f.bits.toNat 2008 72)
def Flit.crc (f : Flit) : Nat := fld f.bits.toNat 2080 32

/-- Is the flit good: FEC leaves no error that it cannot correct, and the CRC agrees (R474)? -/
def Flit.good (f : Flit) : Bool := decide (f.fec ≠ .failed) && decide (f.crc = crc32 2080 f.bits.toNat)

end Sys2Proof

namespace Sys2Proof.Machine

/-! ### The flit of a cycle -/

/-- The last flit received good: ACK (R467). -/
def Link.lastGood (k : Link) : Nat := (k.rxSeq + 4095) % 4096

/-- Bits [2,079:0] of the flit that a link composes: its header, the cells and credits of this cycle, and the next message. -/
def Link.body (k : Link) (wheel : Nat) (hushed : Bool) (msg : Option AisleMsg) : Nat :=
  let cells := (k.txCells.map (fun kv => cellBits kv.2 * 2 ^ (72 * kv.1 + 64))).sum
  let cred := (k.txCred.map (fun p => 2 ^ (29 + p))).sum
  let held := hushed && k.txCells.isEmpty && k.txCred.isEmpty
  k.txSeq % 4096 + k.lastGood * 2 ^ 12 + b2n k.badNow * 2 ^ 24 + wheel % 16 * 2 ^ 25 + cred + b2n held * 2 ^ 56 + cells
    + ctlBits msg * 2 ^ 2008

/-- A new flit: it joins the replay buffer (R474), and one behind a replay the flits still to be sent. -/
def Link.compose (k : Link) (wheel : Nat) (hushed : Bool) : BitVec 2112 × Link :=
  let msg := ctlNext k.ctl
  let body := k.body wheel hushed msg
  let bits := BitVec.ofNat 2112 (body + crc32 2080 body * 2 ^ 2080)
  let ctl := match msg with | some m => dropFirst (fun x => decide (x = m)) k.ctl | none => k.ctl
  (bits, { k with txSeq := (k.txSeq + 1) % 4096, unacked := k.unacked ++ [(k.txSeq, bits)], txCells := [], txCred := [], ctl := ctl })

/-- The flit that a link sends in a cycle: the next one of a replay, with a new one joining behind it where this cycle has cells or credits to
carry; else a new one. A full replay buffer takes none (R466, R474, R476). -/
def Link.transmit (k : Link) (wheel : Nat) (hushed : Bool) : Option (BitVec 2112) × Link :=
  let full := decide (256 ≤ k.unacked.length)
  match k.resend with
  | [] => if full then (none, k) else let r := k.compose wheel hushed; (some r.1, r.2)
  | b :: rest =>
    if full || (k.txCells.isEmpty && k.txCred.isEmpty) then (some b, { k with resend := rest })
    else let r := k.compose wheel hushed; (some b, { r.2 with resend := rest ++ [r.1] })

/-- Each link that is up sends one flit a cycle. -/
def Device.flitTick (d : Device) : Device :=
  d.upLinks.foldl (fun a l =>
    let r := (a.link l).transmit a.arcade.wheel a.bell.hushed
    let a1 := a.setLink l r.2
    match r.1 with
    | some b => a1.emit (.flit l b)
    | none => a1) d

/-! ### Acknowledgement (R474) -/

/-- The flits after an acknowledged one, where the replay buffer holds them. -/
def afterAck (ack : Nat) (un : List (Nat × BitVec 2112)) : Option (List (Nat × BitVec 2112)) :=
  match un with
  | [] => some []
  | x :: _ =>
    if x.1 = (ack + 1) % 4096 then some un
    else (un.findIdx? (fun y => decide (y.1 = ack))).map (fun i => un.drop (i + 1))

/-- ACK and NAK of an accepted flit. DEDUCED (assumption 118): NAK stays 1 for a whole round trip, so while a replay is under way another NAK
neither starts it again nor counts as one that names the flit; a flit of a replay carries its old ACK, which names nothing that is held. -/
def Link.acked (k : Link) (f : Flit) : Link :=
  match afterAck f.ack k.unacked with
  | none => k
  | some un =>
    if !f.nak then { k with unacked := un, nakSeq := none, nakCount := 0 }
    else if !k.resend.isEmpty then { k with unacked := un }
    else { k with
      unacked := un, resend := un.map (fun x => x.2), nakSeq := some f.ack
      nakCount := if k.nakSeq = some f.ack then k.nakCount + 1 else 1 }

end Sys2Proof.Machine
end

