-- ==== Sys2Proof/Machine/Banks.lean ====
section
/-! DEFINITION. The banks of a stall's store in one cycle (R106): who has them after each priority, the result writes and the reads of earlier
instructions that take place in the cycle (R138, R148, R369), and the latch and plane fills (R88 to R90, R99, R149). -/

namespace Sys2Proof.Machine

/-! ### Who has which bank -/

/-- The store words that the instruction which is due reads in this cycle, where it issues. -/
def Device.dueReads (d : Device) (p : Nat) : List Nat :=
  let s := d.stall p
  let k := s.cur
  let code := d.fetched p
  let w := code % 2 ^ 32
  match (s.ctx k).rec_ with
  | none => []
  | some r =>
    let n := match fOp w with
      | 0x01 => denseNeeds 16 d k r p w
      | 0x02 => denseNeeds 32 d k r p w
      | 0x10 => movNeeds p d k r w
      | _ => {}
    if !n.now_ || !d.mayIssue p || parityOf 33 code || d.boundBroken p k r (d.pc p k) || d.masked p k r (d.pc p k) then []
    else if d.judge p k r n = .go then n.operands r else []

/-- The words that WUPD writes in the cycle of its last read (R369). -/
def ReadJob.sameCycle (x : ReadJob) : List Nat :=
  match x.op, x.todo with
  | .wupd _ _ _ dst, [_] => wupdHalf false dst
  | _, _ => []

/-- Banks in use after priority 2: older result writes and reads, the instruction that is due. -/
def Device.afterPrio2 (d : Device) (p : Nat) : List Nat :=
  let same := ((d.stall p).reads.filter (fun x => decide (x.due ≤ d.work))).flatMap ReadJob.sameCycle
  serve (serve (d.afterOlder p) (waveBanks same)) (waveBanks (d.dueReads p))

/-- The fill of a kind that asks for all eight banks in this cycle: the oldest, from the cycle after its issue (R88, R99, R149). -/
def Stall.latchAsks (s : Stall) (now : Nat) : Option LatchFill :=
  if s.latchAt = some now then none else s.latchFills.head?.filter (fun f => decide (f.at_ < now))

def Stall.planeAsks (s : Stall) (now : Nat) : Option PlaneFill :=
  if s.planeAt.any (fun x => decide (x.1 = now)) then none else s.planeFills.head?.filter (fun f => decide (f.at_ < now))

/-- Banks in use after the rescale latch fill (priority 3), and after the weight plane fill (priority 4). -/
def Device.afterPrio3 (d : Device) (p : Nat) : List Nat :=
  if ((d.stall p).latchAsks d.work).isSome then serve (d.afterPrio2 p) (List.range 8) else d.afterPrio2 p

def Device.afterPrio4 (d : Device) (p : Nat) : List Nat :=
  if ((d.stall p).planeAsks d.work).isSome then serve (d.afterPrio3 p) (List.range 8) else d.afterPrio3 p

/-! ### Result writes -/

/-- A result write takes its banks, or waits a cycle; words that share a bank with an earlier one of them wait too (R106, R138). -/
def Device.landOne (d : Device) (p : Nat) (x : StoreWrite) : Device :=
  let keep := fun (a : Device) (y : StoreWrite) => a.updStall p (fun s => { s with landing := s.landing ++ [y] })
  let t := splitWave [] (x.words.zipIdx.map (fun w => (w.2, w.1.1)))
  let c := d.claimUnder p (d.afterPrio1 p) (t.1.map (fun i => i.2 % 8))
  if d.work < x.due then keep d x
  else if !c.1 then keep c.2 x
  else
    let d1 := t.1.foldl (fun a i => match x.words[i.1]? with | some w => a.storeWrite p w.1 w.2.1 w.2.2 | none => a) c.2
    if t.2.isEmpty then d1 else (keep d1 { x with words := t.2.filterMap (fun i => x.words[i.1]?) }).count32 STL p 0x104

/-- The result writes of a list, in order. -/
def Device.landAll (d : Device) (p : Nat) (l : List StoreWrite) : Device := l.foldl (fun a x => a.landOne p x) d

/-- The result writes of one stall whose cycle has come. -/
def Device.land (d : Device) (p : Nat) : Device :=
  let l := (d.stall p).landing
  if l.isEmpty then d else (d.updStall p (fun s => { s with landing := [] })).landAll p l

/-! ### Reads after the issue cycle -/

/-- All the words of a read have come. -/
def Device.readDone (d : Device) (p : Nat) (op : ReadOp) (got : List (DWord × Bool)) : Device :=
  match op with
  | .wxf buf bad => d.wxfDone p buf bad got
  | .wadv n bad => d.wadvDone p n bad got
  | .moment second shift rs dst => d.momentDone p second shift rs dst got
  | .wupd g10 g11 rs dst => d.wupdDone p g10 g11 rs dst got

/-- The reads of a stall in issue order. One whose cycle has come takes the banks of its next words, or waits a cycle and holds back those
behind it; a word that shares a bank with another waits for the next cycle (R106, R369). -/
def Device.runReads (d : Device) (p : Nat) : List ReadJob → Device
  | [] => d
  | x :: rest =>
    let keep := fun (a : Device) (l : List ReadJob) => a.updStall p (fun s => { s with reads := s.reads ++ l })
    if d.work < x.due then (keep d [x]).runReads p rest
    else
      let t := splitWave [] (x.todo.headD [])
      let c := d.claimUnder p (d.afterPrio1 p) (t.1.map (fun i => i.2 % 8))
      if !c.1 then keep c.2 (x :: rest)
      else
        let r := t.1.foldl (fun (a : KMap (DWord × Bool) × Device) i =>
          let y := a.2.storeRead p i.2
          (KMap.put a.1 i.1 (y.1.data, y.1.spoil), y.2)) (x.got, c.2)
        let d1 := if t.2.isEmpty then r.2 else r.2.count32 STL p 0x104
        let left := (if t.2.isEmpty then [] else [t.2]) ++ x.todo.drop 1
        if left.isEmpty then (d1.readDone p x.op (r.1.map (fun e => e.2))).runReads p rest
        else (keep d1 [{ x with due := d.work + 1, todo := left, got := r.1 }]).runReads p rest

/-- Priority 2 at the end of a cycle: result writes, reads, and the writes that follow a read in the same cycle. -/
def Device.runPrio2 (d : Device) (p : Nat) : Device :=
  let d1 := d.land p
  let l := (d1.stall p).reads
  if l.isEmpty then d1
  else
    let old := (d1.stall p).landing
    let d2 := (d1.updStall p (fun s => { s with reads := [] })).runReads p l
    let new := (d2.stall p).landing.drop old.length
    if new.isEmpty then d2 else (d2.updStall p (fun s => { s with landing := old })).landAll p new

/-! ### Fills -/

/-- Read store words: their data and spoil. -/
def Device.readWords (d : Device) (p : Nat) (l : List Nat) : List (DWord × Bool) × Device :=
  l.foldl (fun (a : List (DWord × Bool) × Device) i =>
    let x := a.2.storeRead p i
    (a.1 ++ [(x.1.data, x.1.spoil)], x.2)) ([], d)

/-- Does a fill's access of this cycle find all eight banks free? -/
def allFree (inUse : List Nat) : Bool := (List.range 8).all (fun b => decide (b ∉ inUse))

/-- PLANE_FILL_DONE: the oldest plane fill makes its last access; the plane has its new contents, and is locked no more from the next cycle
(R89, R90, R149). -/
def Device.planeFillDone (d : Device) (p : Nat) : Device :=
  match (d.stall p).planeAsks d.work with
  | none => d
  | some f =>
    if d.bell.hushed || decide (8 < f.todo.length) || !allFree (d.afterPrio3 p) then d
    else
      let x := d.readWords p f.todo
      x.2.updStall p (fun s =>
        { s with planes := KMap.set s.planes f.plane ((s.plane f.plane).filled f (f.got ++ x.1)) {}
                 planeFills := s.planeFills.drop 1, planeAt := some (d.work, f.plane), banks := List.range 8 })

def execPlaneFillDone (p : Nat) (s : State) : Host.Outcome State Fault Refusal :=
  s.act (Instr.wf (.planeFillDone p)) (fun d => d.planeFillDone p)

/-- LATCH_FILL_DONE: the oldest latch fill makes its last access; its failing entries are spoiled in the latch, the first of them is recorded,
and the stall closes from the next cycle (R40, R99, R164, R351, R640, R641). -/
def Device.latchFillDone (d : Device) (p : Nat) : Device :=
  match (d.stall p).latchAsks d.work with
  | none => d
  | some f =>
    if d.bell.hushed || decide (8 < f.todo.length) || !allFree (d.afterPrio2 p) then d
    else
      let x := d.readWords p f.todo
      let t := (d.stall p).filledLatch f (f.got ++ x.1)
      let d1 := x.2.updStall p (fun s =>
        { s with latch := t.1, latchFills := s.latchFills.drop 1, latchAt := some d.work, banks := List.range 8 })
      match t.2 with
      | [] => d1
      | bad :: _ => d1.stallFault p f.ctx (if bad.2 = 1 then 0x4005 else 0x4008) 0 (bad.1 % 512)

def execLatchFillDone (p : Nat) (s : State) : Host.Outcome State Fault Refusal :=
  s.act (Instr.wf (.latchFillDone p)) (fun d => d.latchFillDone p)

/-- At the end of a cycle: the oldest latch fill reads its next eight words, but for the last of them, which LATCH_FILL_DONE reads; a cycle in which
a bank is in use is lost (R99, R106). -/
def Device.latchFillTick (d : Device) (p : Nat) : Device :=
  match (d.stall p).latchAsks d.work with
  | none => d
  | some f =>
    let c := d.claimUnder p (d.afterPrio1 p) (List.range 8)
    if !c.1 then c.2
    else if f.todo.length ≤ 8 then d
    else
      let x := c.2.readWords p (f.todo.take 8)
      x.2.updStall p (fun s => { s with latchFills := { f with todo := f.todo.drop 8, got := f.got ++ x.1 } :: s.latchFills.drop 1 })

/-- The same of the oldest plane fill (R88, R106). -/
def Device.planeFillTick (d : Device) (p : Nat) : Device :=
  match (d.stall p).planeAsks d.work with
  | none => d
  | some f =>
    let c := d.claimUnder p (d.afterPrio1 p) (List.range 8)
    if !c.1 then c.2
    else if f.todo.length ≤ 8 then d
    else
      let x := c.2.readWords p (f.todo.take 8)
      x.2.updStall p (fun s => { s with planeFills := { f with todo := f.todo.drop 8, got := f.got ++ x.1 } :: s.planeFills.drop 1 })

end Sys2Proof.Machine
end

