-- ==== Sys2Proof/Machine/Weighbridge.lean ====
section
/-! DEFINITION. The Weighbridge: the swap of calibrations (R62 to R75), windows (R47 to R50) and the record in the Depot (R51 to R56,
R82 to R86). -/

namespace Sys2Proof.Machine

/-! ### The sets -/

/-- 1 when set B is the active rescale set. -/
def Device.activeSet (d : Device) : Nat := d.rf WBR 0 0x010 0 1
/-- 1 when set B is the active normalisation set (R65). -/
def Device.activeNorm (d : Device) : Nat := d.rf WBR 0 0x010 8 1

/-- A normalisation entry: value and complement (R61). -/
def Device.normEntry (d : Device) (set stream ch : Nat) : DWord × DWord :=
  KMap.get d.gate.norm (2048 * set + 4 * stream + ch) (0, 0)

/-- The shadow sets are locked from ARM until the swap bell, and busy until the bell after it (R69, R73). -/
def Device.shadowLocked (d : Device) : Bool := d.rb WBR 0 0x010 1 || d.rb WBR 0 0x010 4

/-- Does a stall store word lie in the shadow rescale set of the stall (R41)? -/
def Device.inShadow (d : Device) (p wa : Nat) : Bool :=
  let s := d.stall p
  let base := s.setBase.getD (1 - d.activeSet) 0
  decide (base ≤ wa ∧ wa < base + s.setWords)

/-- A write to a locked shadow entry is discarded and counted (R69). -/
def Device.busyWrite (d : Device) : Device := d.bumpBy WBR 0 0x128 0xFFFF 1

/-- Is a stream admitted (R448)? A dismissed stream counts until the next bell (R450). -/
def Stream.admitted (s : Stream) : Bool := decide (s.state = 1) || (decide (s.state = 2) && s.leaving)

/-! ### The swap -/

/-- SWAP_REFUSED with its reason and place: ARM and READY clear (R68, R74). -/
def Device.swapRefuse (d : Device) (loc : Nat) : Device := ((d.setF WBR 0 0x010 1 3 0).setN WBR 0 0x11C loc).raise WBR 0 2

/-- ARM (R67): refused while the shadow set is busy (R73). -/
def Device.swapArm (d : Device) : Device :=
  if d.rb WBR 0 0x010 4 then (d.setN WBR 0 0x11C 3).raise WBR 0 2 else d.setF WBR 0 0x010 1 3 3

def execSwapArm (s : State) : Host.Outcome State Fault Refusal := s.act (Instr.wf .swapArm) Device.swapArm

/-- Has the guard cycle of the next bell passed (R70)? -/
def Device.guardPassed (d : Device) : Bool :=
  decide (d.rf BEL 0 0x12C 0 24 ≤ d.rf BEL 0 0x128 0 24 + d.rf WBR 0 0x114 0 16) && d.rb BEL 0 0x010 0

/-- Is the next bell committed to be a swap bell? On a chip that follows the bell of another, from the guard cycle on, it may be one though the
DECIDE has not come yet, once the chip is ready: it counts as committed (assumption 120). -/
def Device.swapCommitted (d : Device) : Bool :=
  decide ((0, (if d.bell.waiting then 0 else d.bell.count + 1) % 2 ^ 24) ∈ d.bell.decided)
    || (!d.rb BEL 0 0x008 1 && d.rb AIS 8 0x010 7 && d.guardPassed && d.rb WBR 0 0x010 3)

/-- DISARM: at or after the guard cycle of a swap bell it has no effect (R71). -/
def Device.swapDisarm (d : Device) : Device := if d.swapCommitted then d else d.setF WBR 0 0x010 1 3 0

def execSwapDisarm (s : State) : Host.Outcome State Fault Refusal := s.act (Instr.wf .swapDisarm) Device.swapDisarm

/-- Declared entries of a stall with the context of each, in order. -/
def Stall.declared (s : Stall) : List Nat :=
  (List.range 8).flatMap (fun k => List.replicate (s.ctx k).rescaleN k)

/-- The first entry of a stall's shadow set that fails: its number, its context and the reason (R67). DESIGN CHOICE (assumption 109): an entry
one of whose words reads spoiled or uncorrectable, of which R68 and R80 name no reason, is refused with reason 1. -/
def firstBad (prev : Option Nat) (i : Nat) : List (DWord × DWord × Bool × Nat) → Option (Nat × Nat × Nat)
  | [] => none
  | (v, c, bad, k) :: rest =>
    let e := if bad then 1 else entryBad v c prev ((rest.head?).map (fun x => entAct x.1.toNat))
    if e = 0 then firstBad (some (entAct v.toNat)) (i + 1) rest else some (i, k, e)

/-- Read and judge the shadow set of one stall. -/
def Device.checkStall (d : Device) (p : Nat) : Option (Nat × Nat × Nat) × Device :=
  let s := d.stall p
  let base := s.setBase.getD (1 - d.activeSet) 0
  let r := (s.declared.zipIdx).foldl (fun (a : List (DWord × DWord × Bool × Nat) × Device) ki =>
    let v := a.2.storeRead p ((base + 2 * ki.2) % 8192)
    let c := v.2.storeRead p ((base + 2 * ki.2 + 1) % 8192)
    (a.1 ++ [(v.1.data, c.1.data, v.1.spoil || c.1.spoil, ki.1)], c.2)) ([], d)
  (firstBad none 0 r.1, r.2)

/-- Where the shadow sets fail first, in WBR_REFUSE form: stalls in page order, then the streams (R67, R68). -/
def Device.checkShadow (d : Device) : Option Nat × Device :=
  let r := d.stalls.foldl (fun (a : Option Nat × Device) ps =>
    if a.1.isSome then a
    else
      let x := a.2.checkStall ps.1
      match x.1 with
      | none => (none, x.2)
      | some f => (some (f.2.2 + f.1 * 2 ^ 5 + (whereWord 0 0 0 0 0 0).toNat + f.2.1 * 2 ^ 16
          + ((d.logOf ps.1).getD (0, 0)).2 * 2 ^ 19 + ((d.logOf ps.1).getD (0, 0)).1 * 2 ^ 26), x.2)) (none, d)
  if r.1.isSome then r
  else
    let bad := d.gate.streams.findSome? (fun ss =>
      if !ss.2.admitted then none
      else ((List.range 3).find? (fun c =>
        let e := d.normEntry (1 - d.activeNorm) ss.1 c
        decide (e.2 ≠ ~~~e.1))).map (fun c => 1 + 16 + (3 * ss.1 + c) * 2 ^ 5))
    (bad, r.2)

/-- SWAP_CHECK_DONE. -/
def Device.swapCheckDone (d : Device) : Device :=
  if !d.rb WBR 0 0x010 2 then d
  else
    let r := d.checkShadow
    match r.1 with
    | some loc => r.2.swapRefuse loc
    | none => (r.2.setF WBR 0 0x010 1 3 5).relayReady 0

def execSwapCheckDone (s : State) : Host.Outcome State Fault Refusal := s.act (Instr.wf .swapCheckDone) Device.swapCheckDone

/-- A load that starts while ARM or READY is set clears both (R74). DESIGN CHOICE (assumption 110): a load that starts between the guard cycle of
a committed swap and its bell clears them too, and the bell still swaps, as R71 has it of a DISARM. -/
def Device.loadDisarms (d : Device) : Device := if d.rb WBR 0 0x010 1 || d.rb WBR 0 0x010 3 then d.swapRefuse 4 else d

/-! ### Windows -/

/-- Taps as a window opens with them (R81). -/
def Device.tapRegs (d : Device) : List (Word × Word) :=
  (List.range 64).map (fun t => (d.reg WBR 0 (0x200 + 8 * t), d.reg WBR 0 (0x204 + 8 * t)))

/-- Is a window to run: STATS_EN or NORM_EN (R48)? -/
def Device.windowsOn (d : Device) : Bool := d.rb WBR 0 0x008 0 || d.rb WBR 0 0x008 2

/-- Open a window at a bell (R47 to R49). -/
def Device.openWindow (d : Device) : Device :=
  let recent := match d.wbr.swapAge with | some n => decide (n < 2) | none => false
  let w : Window := { openBell := d.bell.count, rounds := d.rf WBR 0 0x100 0 9, stats := d.rb WBR 0 0x008 0, norm := d.rb WBR 0 0x008 2,
                      mixed := recent, taps := d.tapRegs }
  { d with wbr := { d.wbr with window := some w, roundsLeft := w.rounds } }

/-- WINDOW_CLOSE: the results go to the record writer, or are lost while the half due is still full (R82, R83). -/
def Device.closeWindow (d : Device) (w : Window) : Device :=
  let d0 := { d with wbr := { d.wbr with window := none } }
  let half := 1 - d.rf WBR 0 0x010 7 1
  if d.rb WBR 0 0x010 (5 + half) then (d0.raise WBR 0 4).bumpBy WBR 0 0x124 0xFFFF 1
  else
    let bits := d.activeSet + 2 * d.activeNorm + 4 * d.rf WBR 0 0x008 1 1
    { d0 with wbr := { d0.wbr with closed := some w, closedAt := bits, closedT := d.rf WBR 0 0x104 0 7 } }

/-- The windows at a bell: the open one may close, and the next opens (R47, R48). -/
def Device.windowBell (d : Device) : Device :=
  if !d.windowsOn then { d with wbr := { d.wbr with window := none } }
  else match d.wbr.window with
    | none => d.openWindow
    | some w =>
      if d.wbr.roundsLeft ≤ 1 then (d.closeWindow w).openWindow
      else { d with wbr := { d.wbr with roundsLeft := d.wbr.roundsLeft - 1 } }

/-! ### Proposals -/

/-- M′ for a power k (R51). -/
def scaleM (m t mag : Nat) (k : Int) : Int :=
  if 0 ≤ k then rheDiv ((m : Int) * t * (2 ^ k.toNat : Nat)) mag else rheDiv ((m : Int) * t) ((mag : Int) * (2 ^ (-k).toNat : Nat))

/-- The k of R51, if there is one. DESIGN CHOICE (assumption 106): where rounding lets two neighbouring k satisfy the bounds, the lower one. -/
def findK (m t mag : Nat) : Option Int :=
  ((List.range 129).map (fun (i : Nat) => (i : Int) - 64)).find? (fun k =>
    decide ((2 ^ 30 : Nat) ≤ scaleM m t mag k ∧ scaleM m t mag k < (2 ^ 31 : Nat)))

/-- A proposal entry (R51, R52, R55, R85). `mag1` is the maximum magnitude plus 1, 0 when there was no output; `entry` is the active
value word; where the manual gives no result the `free` value stands. -/
def proposal (mag1 t : Nat) (entry : DWord) (free : DWord) : DWord :=
  let m := entM entry.toNat
  let n := entN entry.toNat
  if mag1 = 0 then BitVec.ofNat 64 (2 ^ 42)
  else if mag1 = 1 then BitVec.ofNat 64 (m + 2 ^ 31 + n * 2 ^ 32 + 2 ^ 40)
  else match findK m t (mag1 - 1) with
    | none => BitVec.ofNat 64 (fld free.toNat 0 38 + fld free.toNat 40 3 * 2 ^ 40)
    | some k =>
      let n' := (n : Int) + k
      if 0 ≤ n' ∧ n' ≤ 63 then BitVec.ofInt 64 (scaleM m t (mag1 - 1) k + (2 ^ 31 : Nat) + n' * (2 ^ 32 : Nat))
      else BitVec.ofInt 64 (scaleM m t (mag1 - 1) k + (fld free.toNat 0 6 * 2 ^ 32 : Nat) + (2 ^ 41 : Nat))

/-- A normalisation entry of the record (R54, R56, R86). DESIGN CHOICE (assumption 111): a zero-range entry keeps the current GSHIFT, as R56 says,
where R86 says of the field that it is always 16. -/
def normProposal (range : Nat × Nat) (propose : Bool) (t : Nat) (cur : DWord) : DWord :=
  if range.2 = 0 then BitVec.ofNat 64 (2 ^ 55)
  else
    let a := range.1
    let b := range.2 - 1
    let v := a + b * 2 ^ 8
    if !propose then BitVec.ofNat 64 v
    else if a < b then
      let gain := min 65535 (rheDiv ((t : Int) * 512) ((b : Int) - a)).toNat
      BitVec.ofNat 64 (v + (a + b) * 128 * 2 ^ 16 + gain * 2 ^ 32 + 16 * 2 ^ 48 + 2 ^ 54)
    else BitVec.ofNat 64 (v + fld cur.toNat 0 16 * 2 ^ 16 + fld cur.toNat 16 16 * 2 ^ 32 + fld cur.toNat 32 5 * 2 ^ 48 + 2 ^ 53 + 2 ^ 54)

/-! ### The record (R82 to R86) -/

/-- Is a tap in use, and how many channels does it cover (R46, R80)? -/
def tapCount (t : Word × Word) : Nat :=
  let first := fld t.2.toNat 0 9
  let count := fld t.2.toNat 16 9
  if tb t.1.toNat 0 && decide (1 ≤ count ∧ count ≤ 256) then min (first + count) 512 - first else 0

/-- The entry of a tap's channel in the set that was active as the window closed. DESIGN CHOICE (assumption 107): the number of an output channel
is that of its rescale entry, of a leaky pair its first. -/
def Device.tapEntry (d : Device) (t : Word × Word) (i : Nat) : DWord :=
  match d.physOf (fld t.1.toNat 26 6) (fld t.1.toNat 19 7) with
  | some p => (decodeWord (d.storeCode p (((d.stall p).setBase.getD (fld d.wbr.closedAt 0 1) 0 + 2 * (fld t.2.toNat 0 9 + i)) % 8192))).data
  | none => 0

/-- Are proposals written for the window? -/
def Device.proposes (d : Device) (w : Window) : Bool := tb d.wbr.closedAt 2 && !w.mixed

/-- Word `j` of the block of tap `t` (0xA40 bytes). -/
def Device.tapWord (d : Device) (w : Window) (ti j : Nat) : DWord :=
  let t := w.taps.getD ti (0, 0)
  if !w.stats then 0
  else if j < 8 then
    BitVec.ofNat 64 (KMap.get w.hist (16 * ti + 2 * j) 0 + KMap.get w.hist (16 * ti + 2 * j + 1) 0 * 2 ^ 32)
  else if j < 72 then
    BitVec.ofNat 64 (((List.range 4).map (fun i => (KMap.get w.mags (256 * ti + 4 * (j - 8) + i) 0 - 1) * 2 ^ (16 * i))).sum)
  else if d.proposes w && decide (j - 72 < tapCount t) then
    proposal (KMap.get w.mags (256 * ti + (j - 72)) 0) d.wbr.closedT (d.tapEntry t (j - 72))
      (Config.freeValue (d.frees + 256 * ti + (j - 72)))
  else 0

/-- Word `i` of a half. -/
def Device.recordWord (d : Device) (w : Window) (i : Nat) : DWord :=
  if i = 0 then BitVec.ofNat 64 w.openBell
  else if i = 1 then
    BitVec.ofNat 64 (w.rounds + (fld d.wbr.closedAt 0 1 + 2 * b2n w.mixed + 4 * fld d.wbr.closedAt 2 1 + 8 * b2n w.norm
      + 16 * fld d.wbr.closedAt 1 1) * 2 ^ 16)
  else if i < 8 then 0
  else if i < 8 + 64 * 328 then d.tapWord w ((i - 8) / 328) ((i - 8) % 328)
  else
    let e := i - (8 + 64 * 328)
    if 1536 ≤ e then 0
    else if !w.norm || !(d.stream (e / 3)).admitted then BitVec.ofNat 64 (2 ^ 55)
    else normProposal (KMap.get w.pix e (0, 0)) (d.proposes w) d.wbr.closedT (d.normEntry (fld d.wbr.closedAt 1 1) (e / 3) (e % 3)).1

/-- One ZERO_RANGE event (R55, R56). -/
def Device.zeroRange (d : Device) (loc : Word) (detail : Nat) : Device :=
  ((d.raise WBR 0 3).bumpBy WBR 0 0x120 0xFFFF 1).log 0xA002 WBR 0 loc detail

/-- The zero-range channels of a window that is not MIXED (R55). DESIGN CHOICE (assumption 108): the zero-range streams of a MIXED window, of which
R56 does not speak, raise nothing either. -/
def Device.zeroRanges (d : Device) (w : Window) : Device :=
  if w.mixed then d
  else
    let d1 := if !w.stats then d else w.mags.foldl (fun a kv =>
      let t := w.taps.getD (kv.1 / 256) (0, 0)
      if kv.2 = 1 then
        a.zeroRange (whereWord (fld t.1.toNat 26 6) (fld t.1.toNat 19 7) 0 0 (fld t.1.toNat 9 3) 0)
          (kv.1 / 256 + (fld t.2.toNat 0 9 + kv.1 % 256) * 2 ^ 16)
      else a) d
    if !w.norm then d1 else w.pix.foldl (fun a kv =>
      if 0 < kv.2.2 ∧ kv.2.1 + 1 = kv.2.2 ∧ (d.stream (kv.1 / 3)).admitted
      then a.zeroRange 0 (kv.1 / 3 + kv.1 % 3 * 2 ^ 16 + 2 ^ 63) else a) d1

/-- STATS_READY: the half is written whole (R82, R84). -/
def Device.statsReady (d : Device) : Device :=
  match d.wbr.closed with
  | none => d
  | some w =>
    let half := 1 - d.rf WBR 0 0x010 7 1
    let base := d.rf WBR 0 0x108 16 11 * 65536 + half * 0x30000
    let d1 := (List.range 24576).foldl (fun a i => a.depotWriteLane ((base + 8 * i) % 2 ^ 27) (d.recordWord w i) false) d
    let d2 := { d1 with wbr := { d1.wbr with closed := none }, frees := d1.frees + 16384 }
    (((d2.zeroRanges w).setB WBR 0 0x010 (5 + half) true).setF WBR 0 0x010 7 1 half).raise WBR 0 0

def execStatsReady (s : State) : Host.Outcome State Fault Refusal := s.act (Instr.wf .statsReady) Device.statsReady

/-- REL0 and REL1 release a half (R80). -/
def execWbrStatsAckRel0 (s : State) : Host.Outcome State Fault Refusal :=
  s.act (Instr.wf .wbrStatsAckRel0) (fun d => d.setB WBR 0 0x010 5 false)

def execWbrStatsAckRel1 (s : State) : Host.Outcome State Fault Refusal :=
  s.act (Instr.wf .wbrStatsAckRel1) (fun d => d.setB WBR 0 0x010 6 false)

/-! ### The swap bell -/

/-- SWAP_BELL: the roles of the sets change at a bell (R62, R73). -/
def Device.swapBell (d : Device) : Device :=
  let d1 := ((d.setF WBR 0 0x010 0 1 (1 - d.activeSet)).setF WBR 0 0x010 8 1 (1 - d.activeNorm)).setF WBR 0 0x010 1 4 8
  let d2 := (d1.setN WBR 0 0x118 (d.bell.count % 2 ^ 32)).raise WBR 0 1
  let win := d2.wbr.window.map (fun w => { w with mixed := true })
  { d2 with wbr := { d2.wbr with swapAge := some 0, window := win } }.spendReady 0

end Sys2Proof.Machine
end

