-- ==== Sys2Proof/Machine/Porters.lean ====
section
/-! DEFINITION. Porters (R387 to R393), the crate codec (R399 to R403), the gathering of verdicts at the egress baskets (R248, R390,
R522), and refresh, patrol and the scrubber are in Scrub.lean. -/

namespace Sys2Proof.Machine

/-! ### Descriptors (R388) -/

abbrev Desc := BitVec 256

def dOp (x : Desc) : Nat := fld x.toNat 0 4
def dSsp (x : Desc) : Nat := fld x.toNat 4 3
def dDsp (x : Desc) : Nat := fld x.toNat 7 3
def dCodec (x : Desc) : Nat := fld x.toNat 10 2
def dDecode (x : Desc) : Bool := tb x.toNat 12
def dFirst (x : Desc) : Nat := fld x.toNat 16 9
def dLast (x : Desc) : Nat := fld x.toNat 25 9
def dStart (x : Desc) : Nat := fld x.toNat 48 24
def dLength (x : Desc) : Nat := fld x.toNat 72 24
def dSaddr (x : Desc) : Nat := fld x.toNat 96 40
def dDaddr (x : Desc) : Nat := fld x.toNat 136 40
def dSstep (x : Desc) : Int := sx 24 (fld x.toNat 176 24)
def dDstep (x : Desc) : Int := sx 24 (fld x.toNat 200 24)

/-- Bits that a descriptor must hold 0: all that no field of R388 names. -/
def dReserved (x : Desc) : Bool :=
  decide (fld x.toNat 13 3 = 0) && decide (fld x.toNat 34 14 = 0) && decide (fld x.toNat 224 32 = 0)

/-- Has a descriptor no reserved value (R388)? -/
def dPlain (x : Desc) : Bool :=
  decide (dOp x ≤ 1) && decide (dSsp x ≤ 4) && decide (dCodec x ≤ 2) && dReserved x && decide (dFirst x ≤ dLast x)
    && decide (dLength x % (if dCodec x = 0 then 8 else 64) = 0) && decide (dDsp x ≠ 3 ∨ dDaddr x < 16)

/-- Is a descriptor run in a slot? -/
def dIn (x : Desc) (slot : Nat) : Bool := decide (dOp x = 0 ∧ dFirst x ≤ slot ∧ slot ≤ dLast x)

/-- An address stepped once for each slot after FIRST_SLOT; a stall store address steps in its word field only. -/
def stepped (space addr : Nat) (step : Int) (n : Nat) : Nat :=
  if space = 2 then putFld addr 0 13 (wrapN 13 ((fld addr 0 13 : Int) + step * n)) else wrapN 40 ((addr : Int) + step * n)

def srcAddr (x : Desc) (slot : Nat) : Nat := stepped (dSsp x) (dSaddr x) (dSstep x) (slot - dFirst x)
def dstAddr (x : Desc) (slot : Nat) : Nat := stepped (dDsp x) (dDaddr x) (dDstep x) (slot - dFirst x)

/-- Is it an egress descriptor whose verdicts go to a host ring or the Crier (R390)? -/
def dEgress (x : Desc) : Bool := decide (dSsp x = 4) && (decide (dDsp x = 5) || decide (dDsp x = 6))

/-- The stall at a stall store address. -/
def Device.stallAt (d : Device) (a : Nat) : Option Nat := d.physOf (fld a 20 6) (fld a 13 7)

/-- The word that is `n` words on from a stall store address. -/
def wordAt (a n : Nat) : Nat := (fld a 0 13 + n) % 8192

/-! ### Channels -/

def Device.pcOf (d : Device) (ch : Nat) : Nat := d.rf PRT ch 0x104 0 16
def Device.busyOf (d : Device) (ch : Nat) : Bool := d.rb PRT ch 0x010 2
def Device.haltedOf (d : Device) (ch : Nat) : Bool := d.rb PRT ch 0x010 3
def Device.setBusy (d : Device) (ch : Nat) (b : Bool) : Device := d.setB PRT ch 0x010 2 b
def Device.setPorterPc (d : Device) (ch i : Nat) : Device := d.setN PRT ch 0x104 (i % 65536)

/-- A channel halts: the descriptor moves no more (R392, R393). -/
def Device.porterHalt (d : Device) (ch irq : Nat) : Device :=
  (((d.setB PRT ch 0x010 3 true).setBusy ch false).raise PRT ch irq).log 0xA00F PRT ch 0 (ch + d.pcOf ch * 2 ^ 16)

/-- The descriptors of a rota channel, up to the END of its list (R388). -/
def Chan.program (c : Chan) : List Desc := c.descs.takeWhile (fun x => decide (dOp x ≠ 1))

/-- The first descriptor from `pc` on that a rota channel runs in a slot. -/
def Chan.nextDesc (c : Chan) (pc slot : Nat) : Option Nat :=
  ((c.program.zipIdx).find? (fun xi => decide (pc ≤ xi.2) && dIn xi.1 slot)).map (fun xi => xi.2)

/-- The order of slots: by bell, then by slot. -/
def SlotRun.seq (r : SlotRun) : Nat := 512 * r.bell + r.slot

/-- Take the oldest waiting slot that has something to move. -/
def Chan.takeSlot (c : Chan) : List SlotRun → Chan
  | [] => { c with run := none, due := [] }
  | r :: rest => if (c.nextDesc 0 r.slot).isSome then { c with run := some r, due := rest } else c.takeSlot rest

/-- The current descriptor. -/
def Device.currentDesc (d : Device) (ch : Nat) : Desc :=
  let c := d.chan ch
  if c.rota then c.program.getD (d.pcOf ch) 0 else c.descs.headD 0

/-- The slot that a channel works; a free channel has none and its addresses do not step. -/
def Device.slotOf (d : Device) (ch : Nat) (x : Desc) : Nat :=
  match (d.chan ch).run with
  | some r => if (d.chan ch).rota then r.slot else dFirst x
  | none => dFirst x

/-- Do the rota's porters stand still: in the hush (R229)? -/
def Device.porterHeld (d : Device) (ch : Nat) : Bool := (d.chan ch).rota && d.bell.hushed

/-! ### Frames (R17 to R22, R390) -/

/-- Storehouse address of a buffer of a stream (R446). -/
def Stream.bufAddr (s : Stream) (b : Nat) : Nat :=
  ((s.data.getD 5 0).toNat % 2 ^ 28 + b * ((s.data.getD 6 0).toNat % 2 ^ 28)) * 4096

/-- What was picked for a stream at the bell of a slot. -/
def Device.pickFor (d : Device) (bell stream : Nat) : Option Pick :=
  (if d.bell.count = bell then d.bell.picks else d.bell.picksWas).find? (fun p => decide (p.stream = stream))

/-- Is a read of the stream's frame for the slot still to come or running on any channel? -/
def Device.readsLeft (d : Device) (stream slot : Nat) : Bool :=
  d.chans.any (fun kc => kc.2.rota && (match kc.2.run with
    | some r => decide (r.slot = slot) && (kc.2.program.zipIdx).any (fun xi =>
        decide (d.pcOf kc.1 ≤ xi.2) && dIn xi.1 slot && decide (dSsp xi.1 = 3 ∧ srcAddr xi.1 slot % 512 = stream))
    | none => false) || kc.2.due.any (fun r => decide (r.slot = slot) && kc.2.program.any (fun x =>
        dIn x slot && decide (dSsp x = 3 ∧ srcAddr x slot % 512 = stream))))

/-- FRAME_READ_END: the Gate may write the picked buffer again (R22, R390). -/
def Device.frameReadEnd (d : Device) (stream : Nat) : Device := d.setStream stream { d.stream stream with reading := false }

/-! ### The crate codec (R399 to R403) -/

/-- Largest payload value and largest shift of a mode (0 CR4, 1 CR6). -/
def crateMax (mode : Nat) : Int := if mode = 0 then 7 else 31
def crateShifts (mode : Nat) : Nat := if mode = 0 then 4 else 2
/-- Bits of a payload value. -/
def crateBits (mode : Nat) : Nat := if mode = 0 then 4 else 6

/-- The encoder: payload values, shift, saturations counted (R400). -/
def crateEncode (v : List Int) (mode : Nat) : List Int × Nat × Nat :=
  let fits := fun s => v.all (fun x => decide ((rhe x s).natAbs ≤ (crateMax mode).natAbs))
  let s := ((List.range (crateShifts mode + 1)).find? fits).getD (crateShifts mode)
  let q := v.map (fun x => rhe x s)
  (q.map (fun x => clampI (-crateMax mode) (crateMax mode) x), s,
    (q.filter (fun x => decide ((crateMax mode).natAbs < x.natAbs))).length)

/-- A block's payload as data words (R399). -/
def cratePack (q : List Int) (mode : Nat) : List DWord :=
  let v := q.foldr (fun x acc => acc * 2 ^ crateBits mode + wrapN (crateBits mode) x) 0
  (List.range (crateBits mode)).map (fun i => BitVec.ofNat 64 (v / 2 ^ (64 * i)))

/-- A block's tag byte. -/
def crateTag (mode shift : Nat) (spoil : Bool) : Byte := BitVec.ofNat 8 (shift + 8 * mode + 128 * b2n spoil)

/-- The decoder: 64 codes (R400). -/
def crateDecode (pay : List DWord) (mode : Nat) (tag : Byte) : List Int :=
  let v := pay.foldr (fun w acc => acc * 2 ^ 64 + w.toNat) 0
  (List.range 64).map (fun i => sx (crateBits mode) (v / 2 ^ (crateBits mode * i)) * (2 ^ (tag.toNat % 8) : Nat))

/-- Bytes of a stored group of 64 blocks, and of one payload (R401). -/
def cratePay (mode : Nat) : Nat := 8 * crateBits mode
def crateGroup (mode : Nat) : Nat := 64 + 64 * cratePay mode

/-- Tag bytes of a group as words: unused ones are 0. -/
def tagWords (tags : List Byte) : List DWord := (List.range 8).map (fun i => wordOf (padTo 8 ((tags.drop (8 * i)).take 8)))

/-- One block is encoded when its eighth word arrives; a group leaves when it is full or the descriptor's last block is in it
(R401). What pads a short group to 64 bytes the manual does not state. -/
def Device.encodeBlock (d : Device) (ch : Nat) (mode : Nat) (last : Bool) : Device :=
  let c := d.chan ch
  if c.words.length < 8 then d
  else
    let r := readCodes (c.words.flatMap (fun w => bytesOf w.1))
    let e := crateEncode r.1 mode
    let tags := c.tags ++ [crateTag mode e.2.1 (c.words.any (fun w => w.2))]
    let pays := c.pays ++ cratePack e.1 mode
    let d1 := d.bumpBy PRT ch 0x038 0xFFFFFFFF (r.2 + e.2.2)
    if tags.length = 64 ∨ last then
      let pad := List.replicate ((8 - pays.length % 8) % 8) (d1.free, false)
      let out := (tagWords tags ++ pays).map (fun w => (w, false)) ++ pad
      d1.useFree.setChan ch { c with words := [], tags := [], pays := [], emit := c.emit ++ out }
    else d1.setChan ch { c with words := [], tags := tags, pays := pays }

/-! ### Sources -/

/-- One 64-bit word of a source at byte `ofs` from the descriptor's address: data, spoil, and whether it was there. -/
def Device.sourceWord (d : Device) (ch : Nat) (x : Desc) (ofs : Nat) : Option (DWord × Bool) × Device :=
  let slot := d.slotOf ch x
  let a := srcAddr x slot
  match dSsp x with
  | 0 => let r := d.depotReadBytes ((a + ofs) % 2 ^ 27) 8
    (some (wordOf r.1, r.2.1), r.2.2)
  | 1 => let r := d.sthRead (a + ofs)
    (some (r.1.data, r.1.spoil), r.2)
  | 2 => match d.stallAt a with
    | some p => let r := d.storeRead p (wordAt a (ofs / 8))
      (some (r.1.data, r.1.spoil), r.2)
    | none => (some (d.free, false), d.useFree)
  | 3 =>
    let st := d.stream (a % 512)
    let pick := match (d.chan ch).run with
      | some r => if (d.chan ch).rota then d.pickFor r.bell (a % 512) else st.pickTs
      | none => st.pickTs
    match pick with
    | some k => if k.none_ then (some (0, false), d)
      else let r := d.sthRead (st.bufAddr k.buffer + a / 4096 + ofs)
        (some (r.1.data, r.1.spoil), r.2)
    | none => (some (0, false), d)
  | 4 => match (d.egress a).packed with
    | [] => (none, d)
    | w :: rest =>
      let d1 := (List.range w.items).foldl (fun acc _ => acc.creditBack (.edge a)) (d.setEgress a { d.egress a with packed := rest })
      if w.ctl then (none, d1) else (some (w.data, w.spoil), d1)
  | _ => (none, d)

/-- A spoiled word goes on, and is counted (R392). -/
def Device.notePassed (d : Device) (ch : Nat) (spoil : Bool) : Device := if spoil then (d.count32 PRT ch 0x030).raise PRT ch 2 else d

/-- Bytes counted into MOVED, in units of 64 (R421). -/
def Device.noteMoved (d : Device) (ch n : Nat) : Device :=
  let c := d.chan ch
  (d.setChan ch { c with moved := c.moved + n }).bumpBy PRT ch 0x03C 0xFFFFFFFF ((c.moved + n) / 64 - c.moved / 64)

/-- Take the next word of a plain or encoding move from the source. -/
def Device.fetchPlain (d : Device) (ch : Nat) (x : Desc) : Device :=
  let r := d.sourceWord ch x (d.chan ch).moved
  match r.1 with
  | none => r.2
  | some w =>
    let d1 := (r.2.notePassed ch w.2).noteMoved ch 8
    let c := d1.chan ch
    if dCodec x = 0 then d1.setChan ch { c with emit := c.emit ++ [w] }
    else (d1.setChan ch { c with words := c.words ++ [w] }).encodeBlock ch (dCodec x - 1) (decide (dLength x ≤ c.moved))

/-- Take the next block of a decoding move: its tag and payload, 8 words out. A payload or tag word that reads spoiled spoils the
block (R403). -/
def Device.fetchBlock (d : Device) (ch : Nat) (x : Desc) : Device :=
  let mode := dCodec x - 1
  let b := (d.chan ch).moved / 64
  let base := b / 64 * crateGroup mode
  let t := d.sourceWord ch x (base + b % 64 / 8 * 8)
  let tagw := t.1.getD (0, true)
  let pays := (List.range (crateBits mode)).foldl (fun (a : List (DWord × Bool) × Device) i =>
    let r := a.2.sourceWord ch x (base + 64 + b % 64 * cratePay mode + 8 * i)
    let w := r.1.getD (0, true)
    (a.1 ++ [w], r.2.notePassed ch w.2)) ([], t.2.notePassed ch tagw.2)
  let tag := byteOf tagw.1 (b % 8)
  let bad := tagw.2 || tb tag.toNat 7 || pays.1.any (fun w => w.2)
  let codes := (crateDecode (pays.1.map (fun w => w.1)) mode tag).map codeByte
  let out := (List.range 8).map (fun i => (wordOf ((codes.drop (8 * i)).take 8), bad))
  let d1 := pays.2.noteMoved ch 64
  d1.setChan ch { d1.chan ch with emit := (d1.chan ch).emit ++ out }

/-! ### Destinations -/

/-- The outgoing Aisle channel of a number. -/
def Device.outChan (d : Device) (k : Nat) : Option OutChan := KMap.get d.aisles.outs k none

/-- Is there room for one word at the destination (R390, R470, R541)? A basket takes none in the hush (R205). -/
def Device.destRoom (d : Device) (ch : Nat) (x : Desc) : Bool :=
  let a := dstAddr x (d.slotOf ch x)
  match dDsp x with
  | 0 => true
  | 1 => true
  | 2 => true
  | 3 => d.trestle.reconfiguring || decide (((d.trestle.ports.getD (a % 16) {}).words).length < 16)
  | 4 => !d.bell.hushed && d.edgeRoom a && (KMap.get d.arcade.edgeTokens a []).all (fun t => match (d.chan ch).run with | some r => decide (r.seq < t.1) | none => true)
  | 7 => match d.outChan (a % 128) with
    | some c => decide (c.queue.length < 16)
    | none => false
  | _ => false

/-- Give one word to the destination. END of a word into a basket, a port or a channel is not stated: a free value. -/
def Device.putWord (d : Device) (ch : Nat) (x : Desc) (w : DWord × Bool) : Device :=
  let a := dstAddr x (d.slotOf ch x)
  let n := (d.chan ch).emitted
  let bw := dataWord w.1 (d.free.getLsbD 0) w.2 d.loader.gen
  let d0 := d.setChan ch { d.chan ch with emit := (d.chan ch).emit.drop 1, emitted := n + 1 }
  match dDsp x with
  | 0 => d0.depotWrite ((a + 8 * n) % 2 ^ 27) (bytesOf w.1) w.2
  | 1 =>
    let y := a + 8 * n
    let len := if dCodec x ≠ 0 ∧ !dDecode x then (d.chan ch).emit.length * 8 + 8 * n else dLength x
    d0.sthWrite y (bytesOf w.1) w.2 (decide (a ≤ y / 128 * 128 ∧ y / 128 * 128 + 128 ≤ a + len))
  | 2 => match d.stallAt a with
    | some p =>
      let c := d.claimUnder p (d.afterPrio4 p) [wordAt a n % 8]
      if !c.1 then d
      else if d.shadowLocked && d.inShadow p (wordAt a n) then
        (c.2.setChan ch { d.chan ch with emit := (d.chan ch).emit.drop 1, emitted := n + 1 }).busyWrite
      else (c.2.setChan ch { d.chan ch with emit := (d.chan ch).emit.drop 1, emitted := n + 1 }).storeWrite p (wordAt a n) w.1 w.2
    | none => d0
  | 3 =>
    if d.trestle.reconfiguring then (d0.count32 TRS 0 0x034).log 0xB404 TRS 0 0 (a % 16 + 2 ^ 16)
    else { d0.useFree with trestle := { d0.trestle with
      ports := upd d0.trestle.ports (a % 16) (fun t => { t with words := t.words ++ [bw] }) } }
  | 4 => d0.useFree.edgePush a bw
  | 7 => match d.outChan (a % 128) with
    | some c => { d0.useFree with aisles := { d0.aisles with
        outs := KMap.put d0.aisles.outs (a % 128) (some { c with queue := c.queue ++ [bw] }) } }
    | none => d0
  | _ => d0

/-- Move at most one word: take one from the source where none waits, and give one to the destination. -/
def Device.moveWord (d : Device) (ch : Nat) (x : Desc) : Device :=
  let c := d.chan ch
  let d1 := if c.emit.isEmpty && decide (c.moved < dLength x) && d.destRoom ch x then
      (if dCodec x ≠ 0 ∧ dDecode x then d.fetchBlock ch x else d.fetchPlain ch x)
    else d
  match (d1.chan ch).emit with
  | [] => d1
  | w :: _ => if d1.destRoom ch x then d1.putWord ch x w else d1

/-- Words that one cycle may move: 32 bytes, or one word where a basket, a port or an Aisle queue is concerned (R387). -/
def dBudget (x : Desc) : Nat := if dDsp x = 3 ∨ dDsp x = 4 ∨ dDsp x = 7 ∨ dSsp x = 4 then 1 else 4

/-- Does a run of Storehouse bytes reach the staging area, the top GiB of the usable capacity (R559)? -/
def Device.inStaging (d : Device) (a n : Nat) : Bool := decide (d.sthBytes < a + n + 2 ^ 30) && decide (a < d.sthBytes)

/-- A free channel may not touch the stall store of a stall that is open, a host ring or the staging area, and takes no reserved value
(R393, R512, R559, assumption 40). -/
def Device.porterBarred (d : Device) (ch : Nat) (x : Desc) : Bool :=
  if (d.chan ch).rota then false
  else
    let open_ := fun a => match d.stallAt a with | some p => !d.closed p | none => false
    (decide (dSsp x = 2) && open_ (dSaddr x)) || (decide (dDsp x = 2) && open_ (dDaddr x)) || decide (dDsp x = 5 ∨ dDsp x = 6)
      || (decide (dSsp x = 1) && d.inStaging (dSaddr x) (dLength x)) || (decide (dDsp x = 1) && d.inStaging (dDaddr x) (dLength x))
      || decide (dSsp x = 4) || !dPlain x

/-- The channel no longer waits for late data (R391). -/
def Device.dataCame (d : Device) (ch : Nat) : Device :=
  if !d.rb PRT ch 0x010 4 then d
  else
    let d1 := d.setB PRT ch 0x010 4 false
    if d1.lateChans = [] then d1.hushDrop 4 else d1

/-! ### Verdicts being gathered (R248, R390, R522) -/

/-- Replace a slot that is owed. -/
def Device.setDue (d : Device) (old new : Due) : Device :=
  { d with bell := { d.bell with owing := d.bell.owing.map (fun q => if q = old then new else q) } }

/-- Forget what has been gathered on an egress basket. -/
def Device.dropGathered (d : Device) (e : Nat) : Device :=
  d.setEgress e { d.egress e with staging := [], got := 0, oversize := false }

/-- Does a channel run the verdict descriptor of a slot that is owed: it has reached START, in list order (R389)? -/
def Device.runsVerdict (d : Device) (q : Due) : Bool :=
  let x := d.currentDesc q.chan
  d.busyOf q.chan && dEgress x && (match (d.chan q.chan).run with
    | some r => decide (r.slot = q.slot ∧ r.bell = q.bell ∧ srcAddr x r.slot % 320 = q.egress)
    | none => false)

/-- The porter takes one packed word for the oldest slot owed on the basket, whose descriptor it runs (R387, R389, R390). A VOID for a slot that is
not complete voids it, and discards what was taken; a VOID for one that is complete is counted and discarded (R248). A word of the next
generation finds the slot short for good: it is void as a late slot (R23, R330). -/
def Device.gather (d : Device) (e : Nat) : Device :=
  match d.bell.owing.find? (fun x => decide (x.egress = e)), (d.egress e).packed with
  | some first, w :: rest =>
    let x := d.egress e
    if first.cause.isSome || decide (first.packets ≤ x.got) || !d.runsVerdict first then d
    else if !w.ctl && decide (w.gen = first.gen + 1) then (d.dropGathered e).setDue first { first with cause := some 2 }
    else
      let d1 := (List.range w.items).foldl (fun a _ => a.creditBack (.edge e)) (d.setEgress e { x with packed := rest })
      if w.ctl then
        let tok := dataWord w.data false w.spoil w.gen
        if tok.kind = 5 then
          match d.bell.owing.find? (fun q => decide (q.egress = e ∧ q.slot = tok.slot)) with
          | some q => (if q = first then d1.dropGathered e else d1).setDue q { q with cause := q.cause.orElse (fun _ => some 2) }
          | none => (d1.count16 BEL 0 0x038).raise BEL 0 9
        else d1
      else
        let tooLong := x.oversize || decide (first.limit < 8 * (x.staging.length + 1) - (8 - w.vb))
        let stage := if tooLong then [] else x.staging ++ [w]
        ((d1.notePassed first.chan w.spoil).noteMoved first.chan w.vb).setEgress e
          { x with packed := rest, staging := stage, got := x.got + b2n w.fin, oversize := tooLong }
  | _, _ => d

/-- Egress baskets whose verdicts a channel carries. -/
def Device.egressesOf (d : Device) (ch : Nat) : List Nat :=
  (d.bell.owing.filter (fun q => decide (q.chan = ch))).foldl (fun l q => insertNew q.egress l) []

/-! ### The write-back of adaptation records (R373, R375) -/

/-- Does the program of a context hold an adaptation operation (opcodes 0x18 to 0x1B)? -/
def Device.adapts (d : Device) (p k : Nat) : Bool :=
  match ((d.stall p).ctx k).rec_ with
  | some r => (List.range r.length).any (fun i => decide ((KMap.get d.prog ((8 * p + k) * 256 + i) 0).toNat % 2 ^ 32 / 2 ^ 28 = 6))
  | none => false

/-- The contexts whose adaptation a rota descriptor writes back: it moves words of a per-stream state region to the Depot from a stall that has
such contexts. -/
def Device.writesBack (d : Device) (x : Desc) (slot : Nat) : List Ctx :=
  let a := srcAddr x slot
  match d.stallAt a with
  | some p =>
    if dSsp x = 2 ∧ dDsp x = 0 ∧ (d.stall p).regions.any (fun g => decide (g.kind = 5 ∧ g.base ≤ wordAt a 0 ∧ wordAt a 0 < g.base + g.size))
    then ((List.range 8).filter (fun k => (d.stall p).used k && d.adapts p k)).map (fun k => (d.stall p).ctx k) else []
  | none => []

/-- The bodies of the slot that a write-back depends on: has one been voided, has one not ended? -/
def Device.bodyVoided (d : Device) (x : Desc) (slot : Nat) : Bool := (d.writesBack x slot).any (fun c => decide (KMap.get c.ends slot 0 = 1))
def Device.bodyGoesOn (d : Device) (x : Desc) (slot : Nat) : Bool := (d.writesBack x slot).any (fun c => decide (KMap.get c.ends slot 0 = 0))

/-! ### The rows -/

/-- PORTER_GO: a free channel runs its list from PROG_BASE; on others GO is ignored (R389, R421). -/
def Device.porterGo (d : Device) (ch : Nat) : Device :=
  let d1 := d.setB PRT ch 0x008 0 true
  if d.rf PRT ch 0x010 0 2 ≠ 2 then d1
  else ((d1.setB PRT ch 0x010 3 false).setPorterPc ch 0).setChan ch
    { (d.chan ch) with descs := [], run := some ⟨0, d.work, 0⟩, moved := 0, emitted := 0, emit := [], words := [], tags := [], pays := [] }

def execPorterGo (ch : Nat) (s : State) : Host.Outcome State Fault Refusal :=
  s.act (Instr.wf (.porterGo ch)) (fun d => d.porterGo ch)

/-- A free channel reads its descriptor; END ends the list: DONE, and GO clears (R388, R421). -/
def Device.freeFetch (d : Device) (ch : Nat) : Device :=
  let r := d.depotReadBytes ((d.rf PRT ch 0x100 5 22 * 32 + 32 * d.pcOf ch) % 2 ^ 27) 32
  let x : Desc := BitVec.ofNat 256 (leNat r.1)
  let d1 := r.2.2.notePassed ch r.2.1
  let c := d1.chan ch
  if dOp x = 1 then
    ((d1.setChan ch { c with run := none, descs := [] }).setB PRT ch 0x008 0 false).raise PRT ch 0
  else d1.setChan ch { c with descs := [x] }

/-- The current descriptor begins. -/
def Device.descBegin (d : Device) (ch : Nat) : Device :=
  (d.setChan ch { (d.chan ch) with moved := 0, emitted := 0, emit := [], words := [], tags := [], pays := [] }).setBusy ch true

/-- The channel goes on behind the descriptor at PROG_PC: to the next of the slot's, or to its next slot. -/
def Device.listOn (d : Device) (ch : Nat) : Device :=
  let c := d.chan ch
  let d1 := (d.setBusy ch false).setPorterPc ch (d.pcOf ch + 1)
  match c.run with
  | some r => if (c.nextDesc (d1.pcOf ch) r.slot).isSome then d1 else (d1.setPorterPc ch 0).setChan ch (c.takeSlot c.due)
  | none => d1

/-- DESCRIPTOR_START (R389): a rota descriptor at its START, a free one at once. DEDUCED (assumption 115): a write-back of records waits for the end
of its slot's adaptation body, and moves nothing when the body has been voided (R375). -/
def Device.descriptorStart (d : Device) (ch : Nat) : Device :=
  let c := d.chan ch
  if d.busyOf ch || d.haltedOf ch || d.porterHeld ch then d
  else match c.run with
    | none => d
    | some r =>
      if c.rota then
        match c.nextDesc (d.pcOf ch) r.slot with
        | some i =>
          let x := c.program.getD i 0
          if d.work < r.at_ + dStart x then d
          else if d.bodyVoided x r.slot then (d.setPorterPc ch i).listOn ch
          else if d.bodyGoesOn x r.slot then d
          else (d.setPorterPc ch i).descBegin ch
        | none => d
      else
        let d1 := d.freeFetch ch
        if (d1.chan ch).run.isSome then d1.descBegin ch else d1

def execDescriptorStart (ch : Nat) (s : State) : Host.Outcome State Fault Refusal :=
  s.act (Instr.wf (.descriptorStart ch)) (fun d => d.descriptorStart ch)

/-- Has the current descriptor moved all it has to: LENGTH bytes, or a verdict that has been handed over, DESIGN CHOICE (assumption 114) (R389, R390)? -/
def Device.descMoved (d : Device) (ch : Nat) (x : Desc) : Bool :=
  let c := d.chan ch
  if c.rota && dEgress x then !d.bell.owing.any (fun q => decide (q.chan = ch) && d.runsVerdict q)
  else decide (dLength x ≤ c.moved) && c.emit.isEmpty

/-- DESCRIPTOR_END: the current descriptor has ended; the channel goes on in its list, or to its next slot (R389, R390). -/
def Device.descriptorEnd (d : Device) (ch : Nat) : Device :=
  let x := d.currentDesc ch
  if !d.busyOf ch || d.porterHeld ch || !d.descMoved ch x then d
  else if (d.chan ch).rota then
    let d2 := d.listOn ch
    let slot := d.slotOf ch x
    let stream := srcAddr x slot % 512
    if dSsp x = 3 ∧ !d2.readsLeft stream slot then d2.frameReadEnd stream else d2
  else
    let d2 := ((d.setBusy ch false).setPorterPc ch (d.pcOf ch + 1)).freeFetch ch
    if (d2.chan ch).run.isSome then d2.descBegin ch else d2

def execDescriptorEnd (ch : Nat) (s : State) : Host.Outcome State Fault Refusal :=
  s.act (Instr.wf (.descriptorEnd ch)) (fun d => d.descriptorEnd ch)

/-- PORTER_MOVE: what one cycle moves: up to 32 bytes, or one packed word of the egress basket whose verdict it gathers (R387). -/
def Device.porterMove (d : Device) (ch : Nat) : Device :=
  let c := d.chan ch
  if d.porterHeld ch || !d.busyOf ch || d.haltedOf ch || decide (c.movedAt = some d.now) then d
  else
    let d1 := d.setChan ch { c with movedAt := some d.now }
    let x := d1.currentDesc ch
    if d1.porterBarred ch x then d1.porterHalt ch 4
    else if c.rota && dEgress x then d1.gather (srcAddr x (d1.slotOf ch x) % 320)
    else (List.range (dBudget x)).foldl (fun a _ => a.moveWord ch x) (d1.dataCame ch)

def execPorterMove (ch : Nat) (s : State) : Host.Outcome State Fault Refusal :=
  s.act (Instr.wf (.porterMove ch)) (fun d => d.porterMove ch)

/-- LATE_DATA: a running rota descriptor that has room at its destination lacks its next word, and asks for the hush (R391). -/
def Device.lateData (d : Device) (ch : Nat) : Device :=
  let c := d.chan ch
  let x := d.currentDesc ch
  if !c.rota || dEgress x || !d.busyOf ch || d.haltedOf ch || d.bell.hushed || decide (dLength x ≤ c.moved) || !c.emit.isEmpty
      || !d.destRoom ch x then d
  else (((d.setB PRT ch 0x010 4 true).count32 PRT ch 0x034).raise PRT ch 3).hushRequest 4

def execLateData (ch : Nat) (s : State) : Host.Outcome State Fault Refusal :=
  s.act (Instr.wf (.lateData ch)) (fun d => d.lateData ch)

end Sys2Proof.Machine
end

