-- ==== Sys2Proof/Machine/Verdicts.lean ====
section
/-! DEFINITION. The delivery of verdicts: flags and sequence (R519 to R523), host rings (R513 to R518) and the handover to the Crier
(R453). -/

namespace Sys2Proof.Machine

/-! ### Host rings -/

/-- Free positions of a ring; a doorbell of this cycle counts from the next (R516). -/
def Ring.freePos (r : Ring) (now : Nat) : Nat :=
  let ci := if r.ciAt = some now then r.ciWas else r.ci
  2 ^ r.size - (r.pi + 2 ^ 32 - ci) % 2 ^ 32

/-- A ring's message, and its verdicts count as signalled (R518). -/
def Device.ringSignal (d : Device) (n : Nat) : Device :=
  (d.setRing n { d.ring n with unsignalled := 0 }).msix (d.ring n).vector

/-- The PHASE of position `p` (R515). -/
def Ring.phase (r : Ring) (p : Nat) : Nat := if p / 2 ^ r.size % 2 = 0 then 1 else 0

/-- One descriptor, as an aligned 64-byte write (R515). -/
def Device.ringPut (d : Device) (n : Nat) (bytes : List Byte) : Device :=
  let r := d.ring n
  (d.emit (.hostWrite (r.addr + 64 * (r.pi % 2 ^ r.size)) bytes)).setRing n { r with pi := (r.pi + 1) % 2 ^ 32 }

/-- What a verdict says (R513). -/
structure VerdictOut where
  stream : Nat
  slot : Nat
  flags : Nat
  egress : Nat
  seq : Nat
  bell : Nat
  ts : Nat
  rtp : Word
  rounds : Nat
  gen : BitVec 2
  words : List PWord
  deriving DecidableEq, Repr

/-- LEN (R514). -/
def VerdictOut.len (v : VerdictOut) : Nat :=
  match v.words.getLast? with
  | none => 0
  | some w => 8 * (v.words.length - 1) + w.vb

/-- NDESC (R514). -/
def VerdictOut.ndesc (v : VerdictOut) : Nat := 1 + (v.words.length - 1 + 6) / 7

/-- A payload word as it is delivered: bytes beyond LEN are 0. -/
def payBytes (w : PWord) : List Byte := padTo 8 ((bytesOf w.data).take w.vb)

/-- A map with bit k for payload word k. -/
def wordMap (l : List PWord) (f : PWord → Bool) : Nat := (l.zipIdx).foldl (fun a wk => if f wk.1 then a + 2 ^ wk.2 else a) 0

/-- The head descriptor (R513). -/
def VerdictOut.head (v : VerdictOut) (phase drops : Nat) : List Byte :=
  leBytes 1 (phase * 128) ++ leBytes 1 v.ndesc ++ leBytes 2 v.stream ++ leBytes 2 v.slot ++ leBytes 2 v.flags ++ leBytes 2 v.len
    ++ leBytes 2 v.egress ++ leBytes 2 v.seq ++ leBytes 2 drops ++ leBytes 8 v.bell ++ leBytes 8 v.ts ++ leBytes 4 v.rtp.toNat
    ++ leBytes 2 (min v.rounds 65535) ++ leBytes 1 v.gen.toNat ++ leBytes 1 0 ++ leBytes 8 (wordMap v.words (fun w => w.spoil))
    ++ leBytes 8 (wordMap v.words (fun w => w.fin)) ++ (match v.words with | [] => List.replicate 8 0 | w :: _ => payBytes w)

/-- Continuation `i`, from 1 (R514). -/
def VerdictOut.cont (v : VerdictOut) (phase i : Nat) : List Byte :=
  leBytes 1 (phase * 128 + 64) ++ leBytes 1 i ++ List.replicate 6 0
    ++ padTo 56 (((v.words.drop (7 * (i - 1) + 1)).take 7).flatMap payBytes)

/-- A verdict goes to a ring whole, or is dropped whole (R516). -/
def Device.ringDeliver (d : Device) (n : Nat) (v0 : VerdictOut) : Bool × Device :=
  let r := d.ring n
  let v := { v0 with flags := v0.flags + (if 0 < r.drops then 2 ^ 10 else 0) }
  if !r.enabled || decide (r.freePos d.now < v.ndesc) then
    let d1 := (d.setRing n { r with drops := min 65535 (r.drops + 1), dropLogged := true }).count32 HST 0 0x030
    let d2 := d1.raise HST 0 0
    (false, if r.dropLogged then d2 else d2.log 0xB306 HST 0 0 (n + v.stream % 512 * 2 ^ 16))
  else
    let d1 := d.ringPut n (v.head (r.phase r.pi) r.drops)
    let d2 := (List.range (v.ndesc - 1)).foldl (fun a i => a.ringPut n (v.cont ((a.ring n).phase (a.ring n).pi) (i + 1))) d1
    let q := d2.ring n
    let d3 := d2.setRing n { q with drops := 0, dropLogged := false, unsignalled := q.unsignalled + 1, firstAt := if q.unsignalled = 0 then d.now else q.firstAt }
    (true, if max 1 q.coalCnt ≤ q.unsignalled + 1 then d3.ringSignal n else d3)

/-! ### The verdict of a slot -/

/-- Is a slot's verdict ready to go: voided, or gathered whole (R248)? -/
def Device.dueReady (d : Device) (q : Due) : Bool := q.cause.isSome || decide (q.packets ≤ (d.egress q.egress).got)

/-- The oldest slot owed on a basket (R523). -/
def Device.firstDue (d : Device) (e : Nat) : Option Due := d.bell.owing.find? (fun q => decide (q.egress = e))

/-- The one cause of a void verdict (R519); NO_FRAME and OVERSIZE show when the slot was not voided otherwise. -/
def Device.dueCause (d : Device) (q : Due) : Option Nat :=
  match q.cause with
  | some c => some c
  | none =>
    if (match q.pick with | some p => p.none_ | none => false) then some 5
    else if (d.egress q.egress).oversize then some 11 else none

/-- Is it the stream's first verdict after a completion bell (R327)? A void at the load is of the old image. -/
def Device.markLoad (d : Device) (q : Due) (cause : Option Nat) : Bool :=
  decide (0 < d.bell.loadRounds) && decide (q.stream ∉ d.bell.loadMark) && decide (cause ≠ some 4)

/-- The verdict of a slot, but for the bits that its ring adds (R513, R519, R521). -/
def Device.verdictOf (d : Device) (q : Due) : VerdictOut :=
  let cause := d.dueCause q
  let words := if cause.isSome then [] else (d.egress q.egress).staging
  let mark := d.markLoad q cause
  let frame := match q.pick with | some p => if p.none_ then none else some p | none => none
  let gap := cause.isNone && decide (512 * q.egress + q.stream ∈ d.bell.gaps)
  let flags := (match cause with | some c => 1 + 2 ^ c | none => 0) + 2 * b2n (words.any (fun w => w.spoil))
    + (if mark then 2 ^ 4 + min 15 d.bell.loadRounds * 2 ^ 12 else 0)
    + 2 ^ 6 * b2n (match frame with | some p => p.again | none => false) + 2 ^ 7 * b2n gap + 2 ^ 8 * b2n q.cal
    + 2 ^ 9 * b2n (match frame with | some p => p.norm | none => false)
  { stream := q.stream, slot := q.slot, flags := flags, egress := q.egress, seq := q.seq, bell := q.bell,
    ts := (match frame with | some p => p.ts | none => 0), rtp := (match frame with | some p => p.rtp | none => 0),
    rounds := if mark then d.bell.loadRounds else 0, gen := q.gen, words := words }

/-- Deliver the verdict of the oldest slot owed on its basket (R248, R390, R520, R523). -/
def Device.deliverDue (d : Device) (q : Due) : Device :=
  let v := d.verdictOf q
  let key := 512 * q.egress + q.stream
  let r := if q.dsp = 5 then d.ringDeliver (q.daddr % 4096) v
    else (true, { d with crier := { d.crier with handed := d.crier.handed ++
      [.verdict (q.daddr % 4) (fld q.daddr 2 6) v.stream v.slot v.flags v.bell v.ts v.rtp
        ((v.words.flatMap (fun w => bytesOf w.data)).take v.len)] } })
  let b := r.2.bell
  let complete := r.1 && decide (v.flags % 2 = 0)
  let gaps := if complete then dropAll key b.gaps else insertNew key b.gaps
  let mark := if d.markLoad q (d.dueCause q) then insertNew q.stream b.loadMark else b.loadMark
  let d1 := { r.2 with bell := { b with owing := b.owing.erase q, gaps := gaps, loadMark := mark } }
  d1.dropGathered q.egress

/-- Deliver what is ready on one basket, the oldest slot first. -/
def Device.deliverEgress (d : Device) (e : Nat) : Device :=
  match d.firstDue e with
  | some q => if d.dueReady q then d.deliverDue q else d
  | none => d

/-- VERDICT_DELIVER: the oldest slot owed on each basket of the channel, where it is ready. -/
def Device.verdictDeliver (d : Device) (ch : Nat) : Device :=
  if d.bell.hushed then d else (d.egressesOf ch).foldl (fun a e => a.deliverEgress e) d

def execVerdictDeliver (ch : Nat) (s : State) : Host.Outcome State Fault Refusal :=
  s.act (Instr.wf (.verdictDeliver ch)) (fun d => d.verdictDeliver ch)

/-- Void every slot that is owed and not yet void, with one cause (R250, R317). -/
def Device.voidOwing (d : Device) (cause : Nat) : Device :=
  { d with bell := { d.bell with owing := d.bell.owing.map (fun q =>
      if q.cause.isNone then { q with cause := some cause } else q) } }

end Sys2Proof.Machine
end

