-- ==== Sys2Proof/Machine/Scrub.lean ====
section
/-! DEFINITION. Refresh (R397), the patrol reader (R398), the scrubber with its trackers and promotions (R404 to R409, R589), and the
Ledger ring (R412 to R415, R423). -/

namespace Sys2Proof.Machine

/-! ### Refresh -/

/-- The channel of a usable byte address, and its ECC group in the channel (R394). -/
def sthChannel (a : Nat) : Nat := a / 128 % 6
def sthGroup (a : Nat) : Nat := a / 128 / 6 / 7

/-- The model's number of a DRAM bank of a channel, one for each pair. -/
def bankNo (chan bank : Nat) : Nat := chan + 6 * bank

/-- DRAM bank of a usable byte address: consecutive groups of a channel fall in consecutive banks (R394). PRESUMED (assumption 119): a channel has
16 banks, as LPDDR5X has. -/
def dramBank (a : Nat) : Nat := bankNo (sthChannel a) (sthGroup a % 16)

/-- Usable byte addresses that a porter channel is to access next: where its descriptor reads, and where a word that it has fetched goes. -/
def Device.sthWanted (d : Device) (ch : Nat) : List Nat :=
  let c := d.chan ch
  let x := d.currentDesc ch
  let a := srcAddr x (d.slotOf ch x)
  let ofs := if dCodec x ≠ 0 ∧ dDecode x then
      c.moved / 4096 * crateGroup (dCodec x - 1) + 64 + c.moved / 64 % 64 * cratePay (dCodec x - 1) else c.moved
  let from_ := if decide (dLength x ≤ c.moved) || !c.emit.isEmpty then []
    else if dSsp x = 1 then [a + ofs]
    else if dSsp x = 3 then
      (match c.run.bind (fun r => d.pickFor r.bell (a % 512)) with
        | some k => if k.none_ then [] else [(d.stream (a % 512)).bufAddr k.buffer + a / 4096 + ofs]
        | none => [])
    else []
  from_ ++ (if dDsp x = 1 ∧ !c.emit.isEmpty then [dstAddr x (d.slotOf ch x) + 8 * c.emitted] else [])

/-- Is a rota access to a DRAM bank pending (R397)? -/
def Device.rotaWaits (d : Device) (bank : Nat) : Bool :=
  (List.range 64).any (fun ch => (d.chan ch).rota && d.busyOf ch && !d.haltedOf ch && (d.sthWanted ch).any (fun a => decide (dramBank a = bank)))

/-- PER_BANK_REFRESH: postponed while a rota access to the bank is pending, up to 8; then it collides, and source 0 asks for the hush (R397). -/
def Device.perBankRefresh (d : Device) (chan bankOf : Nat) : Device :=
  let bank := bankNo chan bankOf
  let n := KMap.get d.sth.postponed bank 0
  let put := fun (a : Device) v => { a with sth := { a.sth with postponed := KMap.set a.sth.postponed bank v 0 } }
  if !d.rotaWaits bank then put d 0
  else if n < 8 then put d (n + 1)
  else
    let d1 := ((d.raise STH 0 2).count16 STH 0 0x038).hushRequest 0
    { d1 with sth := { d1.sth with collideAt := some d.now } }

def execPerBankRefresh (chan bank : Nat) (s : State) : Host.Outcome State Fault Refusal :=
  s.act (Instr.wf (.perBankRefresh chan bank)) (fun d => d.perBankRefresh chan bank)

/-- A collision holds its request for at most 80 cycles (R397). -/
def Device.collideTick (d : Device) : Device :=
  match d.sth.collideAt with
  | none => d
  | some t =>
    let d1 := { d with sth := { d.sth with collideAt := none } }
    if 0 ∉ d.bell.reqs then d1 else if t + 80 ≤ d.now then d1.hushDrop 0 else d

/-- STOREHOUSE_DERATE: the DRAM asks for doubled refresh, or no longer does (R397). -/
def execStorehouseDerate (on : Bool) (s : State) : Host.Outcome State Fault Refusal :=
  s.act (Instr.wf (.storehouseDerate on)) (fun d => d.setB STH 0 0x010 1 on)

/-! ### The patrol reader -/

/-- CE_WARN (R601). -/
def Device.ceWarn (d : Device) : Nat := d.rf RSV 0 0x10C 20 8

/-- WEAR_WARN for the Storehouse: corrections of one patrol period (R589). -/
def Device.patrolWear (d : Device) : Device :=
  let n := d.sth.patrolHits + 1
  let d1 := { d with sth := { d.sth with patrolHits := n } }
  if n = 64 * d.ceWarn then (d1.raise RSV 0 3).log 0xB702 RSV 0 0 (2 ^ 15) else d1

/-- LAST_ERR of the Storehouse (R419). -/
def Device.sthLast (d : Device) (addr : Nat) (bits : Nat) : Device :=
  (d.setN STH 0 0x100 (addr / 8 * 8 % 2 ^ 32)).setN STH 0 0x104 (addr / 2 ^ 32 % 256 + bits * 256)

/-- PATROL_READ: a word is treated as the scrubber treats it (R398, R405). A visit below the last one begins a new period; none comes before
PREP_DONE (R613). -/
def Device.patrolRead (d : Device) (addr : Nat) : Device :=
  if d.rf STH 0 0x108 0 8 = 0 ∨ d.sthBytes ≤ addr ∨ !d.rb CLK 0 0x180 8 then d
  else
    let d0 := { d with sth := { d.sth with patrolHits := (if addr < d.sth.patrolLast then 0 else d.sth.patrolHits), patrolLast := addr } }
    let r := decodeWord (KMap.get d0.sth.mem (addr / 8) 0)
    if r.ce then
      ((((d0.sthPutCode addr (encodeWord r.data false) true).count16 STH 0 0x030).raise STH 0 0).sthLast addr 2).patrolWear.log
        0xA009 STH 0 0 (addr / 8 * 8 % 2 ^ 40 + r.bit * 2 ^ 56)
    else if r.ue then
      (((d0.sthPutCode addr (encodeWord r.data true) true).count16 STH 0 0x034).raise STH 0 1).sthLast addr 3 |>.log
        0xA00A STH 0 0 (addr / 8 * 8 % 2 ^ 40)
    else d0

def execPatrolRead (addr : Nat) (s : State) : Host.Outcome State Fault Refusal :=
  s.act (Instr.wf (.patrolRead addr)) (fun d => d.patrolRead addr)

/-! ### Trackers (R407) -/

/-- The tracker after one correction of a word in pass `pass`: the entries, and whether the word is promoted, or finds no entry. -/
def trackHit (cap pass addr : Nat) (l : List Track) : List Track × Bool × Bool :=
  match l.find? (fun t => decide (t.addr = addr)) with
  | some t =>
    if 3 ≤ t.count + 1 then (dropTrack l addr, true, false)
    else (l.map (fun x => if x.addr = addr then { x with count := x.count + 1 } else x), false, false)
  | none => if l.length < cap then (l ++ [⟨addr, 1, pass⟩], false, false) else (l, false, true)

/-- Entries 64 passes old are freed. -/
def ageTracks (pass : Nat) (l : List Track) : List Track := l.filter (fun t => decide (pass < t.pass + 64))

/-- The first spare word of a table that no entry names. -/
def freeSpare (n : Nat) (l : List Remap) : Option Nat := (List.range n).find? (fun s => l.all (fun r => decide (r.spare ≠ s)))

/-- A pending remap entry, as a twin word (R408). -/
def newRemap (addr spare : Nat) : Remap :=
  let w : Word := BitVec.ofNat 32 (addr % 2 ^ 17 + 2 ^ 30)
  ⟨w, ~~~w, spare⟩

/-- Passes of the corrections of the last 64 passes, this one included (R589). -/
def hitsAfter (pass : Nat) (l : List Nat) : List Nat := (l.filter (fun p => decide (pass < p + 64))) ++ [pass]

/-! ### The scrubber -/

def Device.scrubPass (d : Device) : Nat := d.regN LDG 0 0x128

/-- A promotion in a stall store, or REMAP_EXHAUSTED and the stall's retirement (R408, R409). -/
def Device.promoteStall (d : Device) (p wa : Nat) (c : CodeWord) : Device :=
  match freeSpare 8 (d.stall p).remaps with
  | some s =>
    let d1 := d.updStall p (fun t => { t with remaps := t.remaps ++ [newRemap wa s] })
    { d1 with storeSpare := KMap.set d1.storeSpare (8 * p + s) c 0 }.log 0xA00D STL p (d.whereP p 0 0 0 0) (wa + s * 2 ^ 16)
  | none => (d.log 0xA00E STL p (d.whereP p 0 0 0 0) wa).candidate ⟨0, p⟩ 1

/-- One word of a stall store is read by the scrubber (R405, R407). -/
def Device.scrubStall (d : Device) (p wa : Nat) : Device :=
  let r := decodeWord (d.storeCode p wa)
  let loc := d.whereP p 0 0 0 0
  if r.ce then
    let c := encodeWord r.data false
    let d1 := (d.storePutCode p wa c).log 0xA009 STL p loc (wa + r.bit * 2 ^ 56)
    let t := trackHit 4 d.scrubPass wa (d1.stall p).tracks
    let d2 := d1.updStall p (fun s => { s with tracks := t.1 })
    let d3 := if t.2.2 then d2.log 0xA00C STL p loc wa else d2
    let d4 := if t.2.1 then d3.promoteStall p wa c else d3
    let h := hitsAfter d.scrubPass (KMap.get d4.scrub.stallHits p [])
    let d5 := { d4 with scrub := { d4.scrub with stallHits := KMap.put d4.scrub.stallHits p h } }
    if d.ceWarn ≤ h.length then d5.bistPending (stallOsc p) else d5
  else if r.ue then (d.storePutCode p wa (encodeWord r.data true)).log 0xA00A STL p loc wa
  else d

/-- The corrected form of a stored codeword: what a promotion copies. -/
def corrected (c : CodeWord) : CodeWord :=
  let r := decodeWord c
  if r.ce then encodeWord r.data false else c

/-- A promotion in a Depot bank, or REMAP_EXHAUSTED and the bank's replacement (R408, R409). -/
def Device.promoteDepot (d : Device) (b word : Nat) : Device :=
  let rs := KMap.get d.depot.remaps b []
  match freeSpare 32 rs with
  | some s =>
    let d1 := (List.range 8).foldl (fun a lane =>
      { a with depot := { a.depot with spares := KMap.set a.depot.spares ((b * 32 + s) * 8 + lane) (corrected (a.depotCode b word lane)) 0 } }) d
    let d2 := { d1 with depot := { d1.depot with remaps := KMap.put d1.depot.remaps b (rs ++ [newRemap word s]) } }
    (d2.raise DEP b 3).log 0xA00D DEP b 0 (word + s * 2 ^ 16)
  | none => ((d.raise DEP b 4).log 0xA00E DEP b 0 word).candidate ⟨1, b⟩ 2

/-- One lane of a Depot bank is read by the scrubber. -/
def Device.scrubDepot (d : Device) (b word lane : Nat) : Device :=
  let r := decodeWord (d.depotCode b word lane)
  if r.ce then
    let d1 := ((d.depotPutCode b word lane (encodeWord r.data false)).count16 DEP b 0x038).setN DEP b 0x100 (lastErr word lane false true)
    let d2 := d1.log 0xA009 DEP b 0 (word + lane * 2 ^ 56)
    let t := trackHit 16 d.scrubPass word (KMap.get d2.depot.tracks b [])
    let d3 := { d2 with depot := { d2.depot with tracks := KMap.put d2.depot.tracks b t.1 } }
    let d4 := if t.2.2 then d3.log 0xA00C DEP b 0 word else d3
    let d5 := if t.2.1 then d4.promoteDepot b word else d4
    let h := hitsAfter d.scrubPass (KMap.get d5.depot.hits b [])
    let d6 := { d5 with depot := { d5.depot with hits := KMap.put d5.depot.hits b h } }
    if 16 * d.ceWarn ≤ h.length then d6.bistPending (673 + b) else d6
  else if r.ue then
    ((((d.depotPutCode b word lane (encodeWord r.data true)).count16 DEP b 0x03C).raise DEP b 2).setN DEP b 0x100
      (lastErr word lane true true)).log 0xA00A DEP b 0 word
  else d

/-- The bit that a syndrome of a Clerk SRAM word names: data bit 0 to 31, or check bit 32 to 38 (R378, assumption 50). -/
def clerkBit (s : BitVec 7) : Option Nat :=
  (List.range 39).find? (fun i => if i < 32 then decide (Config.clerkCol i = s) else decide (s.toNat = 2 ^ (i - 32)))

/-- One word of the Clerk SRAM is read by the scrubber (R404, R405); the spoiled form is that of R383 with its 7 check bits. DESIGN CHOICE (assumption
50): its events stand under the CLK page. -/
def Device.scrubClerk (d : Device) (addr : Nat) : Device :=
  let w : BitVec 39 := KMap.get d.clerk addr 0
  let syn : BitVec 7 := (w >>> 32).setWidth 7
  if syn = 0 ∨ syn = 0x7F then d
  else match clerkBit syn with
    | some i =>
      let v : Word := if i < 32 then w.setWidth 32 ^^^ BitVec.ofNat 32 (2 ^ i) else w.setWidth 32
      { d with clerk := KMap.set d.clerk addr (v.setWidth 39) 0 }.log 0xA009 CLK 0 0 (4 * addr + i * 2 ^ 56)
    | none => { d with clerk := KMap.set d.clerk addr ((0x7F : BitVec 7) ++ w.setWidth 32 : BitVec 39) 0 }.log 0xA00A CLK 0 0 (4 * addr)

/-- SCRUB_READ: the word the scrubber reads, in a bank cycle that nothing else takes; or the end of a pass (R404). It does not run before
PREP_DONE (R613). -/
def Device.scrubRead (d : Device) (loc : ScrubLoc) : Device :=
  if !d.rb LDG 0 0x120 0 || !d.rb CLK 0 0x180 8 then d
  else match loc with
    | .stallWord p wa =>
      let c := d.claimUnder p (d.afterPrio4 p) [wa % 8]
      if c.1 then c.2.scrubStall p wa else d
    | .depotLane b word lane => d.scrubDepot b word lane
    | .clerkWord a => d.scrubClerk a
    | .program p k pc =>
      let w := (KMap.get d.prog ((8 * p + k) * 256 + pc) 0).toNat
      if parityOf 33 w then d.log 0xA00B STL p (d.whereP p 0 0 k 0) (k * 256 + pc) else d
    | .lut p copy i => if (copy, i) ∈ (d.stall p).lutBad then d.log 0xA00B STL p (d.whereP p 0 0 0 0) (2 ^ 62 + i) else d
    | .passEnd =>
      let pass := (d.scrubPass + 1) % 2 ^ 32
      let d1 := (d.setN LDG 0 0x128 pass).raise LDG 0 2
      { d1 with stalls := d1.stalls.map (fun kv => (kv.1, { kv.2 with tracks := ageTracks pass kv.2.tracks })),
                depot := { d1.depot with tracks := d1.depot.tracks.map (fun kv => (kv.1, ageTracks pass kv.2)) } }

def execScrubRead (loc : ScrubLoc) (s : State) : Host.Outcome State Fault Refusal :=
  s.act (Instr.wf (.scrubRead loc)) (fun d => d.scrubRead loc)

/-! ### The Ledger ring -/

/-- A Ledger entry's 32 bytes (R413). -/
def LdgEntry.toBytes (e : LdgEntry) : List Byte :=
  leBytes 8 e.bell ++ leBytes 3 e.cycle ++ [0] ++ leBytes 2 e.code ++ [0, 0] ++ leBytes 4 e.page.toNat ++ leBytes 4 e.where_.toNat
    ++ leBytes 8 e.detail.toNat

/-- LEDGER_ENTRY_WRITE: the oldest waiting entry reaches the ring; a full ring loses its oldest (R412, R414). -/
def Device.ledgerEntryWrite (d : Device) : Device :=
  let size := d.rf LDG 0 0x104 0 5
  match d.ledger.waiting with
  | [] => d
  | e :: rest =>
    if size = 0 then d
    else
      let head := d.regN LDG 0 0x108
      let tail := d.regN LDG 0 0x10C
      let d1 := { d with ledger := { d.ledger with waiting := rest } }
      let d2 := if 2 ^ size ≤ (head + 2 ^ 32 - tail) % 2 ^ 32 then
          ((d1.setN LDG 0 0x10C ((tail + 1) % 2 ^ 32)).count16 LDG 0 0x030).raise LDG 0 1
        else d1
      let off := d.rf LDG 0 0x100 16 11 * 65536 + 32 * (head % 2 ^ size)
      ((d2.depotWrite (off % 2 ^ 27) e.toBytes false).setN LDG 0 0x108 ((head + 1) % 2 ^ 32)).raise LDG 0 0

def execLedgerEntryWrite (s : State) : Host.Outcome State Fault Refusal :=
  s.act (Instr.wf .ledgerEntryWrite) Device.ledgerEntryWrite

/-- LDG_SW_CODE: an event of firmware, with the DETAIL it has written (R415, R423). Its PAGE and WHERE are not stated: free values. -/
def Device.ldgSwCode (d : Device) (code : Nat) : Device :=
  if 0xF000 ≤ code then
    d.useFree.logAt d.bellCount code (d.free.setWidth 32) ((d.free >>> 32).setWidth 32) (d.reg LDG 0 0x118 ++ d.reg LDG 0 0x114)
  else d

def execLdgSwCode (code : BitVec 16) (s : State) : Host.Outcome State Fault Refusal :=
  s.act (Instr.wf (.ldgSwCode code)) (fun d => d.ldgSwCode code.toNat)

end Sys2Proof.Machine
end

