-- ==== Sys2Proof/Machine/Image.lean ====
section
/-! DEFINITION. What the loader reads in a rota image: the records of a chip (R305 to R308), the symbol table (R311, R560),
relocation (R310, R312, R639), and what a load finds wrong (R348, R350). -/

namespace Sys2Proof

/-- A finding of the loader: the page whose fault registers hold it, its value and FAULT_WHERE (R350). -/
structure LoadFault where
  block : Nat
  unit : Nat
  code : Nat
  loc : Word
  deriving DecidableEq, Repr

open Sys2Proof.Machine

/-! ### The records of a chip -/

/-- TYPE of a section (R306). -/
def SectionBody.code : SectionBody → Nat
  | .market _ => 1
  | .require _ => 2
  | .stall _ => 3
  | .store _ => 4
  | .program _ => 5
  | .lut _ => 6
  | .route _ => 7
  | .geometry _ => 8
  | .egress _ => 9
  | .porter _ => 10
  | .depot _ => 11
  | .reloc _ => 12
  | .aisle _ => 13
  | .trestle _ => 14
  | .reportId _ => 15
  | .reserved => 0

/-- Records of a section (R305). -/
def SectionBody.count : SectionBody → Nat
  | .market _ => 1
  | .require _ => 1
  | .stall l => l.length
  | .store l => l.length
  | .program l => l.length
  | .lut l => l.length
  | .route l => l.length
  | .geometry l => l.length
  | .egress l => l.length
  | .porter l => l.length
  | .depot l => l.length
  | .reloc l => l.length
  | .aisle l => l.length
  | .trestle _ => 1
  | .reportId _ => 1
  | .reserved => 0

/-- Does a directory entry say what its section is: TYPE, COUNT, and a start on a 64-byte boundary (R304, R305)? -/
def Section.entryOk (s : Section) : Bool :=
  decide (s.type = s.body.code) && decide (s.count = s.body.count % 2 ^ 32) && decide (s.offset % 64 = 0)

/-- Each record of a chip with the directory entry of its section. -/
def Image.pick {α : Type} (img : Image) (chip : Nat) (f : SectionBody → List α) : List (Nat × α) :=
  (sectionsFor img chip).flatMap (fun s => (f s.2.body).map (fun r => (s.1, r)))

def Image.market (img : Image) (chip : Nat) : Option (Nat × MarketRec) :=
  (img.pick chip (fun b => match b with | .market r => [r] | _ => [])).head?
def Image.require (img : Image) (chip : Nat) : Option (Nat × RequireRec) :=
  (img.pick chip (fun b => match b with | .require r => [r] | _ => [])).head?
def Image.stalls (img : Image) (chip : Nat) : List (Nat × StallRec) :=
  img.pick chip (fun b => match b with | .stall l => l | _ => [])
def Image.stores (img : Image) (chip : Nat) : List (Nat × StoreRun) :=
  img.pick chip (fun b => match b with | .store l => l | _ => [])
def Image.programs (img : Image) (chip : Nat) : List (Nat × ProgramRec) :=
  img.pick chip (fun b => match b with | .program l => l | _ => [])
def Image.luts (img : Image) (chip : Nat) : List (Nat × LutRec) :=
  img.pick chip (fun b => match b with | .lut l => l | _ => [])
def Image.routes (img : Image) (chip : Nat) : List (Nat × Route) :=
  img.pick chip (fun b => match b with | .route l => l | _ => [])
def Image.geometries (img : Image) (chip : Nat) : List (Nat × Geometry) :=
  img.pick chip (fun b => match b with | .geometry l => l | _ => [])
def Image.egresses (img : Image) (chip : Nat) : List (Nat × EgressRec) :=
  img.pick chip (fun b => match b with | .egress l => l | _ => [])
def Image.porters (img : Image) (chip : Nat) : List (Nat × PorterRec) :=
  img.pick chip (fun b => match b with | .porter l => l | _ => [])
def Image.depots (img : Image) (chip : Nat) : List (Nat × DepotRec) :=
  img.pick chip (fun b => match b with | .depot l => l | _ => [])
def Image.relocs (img : Image) (chip : Nat) : List (Nat × RelocRec) :=
  img.pick chip (fun b => match b with | .reloc l => l | _ => [])
def Image.aisle (img : Image) (chip : Nat) : List (Nat × Nat) :=
  img.pick chip (fun b => match b with | .aisle l => l.map (fun r => r.toNat) | _ => [])
def Image.trestle (img : Image) (chip : Nat) : Option (Nat × TrestleSec) :=
  (img.pick chip (fun b => match b with | .trestle t => [t] | _ => [])).head?

/-- ROWS of the MARKET record. -/
def Image.rows (img : Image) (chip : Nat) : Nat := match img.market chip with | some m => m.2.rows | none => 0

/-- The STALL record of a logical stall. -/
def Image.stallAt (img : Image) (chip row col : Nat) : Option StallRec :=
  ((img.stalls chip).find? (fun s => decide (s.2.row = row ∧ s.2.col = col))).map (fun s => s.2)

/-- Is context `k` in use (R308)? -/
def StallRec.uses (s : StallRec) (k : Nat) : Bool := decide (k < 8) && tb s.ctxUsed k

/-- The contexts in use, with their records. -/
def StallRec.contexts (s : StallRec) : List (Nat × CtxRecord) :=
  (List.range 8).filterMap (fun k => if s.uses k then (s.ctxRecs.find? (fun c => c.1 == k)) else none)

/-- The line-buffer declaration of a context. -/
def StallRec.decl (s : StallRec) (k : Nat) : Option LbDecl := (s.lbDecls.find? (fun c => c.1 == k)).map (fun c => c.2)

/-- The program of a context. -/
def Image.programOf (img : Image) (chip row col k : Nat) : List Nat :=
  match (img.programs chip).find? (fun p => decide (p.2.row = row ∧ p.2.col = col ∧ p.2.ctx = k)) with
  | some p => p.2.code.map (fun w => w.toNat)
  | none => []

/-- LENGTH of the program of a context, where there is one. -/
def Image.codeLen (img : Image) (chip row col k : Nat) : Option Nat :=
  ((img.programs chip).find? (fun p => decide (p.2.row = row ∧ p.2.col = col ∧ p.2.ctx = k))).map (fun p => p.2.code.length)

/-- The directory entry of a section of a TYPE, or 0x1FF where there is none. -/
def Image.entryOf (img : Image) (chip code : Nat) : Nat :=
  match (sectionsFor img chip).find? (fun s => s.2.body.code == code) with
  | some s => s.1
  | none => 0x1FF

/-! ### Findings -/

/-- FORMAT, with the directory entry (R350). -/
def formatFault (entry : Nat) : LoadFault := ⟨CLK, 0, 0x1001, whereWord 0 0 0 0 0 entry⟩

/-- A resource refusal (R314). -/
def resFault (code : Nat) : LoadFault := ⟨CLK, 0, code, 0⟩

/-- `f` finds something when `bad` holds. -/
def findWhen (bad : Bool) (f : LoadFault) : Option LoadFault := if bad then some f else none

/-- The first finding of several checks. -/
def firstOf (l : List (Option LoadFault)) : Option LoadFault := l.findSome? id

namespace Machine

/-- The page of a logical stall for a finding: before the first load the map that the load would put in force counts. -/
def Device.pageOf (d : Device) (row col : Nat) : Nat :=
  (({ d with reserve := { d.reserve with mapped := true } }.physOf row col).getD (100 * row + col)) % 6400

/-- A finding about a stall (R350). -/
def Device.stallFinding (d : Device) (code row col lane slot ctx index : Nat) : LoadFault :=
  ⟨STL, d.pageOf row col, code, whereWord row col lane slot ctx index⟩

/-- A finding about a route or an arcade setting (R210). -/
def Device.arcFinding (d : Device) (code row col lane slot index : Nat) : LoadFault :=
  ⟨ARC, d.pageOf row col, code, whereWord row col lane slot 0 index⟩

/-! ### Symbols (R311, R560) -/

/-- The symbol table as the loader copies it: 64 entries at LOAD_BIND, with CHIP filled in. -/
def Device.copyBind (d : Device) : List DWord × Device :=
  let r := d.depotReadBytes (d.rf CLK 0 0x108 12 15 * 4096) 512
  let l := (List.range 64).map (fun i => if i = 3 then BitVec.ofNat 64 d.chipIndex else wordOf ((r.1.drop (8 * i)).take 8))
  (l, r.2.2)

/-- The value of a symbol. -/
def symValue (bind : List DWord) (s : Nat) : Nat := (bind.getD s 0).toNat

end Machine

/-! ### Words that a relocation record names (R639) -/

/-- A word of the PORTER section: record, descriptor, word. Heads are no target. -/
def locPorter : List PorterRec → Nat → Nat → Option (Nat × Nat × Nat)
  | [], _, _ => none
  | r :: rest, i, a =>
    if a = 0 then none
    else if a ≤ 4 * r.descs.length then some (i, (a - 1) / 4, (a - 1) % 4)
    else locPorter rest (i + 1) (a - 1 - 4 * r.descs.length)

/-- A word of the DEPOT section: record, word. -/
def locDepot : List DepotRec → Nat → Nat → Option (Nat × Nat)
  | [], _, _ => none
  | r :: rest, i, a =>
    let n := (r.data.length + 7) / 8
    if a = 0 then none else if a ≤ n then some (i, a - 1) else locDepot rest (i + 1) (a - 1 - n)

/-- Change the records of the sections of a chip. -/
def Image.mapBodies (img : Image) (chip : Nat) (f : SectionBody → SectionBody) : Image :=
  { img with sections := img.sections.map (fun s =>
      if s.chip = chip ∨ s.chip = 0xFFFF then { s with body := f s.body } else s) }

/-- The PORTER section of a chip; and the first DEPOT section, which target 3 counts in. -/
def Image.porterSection (img : Image) (chip : Nat) : List PorterRec :=
  ((sectionsFor img chip).findSome? (fun s => match s.2.body with | .porter l => some l | _ => none)).getD []
def Image.depotSection (img : Image) (chip : Nat) : List DepotRec :=
  ((sectionsFor img chip).findSome? (fun s => match s.2.body with | .depot l => some l | _ => none)).getD []

/-- The word at a target, where the image holds it. -/
def Image.target (img : Image) (chip : Nat) (r : RelocRec) (addr : Nat) : Option Nat :=
  match r.target with
  | 0 => (img.stores chip).findSome? (fun s =>
      if s.2.row = r.row ∧ s.2.col = r.col ∧ s.2.wa ≤ addr then (s.2.words[addr - s.2.wa]?).map (fun w => w.toNat) else none)
  | 1 => match img.stallAt chip r.row r.col with
    | some s => if s.uses r.ctx ∧ addr < 16 then
        ((s.ctxRecs.find? (fun c => c.1 == r.ctx)).map (fun c => (c.2.gInit.getD addr 0).toNat)) else none
    | none => none
  | 2 => match locPorter (img.porterSection chip) 0 addr with
    | some (i, k, w) => some (fld (((img.porterSection chip).getD i ⟨0, []⟩).descs.getD k 0).toNat (64 * w) 64)
    | none => none
  | 3 => match locDepot (img.depotSection chip) 0 addr with
    | some (i, w) => some (leNat ((((img.depotSection chip).getD i ⟨0, []⟩).data.drop (8 * w)).take 8))
    | none => none
  | _ => none

/-- Change every STORE word at an address. -/
def putStore (row col addr : Nat) (v : DWord) (s : StoreRun) : StoreRun :=
  if s.row = row ∧ s.col = col ∧ s.wa ≤ addr then { s with words := upd s.words (addr - s.wa) (fun _ => v) } else s

/-- Change a G_INIT value. -/
def putGInit (r : RelocRec) (addr : Nat) (v : Word) (s : StallRec) : StallRec :=
  if s.row = r.row ∧ s.col = r.col then
    { s with ctxRecs := s.ctxRecs.map (fun c =>
        if c.1 = r.ctx then (c.1, { c.2 with gInit := upd c.2.gInit addr (fun _ => v) }) else c) }
  else s

/-- Put a word into a descriptor. -/
def putDescWord (x : BitVec 256) (w v : Nat) : BitVec 256 := BitVec.ofNat 256 (putFld x.toNat (64 * w) 64 v)

/-- Put a word into a byte string, no byte beyond its end. -/
def putDataWord (l : List Byte) (w v : Nat) : List Byte := (l.take (8 * w) ++ leBytes 8 v ++ l.drop (8 * w + 8)).take l.length

/-- Replace the word at a target. -/
def Image.putTarget (img : Image) (chip : Nat) (r : RelocRec) (addr v : Nat) : Image :=
  match r.target with
  | 0 => img.mapBodies chip (fun b => match b with
      | .store l => .store (l.map (putStore r.row r.col addr (BitVec.ofNat 64 v)))
      | x => x)
  | 1 => img.mapBodies chip (fun b => match b with
      | .stall l => .stall (l.map (putGInit r addr (BitVec.ofNat 32 v)))
      | x => x)
  | 2 => match locPorter (img.porterSection chip) 0 addr with
    | some (i, k, w) => img.mapBodies chip (fun b => match b with
        | .porter l => .porter (upd l i (fun p => { p with descs := upd p.descs k (fun x => putDescWord x w v) }))
        | x => x)
    | none => img
  | 3 => match locDepot (img.depotSection chip) 0 addr with
    | some (i, w) =>
      let old := img.depotSection chip
      img.mapBodies chip (fun b => match b with
        | .depot l => if l = old then .depot (upd l i (fun p => { p with data := putDataWord p.data w v })) else b
        | x => x)
    | none => img
  | _ => img

/-- Bits of a target word. -/
def RelocRec.bits (r : RelocRec) : Nat := if r.target = 1 then 32 else 64

/-- Is a record one that a chip applies? -/
def RelocRec.applies (r : RelocRec) (chip : Nat) : Bool := decide (r.chip = chip ∨ r.chip = 0xFFFF)

/-- The faults of R639, and a reserved symbol (R311). -/
def Image.relocBad (img : Image) (chip chips : Nat) (r : RelocRec) : Bool :=
  decide (3 < r.target) || decide (r.width = 0 ∨ 64 < r.width) || decide (r.bits < r.lo + r.width)
    || (decide (r.chip ≠ 0xFFFF) && decide (chips < r.chip)) || decide (5 ≤ r.symbol ∧ r.symbol ≤ 15)
    || (r.applies chip && ((img.target chip r r.addr).isNone || (r.twin && (img.target chip r (r.addr + 1)).isNone)))

/-- Apply one record (R312): none when its value does not fit. -/
def Image.relocate (img : Image) (chip : Nat) (bind : List DWord) (r : RelocRec) : Option Image :=
  if !r.applies chip then some img
  else
    let v := ((symValue bind r.symbol : Int) + r.addend) / (2 ^ r.shift : Nat)
    if v < 0 ∨ ((2 ^ r.width : Nat) : Int) ≤ v then none
    else
      let w := putFld ((img.target chip r r.addr).getD 0) r.lo r.width v.toNat
      let one := img.putTarget chip r r.addr w
      some (if r.twin then one.putTarget chip r (r.addr + 1) (2 ^ r.bits - 1 - w) else one)

/-- Apply the records in order; the number of the first that does not fit. -/
def relocateAll (chip : Nat) (bind : List DWord) (n : Nat) (img : Image) : List RelocRec → Nat ⊕ Image
  | [] => .inr img
  | r :: rest => match img.relocate chip bind r with
    | none => .inl n
    | some x => relocateAll chip bind (n + 1) x rest

/-- Relocation as a whole (R310 to R312, R639). -/
def Image.relocated (img : Image) (chip chips : Nat) (bind : List DWord) : LoadFault ⊕ Image :=
  match (img.relocs chip).find? (fun r => img.relocBad chip chips r.2) with
  | some r => .inl (formatFault r.1)
  | none => match relocateAll chip bind 0 img ((img.relocs chip).map (fun r => r.2)) with
    | .inl n => .inl ⟨CLK, 0, 0x1003, whereWord 0 0 0 0 0 (n % 512)⟩
    | .inr x => .inr x

end Sys2Proof
end

