-- ==== Sys2Proof/Machine/Attest.lean ====
section
/-! DEFINITION. Identity and attestation (R552, R553, R566, R568 to R570): derived keys, floors, the state report and re-signing. -/

namespace Sys2Proof.Machine

/-! ### Keys (R553) -/

/-- Big-endian value of a byte string (OS2IP). -/
def beNat (l : List Byte) : Nat := l.foldl (fun a b => 256 * a + b.toNat) 0

/-- SHA-512 as 64 bytes. -/
def sha (l : List Byte) : List Byte := padTo 64 (Config.sha512 l)

/-- A derived private scalar. -/
def scalarOf (secret label : List Byte) : Nat :=
  beNat (Config.hmacSha512 secret (label ++ [1]) ++ Config.hmacSha512 secret (label ++ [2])) % (Config.groupOrder - 1) + 1

/-- OWNER_DIGEST: of the owner public key, or zero. -/
def Device.ownerDigest (d : Device) : List Byte :=
  match d.warden.owner with
  | some o => sha o.pub
  | none => List.replicate 64 0

/-- The identity scalar: LABEL "id". -/
def Device.idScalar (d : Device) : Nat := scalarOf d.warden.secret [0x69, 0x64]

/-- The attestation scalar: LABEL "at" and OWNER_DIGEST. -/
def Device.akScalar (d : Device) : Nat := scalarOf d.warden.secret ([0x61, 0x74] ++ d.ownerDigest)

/-- A public key as 133 bytes. -/
def pubOf (scalar : Nat) : List Byte := padTo 133 (Config.publicKey scalar)

/-- The device identity public key. -/
def Device.idPub (d : Device) : List Byte := pubOf d.idScalar

/-- ID_FAIL (R552). -/
def Device.idFail (d : Device) : Bool := d.rb WRD 0 0x010 0

/-! ### Floors (R564, R566) -/

/-- The floors in force: the counters, or without RPMC the owner record's. -/
def Device.floors (d : Device) : List Nat :=
  if d.rb WRD 0 0x010 2 then d.warden.counters
  else match d.warden.owner with
    | some o => o.floors
    | none => [0, 0, 0, 0]

/-- FLOOR[0] to FLOOR[3] and STATUS.OWNED follow. -/
def Device.showFloors (d : Device) : Device :=
  let fs := d.floors
  ((List.range 4).foldl (fun a c => a.setN WRD 0 (0x110 + 4 * c) (fs.getD c 0)) d).setB WRD 0 0x010 1 d.warden.owner.isSome

/-- Raise a counter to an SVN; never lower it (R564, R565). -/
def Device.raiseFloor (d : Device) (c svn : Nat) : Device :=
  if svn ≤ d.warden.counters.getD c 0 then d
  else
    let w := { d.warden with counters := upd d.warden.counters c (fun _ => svn) }
    ({ d with warden := w }.showFloors).log 0xB504 WRD 0 0 (c + svn * 2 ^ 32)

/-! ### The report (R569) -/

/-- The Reserve maps in force, in the layout of R596, bytes 0 to 1,038. -/
def Device.mapBytes (d : Device) : List Byte :=
  (List.range 256).flatMap (fun i => leBytes 4 (d.regN RSV 0 (0x400 + 4 * i)))
    ++ [BitVec.ofNat 8 (d.rf RSV 0 0x110 0 6), BitVec.ofNat 8 (d.rf RSV 0 0x110 8 6), BitVec.ofNat 8 (d.rf RSV 0 0x114 0 5)]
    ++ (List.range 8).map (fun l => BitVec.ofNat 8 (d.rf AIS l 0x100 0 3)) ++ List.replicate 4 0

/-- `n` times 8 bytes that the manual leaves open. -/
def Device.freeBytes (d : Device) (n : Nat) : List Byte := (List.range n).flatMap (fun i => bytesOf (Config.freeValue (d.frees + i)))

/-- Bytes 280 to 471: digests of the image, of its REPORT_ID section and of the symbol table; FAMILY and VARIANT. The manual states no
REPORT_ID and no symbol table of the stock image. -/
def Device.imageFields (d : Device) : List Byte × Nat × Nat :=
  let none_ := (List.replicate 192 0, 0, 0)
  if d.rb BEL 0 0x010 1 then none_
  else match d.loader.running with
    | some img =>
      let rep := (img.pick d.chipIndex (fun b => match b with | .reportId r => [r.digest] | _ => [])).head?
      let m := match img.market d.chipIndex with | some x => (x.2.family, x.2.variant) | none => (0, 0)
      (padTo 64 img.imageDigest ++ padTo 64 ((rep.map (fun x => x.2)).getD []) ++ sha (d.loader.bindRun.flatMap bytesOf), m)
    | none => if d.rb CLK 0 0x180 5 then (sha Config.stockImage ++ d.freeBytes 16, 0, 0) else none_

/-- HALTED in a report: no image runs, or the market is halted. -/
def Device.reportHalted (d : Device) : Bool := d.rb BEL 0 0x010 1 || (d.loader.running.isNone && !d.rb CLK 0 0x180 5)

/-- Bytes 0 to 639 of a report. -/
def Device.reportHead (d : Device) (nonce : List Byte) : List Byte :=
  let flags := b2n (d.rb WRD 0 0x010 2) + 2 * b2n (d.rb WRD 0 0x010 3) + 4 * b2n d.reportHalted + 8 * b2n (!d.idFail)
  let x := d.imageFields
  let trestle := match d.trestle.running with | some t => padTo 64 t.digest | none => List.replicate 64 0
  leBytes 2 1 ++ leBytes 2 1040 ++ leBytes 4 flags ++ padTo 64 nonce ++ leBytes 8 d.bellCount ++ leBytes 4 (d.regN CLK 0 0x118)
    ++ [0xB1, if Config.gradeE then 1 else 0, BitVec.ofNat 8 d.loader.gen.toNat, 0]
    ++ sha d.idPub ++ d.ownerDigest ++ padTo 64 d.warden.fwDigest ++ x.1 ++ trestle ++ sha d.mapBytes
    ++ d.floors.flatMap (fun f => leBytes 4 f) ++ leBytes 4 x.2.1 ++ leBytes 1 x.2.2 ++ [0, 0, 0]
    ++ leBytes 4 (d.regN WRD 0 0x10C) ++ List.replicate 12 0

/-- A report: head, attestation key, its certificate and the signature. -/
def Device.reportBytes (d : Device) (nonce : List Byte) : List Byte :=
  let ak := pubOf d.akScalar
  let cert := padTo 132 (Config.ecdsaSign d.warden.signs d.idScalar (sha (ak ++ d.ownerDigest)))
  let head := d.reportHead nonce ++ ak ++ cert ++ [0, 0, 0]
  head ++ padTo 132 (Config.ecdsaSign (d.warden.signs + 1) d.akScalar (sha head))

/-- Two signatures are made, and the report is the last one. -/
def Device.sign (d : Device) (nonce : List Byte) : Device :=
  { d with frees := d.frees + 16, warden := { d.warden with report := d.reportBytes nonce, signs := d.warden.signs + 2 } }

/-! ### Commands that sign (R568, R570) -/

/-- STATUS.BUSY: a command waits or a re-signing runs. -/
def Device.wrdBusy (d : Device) : Device := d.setB WRD 0 0x010 4 (d.warden.reportDue || d.warden.resignDue)

/-- A fault of the Warden (R572). -/
def Device.wrdFault (d : Device) (code : Nat) : Device := d.fault WRD 0 code 0

/-- A refused command: fault, RESULT, REFUSED. -/
def Device.wrdRefuse (d : Device) (code : Nat) : Device := ((d.wrdFault code).setN WRD 0 0x108 code).raise WRD 0 2

/-- WRD_ADDR. -/
def Device.wrdAddr (d : Device) : Nat := d.rf WRD 0 0x104 6 21 * 64

/-- REPORT is served: nonce from WRD_ADDR, report to WRD_ADDR + 64. -/
def Device.serveReport (d : Device) : Device :=
  let n := d.depotReadBytes d.wrdAddr 64
  let d1 := n.2.2.sign n.1
  let d2 := d1.depotWrite ((d.wrdAddr + 64) % 2 ^ 27) d1.warden.report false
  (({ d2 with warden := { d2.warden with reportDue := false } }.setN WRD 0 0x108 0).raise WRD 0 0).wrdBusy

/-- Must a REPORT wait: a load is past its load bell, or a re-signing is still to come (R570)? -/
def Device.reportWaits (d : Device) : Bool := d.warden.resignDue || decide (d.rf CLK 0 0x110 0 3 = 3 ∨ d.rf CLK 0 0x110 0 3 = 4)

/-- A REPORT that waited is served once it need wait no longer. -/
def Device.waitingReport (d : Device) : Device := if d.warden.reportDue && !d.reportWaits then d.serveReport else d

/-- A re-signing begins (R568). -/
def Device.resign (d : Device) : Device := { d with warden := { d.warden with resignDue := true } }.wrdBusy

end Sys2Proof.Machine
end

