-- ==== Sys2Proof/Machine/Tokens.lean ====
section
/-! DEFINITION. The token unit: eligibility and order (R132, R158 to R160), joins, bodies and voids (R130, R131, R240 to R247), LIMIT and
ARM tokens (R155 to R163), GEN tokens (R322 to R324), forwarding (R162), draining (R245) and the context switch (R113). -/

namespace Sys2Proof.Machine

/-! ### Checks and eligibility -/

/-- R159: the twin check of a token; a spoil mark fails it too. -/
def tokenClean (w : BWord) : Bool := w.twinOk && !w.spoil && w.parOk

/-- R159: a reserved KIND, USER outside T5 steering mode, a context not in use. -/
def Device.tokenValid (d : Device) (p : Nat) (w : BWord) : Bool :=
  decide (1 ≤ w.kind ∧ w.kind ≤ 6) && (decide (w.kind ≠ 6) || d.t5 p) && (d.stall p).used w.tctx

/-- Does a token fail a check of R159? -/
def Device.tokenFails (d : Device) (p : Nat) (w : BWord) : Bool := !tokenClean w || !d.tokenValid p w

/-- SLOT_BASKETS of a context. -/
def Ctx.slotBaskets (c : Ctx) : List Nat :=
  match c.rec_ with
  | some r => (List.range 4).filter (fun b => tb r.slotBaskets b)
  | none => []

/-- The lanes of a forward mask. -/
def maskLanes (m : Nat) : List Nat := (List.range 4).filter (fun o => tb m o)

/-- Does the token unit stand between bodies: the current context waits at ENTRY, which it does from the cycle after its body's end, and no switch
is asked for (R132)? -/
def Stall.between (s : Stall) (now : Nat) : Bool := !(s.ctx s.cur).inBody && decide (s.endedAt ≠ some now) && s.switchTo.isNone

/-- Is a context closed though its stall runs: any but ctx0 in T5 steering mode (R165)? -/
def Device.ctxClosed (d : Device) (p k : Nat) : Bool := d.t5 p && decide (k ≠ 0)

/-- Is the chip between the load bell and the completion bell of an overlapped load (R324)? -/
def Device.genWindow (d : Device) : Bool :=
  decide (d.rf CLK 0 0x110 0 3 = 3 ∨ d.rf CLK 0 0x110 0 3 = 4) && !d.rb CLK 0 0x110 3

/-- Is the token at the head of basket `b` eligible (R132, R160, R243, R245, R323, R324)? In T5 steering mode LIMIT, ARM and USER wait
for GETT (R167). DESIGN CHOICE (assumption 104): a SLOT or VOID token on a basket that its context does not list, or has already joined on, waits at the
head; so does one for a context that T5 steering mode keeps closed. -/
def Device.eligible (d : Device) (p b : Nat) : Bool :=
  match d.headOf p b with
  | none => false
  | some w =>
    let s := d.stall p
    let k := w.tctx
    let c := s.ctx k
    if !w.ctl then false
    else if d.tokenFails p w then true
    else
      let joins := s.between d.work && !c.inBody && decide (b ∈ c.slotBaskets)
      match w.kind with
      | 1 => joins && !d.ctxClosed p k && decide (b ∉ c.joined)
      | 4 => !d.genWindow || (joins && decide (b ∉ c.genJoined))
      | 5 => (joins && !d.ctxClosed p k && decide (b ∉ c.joined) && !(decide (b ∈ c.draining) && decide (w.slot = c.drainSlot)))
              || (decide (k = s.cur) && c.inBody && decide (w.slot = c.slot))
      | 6 => false
      | _ => decide (k = s.cur) && !d.t5 p

/-- May the token unit take the head of basket `b` in this cycle: nothing waits to be forwarded, and no earlier basket in the
order N, E, S, W has an eligible token (R158, R162)? -/
def Device.mayTake (d : Device) (p b : Nat) : Bool :=
  let s := d.stall p
  !d.bell.hushed && !d.closed p && s.forward.isEmpty && decide (s.tokAt ≠ some d.work) && d.eligible p b
    && (List.range b).all (fun a => !d.eligible p a)

/-- Take the token; the basket's draining ends at it (R158, R245). -/
def Device.takeToken (d : Device) (p b : Nat) : Device :=
  (d.basketPop p b).2.updStall p (fun s =>
    { s with tokAt := some d.work, ctxs := s.ctxs.map (fun c => { c with draining := dropAll b c.draining }) })

/-- The next cycle on the clock of unhushed cycles. -/
def Device.nextWork (d : Device) : Nat := if d.bell.hushed then d.work else d.work + 1

/-- Ask for a copy on each lane of a mask, from a cycle on (R162). -/
def Device.forwardOn (d : Device) (p : Nat) (payload : Word) (gen : BitVec 2) (mask from_ : Nat) : Device :=
  if maskLanes mask = [] then d
  else d.updStall p (fun s => { s with forward := s.forward ++ [⟨payload, gen, maskLanes mask, from_⟩] })

/-- A VOID token's payload (R241). -/
def voidPayload (k slot : Nat) : Word := BitVec.ofNat 32 (5 * 2 ^ 28 + k % 8 * 2 ^ 25 + slot % 512)

/-! ### Bodies -/

/-- F of a context: firings per body (R240). -/
def Device.perBody (d : Device) (p k : Nat) : Nat := d.regN STL p (0x1C0 + 4 * k) / ((d.stall p).ctx k).bodies

/-- The context voids a body: it forwards a VOID, counts it, and drains from the next cycle on (R242, R245). -/
def Device.voidBody (d : Device) (p k slot : Nat) (r : CtxRecord) (from_ : Nat) : Device :=
  ((d.forwardOn p (voidPayload k slot) ((d.stall p).ctx k).gen r.fwdSlot from_).count16 BEL 0 0x034).updStall p (fun s =>
    let c := s.ctx k
    s.setCtx k (({ c with draining := c.slotBaskets, drainSlot := slot, drainFrom := d.nextWork, feeding := false }).bodyOver slot false))

/-- FIRE_COUNT grows by F less the firings already made, when a VOID token voids the body (R247). -/
def Device.creditFirings (d : Device) (p k made : Nat) : Device :=
  d.setN STL p (0x180 + 4 * k) ((d.regN STL p (0x180 + 4 * k) + (d.perBody p k - made)) % 2 ^ 32)

/-- Abort the open body of a context: its open group counts as closed, DRAW_BREAK is written when it has drawn, and the VOID goes behind the words
reserved up to this cycle (R137, R240, R242, R377). -/
def Device.abortBody (d : Device) (p k : Nat) : Device :=
  match ((d.stall p).ctx k).rec_ with
  | none => d
  | some r =>
    let c := (d.stall p).ctx k
    let d1 := if c.drew then d.log 0xA003 STL p (d.whereP p 0 0 k 0) (d.regN STL p 0x100 + c.slot * 2 ^ 32) else d
    let d2 := (d1.setPc p k r.entry).updStall p (fun s =>
      let s1 := s.setCtx k { s.ctx k with inBody := false }
      { s1 with openGroups := [], stages := s.stages.filter (fun e => match e.2 with | .close _ _ => false | _ => true), operandHalf := false
                branchTo := none, switchTo := if s.switchTo = some k then none else s.switchTo })
    d2.voidBody p k c.slot r d.nextWork

/-- The body of a completed join begins (R130). -/
def Device.beginBody (d : Device) (p k : Nat) (r : CtxRecord) (payload : Word) : Device :=
  let d1 := (List.range 4).foldl (fun a i => a.setCnt p k i 0) (d.setPc p k r.entry)
  let slot := fld payload.toNat 0 9
  let open_ := fun (c : Ctx) => { c with
    limits := r.loopBound, fed := 0, feedStep := 0, feeding := true, inBody := true, slot := slot, calSet := tb payload.toNat 24,
    fired := 0, spoilPushes := false, drew := false, began := some slot }
  let d2 := d1.updStall p (fun s =>
    let s1 := s.setCtx k (open_ (s.ctx k))
    { s1 with switchTo := if k = s.cur then s.switchTo else some k, noIssue := some d.work })
  d2.forwardOn p payload ((d.stall p).ctx k).gen r.fwdSlot d.work

/-- A member of a join: payloads that differ, or slots that differ, make it an invalid token (R131, R244). -/
def Ctx.joinOk (c : Ctx) (w : BWord) : Bool :=
  c.joined.isEmpty
    || (if w.kind = 1 ∧ !c.joinVoid then decide (c.joinPayload = w.payload) else decide (fld c.joinPayload.toNat 0 9 = w.slot))

/-- A SLOT or VOID token joins; the join completes when every basket of SLOT_BASKETS has given one (R130, R240, R244, R247). -/
def Device.joinToken (d : Device) (p b : Nat) (w : BWord) : Device :=
  let k := w.tctx
  let c := (d.stall p).ctx k
  match c.rec_ with
  | none => d
  | some r =>
    let d0 := d.takeToken p b
    if !c.joinOk w then d0.stallFault p k 0x4006 b 0
    else
      let joined := c.joined ++ [b]
      let void := c.joinVoid || decide (w.kind = 5)
      let pay := if w.kind = 1 ∨ c.joined = [] then w.payload else c.joinPayload
      if !c.slotBaskets.all (fun x => decide (x ∈ joined)) then
        d0.updStall p (fun s => s.setCtx k { s.ctx k with joined := joined, joinVoid := void, joinPayload := pay })
      else
        let d1 := d0.updStall p (fun s => s.setCtx k { s.ctx k with joined := [], joinVoid := false, joinPayload := 0 })
        if 0 < c.owed then
          (d1.updStall p (fun s => s.setCtx k { s.ctx k with owed := c.owed - 1 })).voidBody p k w.slot r d.work
        else if void then (d1.creditFirings p k 0).voidBody p k w.slot r d.work
        else d1.beginBody p k r pay

/-- SLOT_TOKEN. -/
def Device.slotToken (d : Device) (p b : Nat) : Device :=
  match d.headOf p b with
  | some w => if w.kind = 1 ∧ d.mayTake p b ∧ !d.tokenFails p w then d.joinToken p b w else d
  | none => d

def execSlotToken (p b : Nat) (s : State) : Host.Outcome State Fault Refusal :=
  s.act (Instr.wf (.slotToken p b)) (fun d => d.slotToken p b)

/-- VOID_TOKEN: a member of a join, or the end of the open body of its slot (R243). -/
def Device.voidToken (d : Device) (p b : Nat) : Device :=
  match d.headOf p b with
  | some w =>
    if w.kind = 5 ∧ d.mayTake p b ∧ !d.tokenFails p w then
      let c := (d.stall p).ctx w.tctx
      if c.inBody then ((d.takeToken p b).creditFirings p w.tctx c.fired).abortBody p w.tctx
      else d.joinToken p b w
    else d
  | none => d

def execVoidToken (p b : Nat) (s : State) : Host.Outcome State Fault Refusal :=
  s.act (Instr.wf (.voidToken p b)) (fun d => d.voidToken p b)

/-! ### LIMIT, ARM and failing tokens -/

/-- LIMIT_TOKEN: sets a loop's limit; above LOOP_BOUND it is a counter bound violation (R155 to R157, R161). -/
def Device.limitToken (d : Device) (p b : Nat) : Device :=
  match d.headOf p b with
  | some w =>
    let k := w.tctx
    match ((d.stall p).ctx k).rec_ with
    | some r =>
      if w.kind = 2 ∧ d.mayTake p b ∧ !d.tokenFails p w then
        let i := fld w.payload.toNat 22 2
        let v := fld w.payload.toNat 0 16
        let d0 := d.takeToken p b
        if r.loopBound.getD i 0 < v then d0.stallFault p k 0x4004 b 0
        else (d0.updStall p (fun s =>
          let c := s.ctx k
          s.setCtx k { c with limits := upd c.limits i (fun _ => v), limitsWas := some (c.limitsWas.getD c.limits) })).forwardOn
            p w.payload ((d.stall p).ctx k).gen r.fwdLimit d.nextWork
      else d
    | none => d
  | none => d

def execLimitToken (p b : Nat) (s : State) : Host.Outcome State Fault Refusal :=
  s.act (Instr.wf (.limitToken p b)) (fun d => d.limitToken p b)

/-- ARM_TOKEN: sets the ARM value (R157, R161). -/
def Device.armToken (d : Device) (p b : Nat) : Device :=
  match d.headOf p b with
  | some w =>
    let k := w.tctx
    match ((d.stall p).ctx k).rec_ with
    | some r =>
      if w.kind = 3 ∧ d.mayTake p b ∧ !d.tokenFails p w then
        ((d.takeToken p b).updStall p (fun s =>
          let c := s.ctx k
          s.setCtx k { c with arm := fld w.payload.toNat 0 2, armWas := some (c.armWas.getD c.arm) })).forwardOn
            p w.payload ((d.stall p).ctx k).gen r.fwdArm d.nextWork
      else d
    | none => d
  | none => d

def execArmToken (p b : Nat) (s : State) : Host.Outcome State Fault Refusal :=
  s.act (Instr.wf (.armToken p b)) (fun d => d.armToken p b)

/-- INVALID_TOKEN: a token that fails a check of R159 is taken, and the fault follows R164. -/
def Device.invalidToken (d : Device) (p b : Nat) : Device :=
  match d.headOf p b with
  | some w =>
    if w.ctl ∧ d.mayTake p b ∧ d.tokenFails p w then
      (d.takeToken p b).stallFault p (d.stall p).cur (if tokenClean w then 0x4006 else 0x4005) b 0
    else d
  | none => d

def execInvalidToken (p b : Nat) (s : State) : Host.Outcome State Fault Refusal :=
  s.act (Instr.wf (.invalidToken p b)) (fun d => d.invalidToken p b)

/-! ### GEN tokens (R322 to R324) -/

/-- GEN_TOKEN: joins, or is a generation skip; on the join the owed bodies lapse and a copy goes to each FWD_SLOT lane. -/
def Device.genToken (d : Device) (p b : Nat) : Device :=
  match d.headOf p b with
  | some w =>
    let k := w.tctx
    let c := (d.stall p).ctx k
    match c.rec_ with
    | some r =>
      if w.isGen ∧ d.mayTake p b ∧ !d.tokenFails p w then
        let d0 := d.takeToken p b
        if !d.genWindow || decide (BitVec.ofNat 2 w.payload.toNat ≠ (d.stall p).gen + 1) then d0.stallFault p k 0x4007 b 0
        else
          let joined := c.genJoined ++ [b]
          if c.slotBaskets.all (fun x => decide (x ∈ joined)) then
            (d0.updStall p (fun s => s.setCtx k { s.ctx k with genJoined := joined, genDone := true, owed := 0 })).forwardOn
              p w.payload c.gen r.fwdSlot d.work
          else d0.updStall p (fun s => s.setCtx k { s.ctx k with genJoined := joined })
      else d
    | none => d
  | none => d

def execGenToken (p b : Nat) (s : State) : Host.Outcome State Fault Refusal :=
  s.act (Instr.wf (.genToken p b)) (fun d => d.genToken p b)

/-! ### Forwarding, draining, switching -/

/-- TOKEN_FORWARD: the oldest copy goes to each lane that has room, behind the words reserved up to its token's cycle (R137, R162). -/
def Device.tokenForward (d : Device) (p : Nat) : Device :=
  match (d.stall p).forward with
  | [] => d
  | f :: rest =>
    if d.bell.hushed || decide (d.work < f.from_) then d
    else
      let ok := f.lanes.filter (fun o => d.outRoom p o 1)
      let left := f.lanes.filter (fun o => !d.outRoom p o 1)
      let d1 := ok.foldl (fun a o => a.reserve_ p o a.work [tokenWord f.payload f.gen]) d
      d1.updStall p (fun s => { s with forward := if left = [] then rest else { f with lanes := left } :: rest })

def execTokenForward (p : Nat) (s : State) : Host.Outcome State Fault Refusal :=
  s.act (Instr.wf (.tokenForward p)) (fun d => d.tokenForward p)

/-- What draining does with the head of a basket: 0 nothing there, 1 pop and discard, 2 the basket's draining ends (R245). -/
def Device.drainVerdict (d : Device) (p k : Nat) (b : Nat) : Nat :=
  match d.headOf p b with
  | none => 0
  | some w =>
    if !w.ctl then 1
    else if d.tokenFails p w then 2
    else if w.kind = 2 ∨ w.kind = 3 ∨ w.kind = 6 then 1
    else if w.kind = 5 ∧ w.tctx = k ∧ w.slot = ((d.stall p).ctx k).drainSlot then 1
    else 2

/-- One cycle of a context's draining. -/
def Device.drainCtx (d : Device) (p k : Nat) : Device :=
  ((d.stall p).ctx k).draining.foldl (fun a b =>
    match a.drainVerdict p k b with
    | 1 => (a.basketPop p b).2
    | 2 => a.updStall p (fun s => s.setCtx k { s.ctx k with draining := dropAll b (s.ctx k).draining })
    | _ => a) d

/-- DRAIN_POP (R245). -/
def Device.drainPop (d : Device) (p : Nat) : Device :=
  if d.bell.hushed || d.closed p then d
  else (List.range 8).foldl (fun a k => if d.work < ((d.stall p).ctx k).drainFrom then a else a.drainCtx p k) d

def execDrainPop (p : Nat) (s : State) : Host.Outcome State Fault Refusal :=
  s.act (Instr.wf (.drainPop p)) (fun d => d.drainPop p)

/-- CONTEXT_SWITCH: no group is open and no latch fill is in progress; no instruction issues in its cycle (R113). -/
def Device.contextSwitch (d : Device) (p : Nat) : Device :=
  let s := d.stall p
  match s.switchTo with
  | none => d
  | some k =>
    if d.bell.hushed || d.closed p || s.groupOpen d.work || s.latchFilling d.work then d
    else d.setStall p { s with cur := k, switchTo := none, noIssue := some d.work }

def execContextSwitch (p : Nat) (s : State) : Host.Outcome State Fault Refusal :=
  s.act (Instr.wf (.contextSwitch p)) (fun d => d.contextSwitch p)

end Sys2Proof.Machine
end

