-- ==== Sys2Proof/Machine/Checks.lean ====
section
/-! DEFINITION. The checks of stage 1 that look at stalls, contexts, programs and layers: R107, R127, R128, R136, R140 to R147, R150,
R151, R165, R166, R240, R246, R256 to R262, R268, R272, R294, R309, R637, R638, R642. -/

namespace Sys2Proof

open Sys2Proof.Machine

/-! ### The directory and the MARKET record (R304 to R307, R225, R481) -/

/-- The directory and the sections that every image holds. DESIGN CHOICE (assumption 116): the manual lays the directory out and does not state what
becomes of an image that breaks the layout; it is refused with FORMAT like one that breaks R306. -/
def Image.directory (img : Image) (chip : Nat) : Option LoadFault :=
  let mine := sectionsFor img chip
  firstOf [
    findWhen (img.format ≠ 2) (formatFault 0x1FF),
    findWhen (img.dirWord.toNat / 2 ^ 32 ≠ 0 ∨ img.entries ≠ img.sections.length % 2 ^ 16
      ∨ img.bytes < img.dirAt + 8 + 16 * img.sections.length) (formatFault 0x1FF),
    ((img.sections.zipIdx).find? (fun s => s.1.body.code == 0 || !s.1.entryOk)).map (fun s => formatFault s.2),
    findWhen ([1, 2, 3, 5, 7].any (fun t => !mine.any (fun s => s.2.body.code == t))) (formatFault 0x1FF),
    ((img.sections.zipIdx).find? (fun s => decide (img.bytes < s.1.offset + s.1.length))).map (fun s => formatFault s.2),
    (mine.find? (fun s => decide (s.2.body.code ∉ [4, 11, 12])
        && mine.any (fun q => decide (q.1 < s.1) && q.2.body.code == s.2.body.code))).map (fun s => formatFault s.1)]

/-- Limits of the MARKET record. -/
def Image.marketLimits (img : Image) (chip : Nat) : Option LoadFault :=
  match img.market chip with
  | none => none
  | some (i, m) => firstOf [
      findWhen (!(decide (1 ≤ m.rows ∧ m.rows ≤ 64) && decide (1 ≤ m.slots ∧ m.slots ≤ 512) && decide (m.diam ≤ 63)
        && decide (m.chips ≤ 32767))) (formatFault i),
      findWhen (!(decide (m.lifetime = 1) || decide (m.lifetime = 2))) ⟨CLK, 0, 0x1009, 0⟩]

/-! ### Regions (R107, R180) -/

/-- Do two regions overlap? -/
def Region.meets (a b : Region) : Bool := decide (a.base < b.base + b.size) && decide (b.base < a.base + a.size)

/-- The first region that takes part in a fault of R107. -/
def StallRec.badRegion (s : StallRec) : Option Nat :=
  match ((s.regions.zipIdx).find? (fun r => decide (8192 < r.1.base + r.1.size)
      || (s.regions.zipIdx).any (fun q => decide (q.2 ≠ r.2) && r.1.meets q.1))).map (fun r => r.2) with
  | some i => some i
  | none => if 8192 < (s.regions.map (fun r => r.size)).sum then some 0 else none

/-- Extension regions of a basket. -/
def StallRec.extRegions (s : StallRec) (b : Nat) : List Region := s.regions.filter (fun r => decide (r.kind = 3 ∧ r.bsk = b))

/-- EXT_INVALID for a basket (R180, R210). -/
def StallRec.extBad (s : StallRec) (b : Nat) : Bool :=
  let e := s.ext.getD b 0
  if e = 0 then !(s.extRegions b).isEmpty
  else !(decide (e % 8 = 0 ∧ 16 ≤ e ∧ e ≤ 2048) && (match s.extRegions b with | [r] => decide (r.size = 9 * e / 8) | _ => false))

/-! ### Context records (R127, R128, R165) -/

/-- The loops in use. -/
def CtxRecord.loops (r : CtxRecord) : List Nat := (List.range 4).filter (fun k => decide (r.loopBound.getD k 0 ≠ 0))

/-- Does a loop hold an address? -/
def CtxRecord.inLoop (r : CtxRecord) (k pc : Nat) : Bool := decide (r.loopFirst.getD k 0 ≤ pc ∧ pc ≤ r.loopLast.getD k 0)

/-- Two ranges that overlap without one containing the other. -/
def CtxRecord.crossing (r : CtxRecord) (i j : Nat) : Bool :=
  let a := r.loopFirst.getD i 0
  let b := r.loopLast.getD i 0
  let c := r.loopFirst.getD j 0
  let e := r.loopLast.getD j 0
  decide (a ≤ e ∧ c ≤ b) && !(decide (a ≤ c ∧ e ≤ b) || decide (c ≤ a ∧ b ≤ e))

/-- The row of R127's table that a record breaks, and the loop. `codeLen` is the LENGTH of the context's PROGRAM record; that of a context without one
is for R637 to refuse. -/
def CtxRecord.broken (r : CtxRecord) (regions : List Region) (codeLen : Option Nat) (t5 : Bool) : Option (Nat × Nat) :=
  let loop := fun (f : Nat → Bool) (row : Nat) => ((List.range 4).find? f).map (fun k => (row, k))
  let used := fun k => decide (r.loopBound.getD k 0 ≠ 0)
  let feeds := decide (r.feed ≤ 3)
  [ if 1 ≤ r.length ∧ r.length ≤ 256 ∧ (codeLen = none ∨ codeLen = some r.length) then none else some (0, 0),
    if r.entry < 256 then none else some (1, 0),
    if r.entry ≤ r.stop ∧ r.stop < r.length then none else some (2, 0),
    loop (fun k => decide (255 < r.loopFirst.getD k 0)) 3,
    loop (fun k => !decide (r.loopFirst.getD k 0 ≤ r.loopLast.getD k 0 ∧ r.loopLast.getD k 0 ≤ r.stop)) 4,
    loop (fun k => decide (65535 < r.loopBound.getD k 0) || (t5 && used k)) 5,
    if 1 ≤ r.slotBaskets ∧ r.slotBaskets ≤ 15 then none else some (6, 0),
    if r.fwdSlot ≤ 15 ∧ r.fwdLimit ≤ 15 ∧ r.fwdArm ≤ 15 then none else some (7, 0),
    if r.feed ≤ 3 ∨ r.feed = 7 then none else some (8, 0),
    if feeds then (if 1 ≤ r.lbSize ∧ regions.any (fun g => decide (g.kind = 4 ∧ g.base ≤ r.lbBase ∧ r.lbBase + r.lbSize ≤ g.base + g.size))
        then none else some (9, 0))
      else (if r.lbBase = 0 ∧ r.lbSize = 0 then none else some (9, 0)),
    if r.feedWords ≤ 65535 ∧ (feeds ∨ r.feedWords = 0) then none else some (10, 0),
    if r.fireExpect < 2 ^ 32 then none else some (11, 0),
    if r.gInit.length = 16 then none else some (12, 0)].findSome? id

/-- The higher-numbered loop of two that cross (R128). -/
def CtxRecord.crossed (r : CtxRecord) : Option Nat :=
  r.loops.find? (fun j => r.loops.any (fun i => decide (i < j) && r.crossing i j))

/-! ### Instruction words (R140 to R151, R165, R166, R642) -/

/-- Is an opcode one of R144, in the stall's mode (R165)? -/
def opKnown (t5 : Bool) (op : Nat) : Bool :=
  if t5 then decide (op ∈ [0x00, 0x01, 0x04, 0x05, 0x09, 0x0A, 0x0B, 0x0C, 0x10, 0x11, 0x12, 0x13, 0x14, 0x30, 0x31, 0x32, 0x33, 0x34])
  else decide (op ∈ [0x00, 0x01, 0x02, 0x03, 0x04, 0x05, 0x08, 0x09, 0x0A, 0x0B, 0x0C, 0x10, 0x11, 0x12, 0x13, 0x14, 0x18, 0x19, 0x1A, 0x1B])

/-- Bits that a format leaves 0 (R145, R166). -/
def mustBeZero (op : Nat) : Nat :=
  if op = 0x00 then bitsOf [(25, 0)]
  else if op ∈ [0x01, 0x02, 0x04, 0x05, 0x0C] then bitsOf [(3, 2)]
  else if op = 0x03 then bitsOf [(24, 20), (3, 2)]
  else if op = 0x08 then bitsOf [(17, 0)]
  else if op = 0x09 then bitsOf [(25, 22), (15, 0)]
  else if op = 0x0A then bitsOf [(21, 20), (15, 13)]
  else if op = 0x0B then bitsOf [(25, 25)]
  else if op = 0x10 then bitsOf [(13, 0)]
  else if op = 0x11 then bitsOf [(19, 16)]
  else if op = 0x13 then bitsOf [(17, 12)]
  else if op = 0x12 then bitsOf [(13, 4)]
  else if op = 0x14 then bitsOf [(16, 8)]
  else if op ∈ [0x18, 0x19, 0x1A, 0x1B] then bitsOf [(18, 16), (10, 0)]
  else if op = 0x30 then bitsOf [(18, 0)]
  else if op = 0x31 then bitsOf [(14, 0)]
  else if op = 0x32 then bitsOf [(19, 0)]
  else if op = 0x33 then bitsOf [(21, 8)]
  else if op = 0x34 then bitsOf [(14, 8)]
  else 0

/-- Reserved values and limits of the fields. -/
def fieldsBad (t5 : Bool) (w : Nat) : Bool :=
  let op := fOp w
  let array := decide (op ∈ [0x01, 0x02, 0x03, 0x04, 0x05])
  (array && (decide (fDst w = 7) || (!fClose w && decide (fDst w ≠ 6))))
    || (decide (op ∈ [0x01, 0x02, 0x04, 0x05, 0x0C]) && decide (fSrcA w = 7 ∨ fSrcB w = 7))
    || (decide (op = 0x02) && tb w 15)
    || (decide (op = 0x0C) && decide (fDst w = 7))
    || (decide (op = 0x0A) && tb w 22 && tb w 23)
    || (decide (op = 0x0B) && !decide (1 ≤ fld w 10 6 ∧ fld w 10 6 ≤ 32))
    || (decide (op = 0x10) && (decide (fld w 20 3 = 7) || decide (fld w 23 3 = 7) || decide (fld w 14 2 = 3)))
    || (decide (op = 0x11) && decide (fld w 20 2 = 3))
    || (decide (op = 0x12) && decide (10 ≤ fld w 0 4))
    || (decide (op = 0x14) && !t5 && decide (fld w 23 3 = 7))
    || (decide (op = 0x18) && decide (fGroup w % 2 = 1))
    || (decide (op = 0x34) && decide (4 ≤ fld w 23 3))

/-- Source settings that R642 refuses. -/
def sourcesBad (w : Nat) : Bool :=
  let op := fOp w
  (decide (op ∈ [0x01, 0x02]) && !(decide (fSrcA w ≤ 3 ∧ fSrcB w ≤ 3 ∧ fSrcA w ≠ fSrcB w)
      || decide ((fSrcA w = 4 ∨ fSrcA w = 5) ∧ fSrcB w = 6)))
    || (decide (op ∈ [0x04, 0x05, 0x0C]) && decide (fSrcA w ≠ 6 ∨ fSrcB w ≠ 6))
    || (decide (op = 0x0C) && (decide (fPlane w ≠ 0) || fOpen w || fClose w))
    || (decide (op = 0x10) && decide (6 ≤ fld w 23 3))

/-- Is the word a branch, and has it a target in its word? -/
def isBranch (w : Nat) : Bool := decide (fOp w ∈ [0x14, 0x33, 0x34])
def hasTarget (w : Nat) : Bool := isBranch w && !(decide (fOp w = 0x14) && decide (fld w 23 3 = 7))

/-- The innermost loop that holds an address: the shortest range; of two that are one range, the lower number (R128). -/
def CtxRecord.innermost (r : CtxRecord) (pc : Nat) : Option Nat :=
  (r.loops.filter (fun k => r.inLoop k pc)).foldl (fun m k => match m with
    | none => some k
    | some j => if r.loopLast.getD k 0 - r.loopFirst.getD k 0 < r.loopLast.getD j 0 - r.loopFirst.getD j 0 then some k else some j) none

/-- A branch that R151 or R166 refuses; in T5 mode, one that follows a branch. -/
def CtxRecord.branchBad (r : CtxRecord) (t5 : Bool) (code : List Nat) (pc w : Nat) : Bool :=
  if !isBranch w then false
  else
    let target := fld w 0 8
    r.loops.any (fun k => decide (r.loopLast.getD k 0 = pc))
      || (hasTarget w && (decide (r.innermost target ≠ r.innermost pc)
          || ((r.innermost pc).isNone && !decide (r.entry ≤ target ∧ target ≤ r.stop))))
      || (t5 && decide (0 < pc) && (match code[pc - 1]? with | some n => isBranch n | none => false))

/-- The first word of a program that one of the encoding rules refuses. -/
def CtxRecord.badWord (r : CtxRecord) (t5 : Bool) (code : List Nat) : Option Nat :=
  ((code.zipIdx).find? (fun wp => !opKnown t5 (fOp wp.1) || decide (wp.1 &&& mustBeZero (fOp wp.1) ≠ 0) || fieldsBad t5 wp.1
      || r.branchBad t5 code wp.2 wp.1)).map (fun wp => wp.2)

/-- The first word that R642 refuses. -/
def badSource (code : List Nat) : Option Nat := ((code.zipIdx).find? (fun wp => sourcesBad wp.1)).map (fun wp => wp.2)

/-- Baskets that an instruction names as sources (R246). -/
def sourceBaskets (w : Nat) : List Nat :=
  (if fOp w = 0x01 ∨ fOp w = 0x02 then [fSrcA w, fSrcB w]
   else if fOp w = 0x10 then [fld w 23 3]
   else if fOp w = 0x30 ∨ fOp w = 0x32 then [fld w 20 2] else []).filter (fun b => decide (b ≤ 3))

/-- SLOT_SCOPE: the basket and the index (R246). -/
def CtxRecord.outOfScope (r : CtxRecord) (code : List Nat) (decl : Option LbDecl) : Option (Nat × Nat) :=
  let out := fun b => decide (b ≤ 3) && !tb r.slotBaskets b
  match (code.zipIdx).findSome? (fun wp => ((sourceBaskets wp.1).find? out).map (fun b => (b, wp.2))) with
  | some x => some x
  | none => (([r.feed] ++ (match decl with | some l => [l.htBsk, l.hbBsk] | none => [])).find? out).map (fun b => (b, 0x1FF))

/-! ### Line buffers (R268, R272) -/

/-- A field outside its limits. -/
def LbDecl.limitsBad (l : LbDecl) : Bool :=
  !(decide (1 ≤ l.nb ∧ l.nb ≤ 32) && decide (l.pwd ≤ 1) && decide (1 ≤ l.w ∧ l.w ≤ 4095) && decide (l.tailC ≤ 15) && decide (l.y0 ≤ 4095)
    && decide (1 ≤ l.ownRows ∧ l.ownRows ≤ 4095) && decide (l.tailR ≤ 15) && decide (l.padT ≤ 255 ∧ l.padB ≤ 255)
    && decide (l.padL ≤ 255 ∧ l.padR ≤ 255) && decide (l.padCode ≠ 0x80) && decide (l.rper ≤ 15 ∧ l.cper ≤ 15)
    && decide (l.rmask < 65536 ∧ l.cmask < 65536) && decide (l.htBsk ≤ 3 ∨ l.htBsk = 7) && decide (l.hbBsk ≤ 3 ∨ l.hbBsk = 7)
    && decide (l.htRows ≤ 4095 ∧ l.hbRows ≤ 4095) && decide (l.htN ≤ 255 ∧ l.hbN ≤ 255))

/-- Kept rows among those that a body takes. -/
def LbDecl.keptRows (l : LbDecl) : Nat :=
  (((if l.htBsk = 7 then [] else (List.range l.htN).map (fun (i : Nat) => (l.y0 : Int) - l.htN + i))
      ++ (List.range l.ownRows).map (fun (i : Nat) => (l.y0 : Int) + i)
      ++ (if l.hbBsk = 7 then [] else (List.range l.hbN).map (fun (i : Nat) => (l.y0 : Int) + l.ownRows + i))).filter l.keepRow).length

/-- LB_GEOMETRY (R272). -/
def LbDecl.bad (l : LbDecl) (r : CtxRecord) (code : List Nat) : Bool :=
  l.limitsBad || decide (r.feedWords ≠ (l.padT + l.keptRows + l.padB) * l.rowWords) || decide (r.lbSize < r.feedWords)
    || decide (2 ^ (l.rper + 1) ≤ l.rmask ∨ 2 ^ (l.cper + 1) ≤ l.cmask) || decide (l.htRows < l.htN ∨ l.hbRows < l.hbN)
    || decide (l.htBsk = r.feed ∨ l.hbBsk = r.feed ∨ (l.htBsk = l.hbBsk ∧ l.htBsk ≠ 7))
    || (decide (l.pwd = 1) && code.any (fun w => decide (fOp w = 0x08 ∨ fOp w = 0x09)))

/-! ### Sliding-window geometry (R256 to R262, R294) -/

/-- A field outside its limits, or a reserved value (R257). -/
def Geometry.limitsBad (g : Geometry) : Bool :=
  let out := fun (x : Nat) (s dil : Nat) => if g.form = 4 then decide (max s dil - 1 < x) else decide (x ≠ 0)
  !(decide (g.form ≤ 4 ∧ g.mode ≤ 4) && decide (1 ≤ g.hIn ∧ g.hIn ≤ 4095 ∧ 1 ≤ g.wIn ∧ g.wIn ≤ 4095)
    && decide (1 ≤ g.cIn ∧ g.cIn ≤ 1024 ∧ 1 ≤ g.cOut ∧ g.cOut ≤ 1024) && decide (1 ≤ g.kh ∧ g.kh ≤ 31 ∧ 1 ≤ g.kw ∧ g.kw ≤ 31)
    && decide (1 ≤ g.sh ∧ g.sh ≤ 16 ∧ 1 ≤ g.sw ∧ g.sw ≤ 16) && decide (1 ≤ g.dh ∧ g.dh ≤ 255 ∧ 1 ≤ g.dw ∧ g.dw ≤ 255)
    && decide (g.layer ≤ 255 ∧ g.hOut ≤ 4095 ∧ g.wOut ≤ 4095 ∧ g.gRow ≤ 63 ∧ g.gCol ≤ 127)
    && decide (g.pt ≤ 255 ∧ g.pb ≤ 255 ∧ g.pl ≤ 255 ∧ g.pr ≤ 255) && !out g.oph g.sh g.dh && !out g.opw g.sw g.dw)

/-- The output size along one axis (R258, R294). -/
def outSize (transposed : Bool) (n p q k s dil op : Nat) : Int :=
  if transposed then ((n : Int) - 1) * s - p - q + (dil : Int) * (k - 1) + op + 1
  else ((n : Int) + p + q - (dil : Int) * (k - 1) - 1) / s + 1

def Geometry.sizes (g : Geometry) : Int × Int :=
  (outSize (g.form == 4) g.hIn g.pt g.pb g.kh g.sh g.dh g.oph, outSize (g.form == 4) g.wIn g.pl g.pr g.kw g.sw g.dw g.opw)

/-- The taps of one axis that reach the image (R261). -/
def reaching (n p k s dil out : Nat) : List Nat :=
  (List.range k).filter (fun t => (List.range out).any (fun o => decide (p ≤ o * s + dil * t ∧ o * s + dil * t < n + p)))

/-- Does only the centre tap reach the image (R262)? -/
def Geometry.centreOnly (g : Geometry) : Bool :=
  decide (g.kh % 2 = 1 ∧ g.kw % 2 = 1) && decide (reaching g.hIn g.pt g.kh g.sh g.dh g.sizes.1.toNat = [g.kh / 2])
    && decide (reaching g.wIn g.pl g.kw g.sw g.dw g.sizes.2.toNat = [g.kw / 2])

/-- MODE against the table of R256. -/
def Geometry.modeOk (g : Geometry) : Bool :=
  match g.form with
  | 0 =>
    if (g.kh = 1 ∧ g.kw = 1) ∨ g.centreOnly then decide (g.mode ≤ 1)
    else if 3 ≤ g.kh ∧ 3 ≤ g.kw ∧ g.sh = 1 ∧ g.sw = 1 ∧ g.dh = 1 ∧ g.dw = 1 then decide (g.mode = 2)
    else decide (g.mode ≤ 1)
  | 1 => if g.dh = 1 ∧ g.dw = 1 then decide (g.mode = 3) else decide (g.mode = 0)
  | 2 => decide (g.mode = 4)
  | 3 => decide (g.mode = 3)
  | _ => decide (g.mode ≤ 1)

/-- What is wrong with a geometry record, in the order of R260. -/
def Geometry.finding (g : Geometry) : Option Nat :=
  if g.limitsBad then some 0x100A
  else if g.sizes.1 ≤ 0 ∨ g.sizes.2 ≤ 0 then some 0x100B
  else if g.sizes.1 ≠ g.hOut ∨ g.sizes.2 ≠ g.wOut ∨ !g.modeOk then some 0x100A
  else none

/-! ### Store contents (R309) and records that do not fit together (R637, R638) -/

/-- Is a stall store word written by a STORE run? -/
def runCovers (runs : List StoreRun) (row col a : Nat) : Bool :=
  runs.any (fun s => decide (s.row = row ∧ s.col = col ∧ s.wa ≤ a ∧ a < s.wa + s.words.length))

/-- The first region of KIND 0 or 1 with a word that no record writes. -/
def StallRec.unwritten (s : StallRec) (runs : List StoreRun) : Option Nat :=
  ((s.regions.zipIdx).find? (fun r => decide (r.1.kind ≤ 1)
    && (List.range r.1.size).any (fun i => !runCovers runs s.row s.col (r.1.base + i)))).map (fun r => r.2)

/-- Does a STORE run stay in the weights and rescale set A regions? -/
def StoreRun.inside (t : StoreRun) (s : StallRec) : Bool :=
  (List.range t.words.length).all (fun i => s.regions.any (fun r => decide (r.kind ≤ 1 ∧ r.base ≤ t.wa + i ∧ t.wa + i < r.base + r.size)))

/-- The rescale regions of a stall that declares entries (R637). -/
def StallRec.rescaleBad (s : StallRec) : Bool :=
  let of_ := fun k => s.regions.filter (fun r => decide (r.kind = k))
  s.rescaleN.any (fun n => decide (0 < n)) && (match of_ 1, of_ 2 with | [a], [b] => decide (a.size ≠ b.size) | _, _ => true)

/-- A STALL record that R637 refuses. -/
def StallRec.bad (s : StallRec) (rows : Nat) (others : List StallRec) : Bool :=
  decide (rows ≤ s.row ∨ 95 < s.col) || decide (s.ctxUsed % 256 = 0) || decide (s.nreg = 0 ∨ 31 < s.nreg) || decide (s.nreg ≠ s.regions.length)
    || s.regions.any (fun r => decide (8 ≤ r.kind)) || others.any (fun q => decide (q.row = s.row ∧ q.col = s.col))
    || s.contexts.any (fun c => decide (c.2.feed ≤ 3) != (s.decl c.1).isSome) || s.rescaleBad

/-- Earlier entries of a list, with each entry. -/
def withEarlier {α : Type} : List α → List α → List (α × List α)
  | _, [] => []
  | seen, x :: rest => (x, seen) :: withEarlier (seen ++ [x]) rest

/-- R637. -/
def Image.mismatched (img : Image) (chip : Nat) : Option LoadFault :=
  let has := fun row col => (img.stallAt chip row col).isSome
  firstOf [
    ((withEarlier [] (img.stalls chip)).find? (fun s => s.1.2.bad (img.rows chip) (s.2.map (fun q => q.2)))).map (fun s => formatFault s.1.1),
    ((img.programs chip).find? (fun p => !has p.2.row p.2.col)).map (fun p => formatFault p.1),
    ((img.luts chip).find? (fun p => !has p.2.row p.2.col)).map (fun p => formatFault p.1),
    ((img.stores chip).find? (fun p => !has p.2.row p.2.col)).map (fun p => formatFault p.1),
    ((withEarlier [] (img.programs chip)).find? (fun p =>
      !(match img.stallAt chip p.1.2.row p.1.2.col with | some s => s.uses p.1.2.ctx | none => false)
        || p.2.any (fun q => decide (q.2.row = p.1.2.row ∧ q.2.col = p.1.2.col ∧ q.2.ctx = p.1.2.ctx)))).map (fun p => formatFault p.1.1),
    ((img.stalls chip).find? (fun s => (List.range 8).any (fun k => s.2.uses k
      && !(img.programs chip).any (fun p => decide (p.2.row = s.2.row ∧ p.2.col = s.2.col ∧ p.2.ctx = k))))).map (fun _ =>
        formatFault (img.entryOf chip 5)),
    ((withEarlier [] (img.porters chip)).find? (fun p => decide (p.1.2.channel < 8)
      || p.2.any (fun q => decide (q.2.channel = p.1.2.channel)))).map (fun p => formatFault p.1.1)]

/-- R638; `limit` is DEPOT_BYTES. -/
def Image.depotBad (img : Image) (chip limit : Nat) : Option LoadFault :=
  ((withEarlier [] (img.depots chip)).find? (fun p =>
    let a := p.1.2.offset
    let n := p.1.2.data.length
    decide (n = 0) || decide (limit < a + n) || p.2.any (fun q => decide (a < q.2.offset + q.2.data.length ∧ q.2.offset < a + n)))).map
      (fun p => formatFault p.1.1)

namespace Machine

/-! ### All of them, for each stall and context -/

/-- Try a check on every stall. -/
def overStalls (img : Image) (chip : Nat) (f : StallRec → Option LoadFault) : Option LoadFault :=
  (img.stalls chip).findSome? (fun s => f s.2)

/-- Try a check on every context in use: number, record, program. -/
def overContexts (img : Image) (chip : Nat) (f : StallRec → Nat → CtxRecord → List Nat → Option LoadFault) : Option LoadFault :=
  overStalls img chip (fun s => s.contexts.findSome? (fun c => f s c.1 c.2 (img.programOf chip s.row s.col c.1)))

/-- RES_STORE (R107). -/
def Device.storeFits (d : Device) (img : Image) (chip : Nat) : Option LoadFault :=
  overStalls img chip (fun s => s.badRegion.map (fun i => d.stallFinding 0x2003 s.row s.col 0 0 0 i))

/-- Step 3 up to R165: seeds, context records, encodings. -/
def Device.checkPrograms (d : Device) (img : Image) (chip : Nat) : Option LoadFault :=
  let t5 := fun (s : StallRec) => d.t5 (d.pageOf s.row s.col)
  firstOf [
    overStalls img chip (fun s => findWhen (s.seed = 0) (d.stallFinding 0x1006 s.row s.col 0 0 0 0)),
    overStalls img chip (fun s => ((List.range 8).find? (fun k => s.uses k && !s.ctxRecs.any (fun c => c.1 == k))).map (fun k =>
      d.stallFinding 0x1004 s.row s.col 0 0 k 0)),
    overContexts img chip (fun s k r _ => (r.broken s.regions (img.codeLen chip s.row s.col k) (t5 s)).map (fun b =>
      d.stallFinding 0x1004 s.row s.col b.2 0 k b.1)),
    overContexts img chip (fun s k r _ => r.crossed.map (fun j => d.stallFinding 0x1004 s.row s.col j 0 k 3)),
    overContexts img chip (fun s k r code => (r.badWord (t5 s) code).map (fun pc => d.stallFinding 0x1005 s.row s.col 0 0 k pc))]

/-- Bodies and scopes (R240, R246). -/
def Device.checkBodies (d : Device) (img : Image) (chip : Nat) : Option LoadFault :=
  firstOf [
    overContexts img chip (fun s k r _ =>
      let n := s.bodies.getD k 0
      findWhen (n = 0 ∨ r.fireExpect % n ≠ 0) (d.stallFinding 0x1008 s.row s.col 0 0 k 0)),
    overContexts img chip (fun s k r code => (r.outOfScope code (s.decl k)).map (fun b =>
      d.stallFinding 0x1007 s.row s.col b.1 0 k b.2))]

/-- Layers and line buffers (R257 to R260, R272). -/
def Device.checkLayers (d : Device) (img : Image) (chip : Nat) : Option LoadFault :=
  firstOf [
    (img.geometries chip).findSome? (fun g => g.2.finding.map (fun c => d.stallFinding c g.2.gRow g.2.gCol 0 0 0 g.2.layer)),
    overContexts img chip (fun s k r code => match s.decl k with
      | some l => findWhen (decide (r.feed ≤ 3) && l.bad r code) (d.stallFinding 0x100C s.row s.col 0 0 k 0)
      | none => none)]

/-- Store contents (R309). -/
def Device.checkStores (d : Device) (img : Image) (chip : Nat) : Option LoadFault :=
  firstOf [
    overStalls img chip (fun s => (s.unwritten ((img.stores chip).map (fun r => r.2))).map (fun i =>
      d.stallFinding 0x1002 s.row s.col 0 0 0 i)),
    ((img.stores chip).find? (fun t => match img.stallAt chip t.2.row t.2.col with
      | some s => !t.2.inside s
      | none => false)).map (fun t => formatFault t.1)]

/-- R642. -/
def Device.checkSources (d : Device) (img : Image) (chip : Nat) : Option LoadFault :=
  overContexts img chip (fun s k _ code => (badSource code).map (fun pc => d.stallFinding 0x1005 s.row s.col 0 0 k pc))

end Machine

end Sys2Proof
end

