-- ==== Sys2Proof/Machine/Routes.lean ====
section
/-! DEFINITION. Routes and the arcade of an image (R198 to R206, R210): the walk of a route's branches, the checks of R210, the wheels and
credit lines the loader builds, and the checks of the EGRESS, PORTER, AISLE and TRESTLE sections (R388, R453, R488, R512, R532,
R542). -/

namespace Sys2Proof

open Sys2Proof.Machine

/-! ### Walking a branch -/

/-- A link that a branch uses: the stall it leaves, the lane output, its hop number, DLV and SRC of its wheel entries (R203, R204). -/
structure Hop where
  row : Nat
  col : Nat
  out : Nat
  n : Nat
  dlv : Bool
  src : Nat
  deriving DecidableEq, Repr

/-- How a branch ends. -/
inductive PathEnd where
  | stall (row col side : Nat)
  | edge (e row col out n : Nat)
  | bad (row col out n : Nat)
  deriving DecidableEq, Repr

/-- The other side. -/
def opposite (d : Nat) : Nat := (d + 2) % 4

/-- The logical stall one hop away. -/
def stepTo (rows row col d : Nat) : Option (Nat × Nat) :=
  match d with
  | 0 => if row = 0 then none else some (row - 1, col)
  | 1 => if 95 ≤ col then none else some (row, col + 1)
  | 2 => if rows ≤ row + 1 then none else some (row + 1, col)
  | _ => if col = 0 then none else some (row, col - 1)

/-- The edge position that an output off the Square leads to (R206). -/
def edgeOf (row col d : Nat) : Nat :=
  match d with
  | 0 => col
  | 1 => 96 + row
  | 2 => 160 + col
  | _ => 256 + row

/-- Follow a path from a stall; `prev` is the direction of the hop before. -/
def walk (rows row col n : Nat) (prev : Option Nat) : List Nat → List Hop × PathEnd
  | [] => ([], .stall row col (match prev with | some p => opposite p | none => 0))
  | d :: rest =>
    if prev = some (opposite d) then ([], .bad row col d n)
    else
      let hop : Hop := ⟨row, col, d, n, rest.isEmpty, match prev with | some p => 2 + opposite p | none => 1⟩
      match stepTo rows row col d with
      | none => if rest.isEmpty then ([hop], .edge (edgeOf row col d) row col d n) else ([], .bad row col d n)
      | some rc =>
        let w := walk rows rc.1 rc.2 (n + 1) (some d) rest
        (hop :: w.1, w.2)

/-- The stall after some hops of a path. -/
def posAfter (rows : Nat) : Nat → Nat → List Nat → Option (Nat × Nat)
  | row, col, [] => some (row, col)
  | row, col, d :: rest => match stepTo rows row col d with
    | some rc => posAfter rows rc.1 rc.2 rest
    | none => none

/-- The hops of branch `i` from where it leaves branch 0, and its end. -/
def Route.branchWalk (r : Route) (rows i : Nat) : List Hop × PathEnd :=
  let b0 := r.branches.headD ⟨0, [], 0⟩
  let b := r.branches.getD i ⟨0, [], 0⟩
  if i = 0 then walk rows r.srcRow r.srcCol 0 none b.path
  else if b.leaveAt = 0 then ([], .bad r.srcRow r.srcCol r.srcOut 0)
  else match posAfter rows r.srcRow r.srcCol (b0.path.take b.leaveAt), b0.path[b.leaveAt - 1]? with
    | some rc, some d => walk rows rc.1 rc.2 b.leaveAt (some d) b.path
    | _, _ => ([], .bad r.srcRow r.srcCol r.srcOut b.leaveAt)

/-- Every link of the route. -/
def Route.hops (r : Route) (rows : Nat) : List Hop := (List.range r.branches.length).flatMap (fun i => (r.branchWalk rows i).1)

/-- The links from the producer to the leaf of branch `i`. -/
def Route.leafPath (r : Route) (rows i : Nat) : List Hop :=
  if i = 0 then (r.branchWalk rows 0).1
  else ((r.branchWalk rows 0).1.take (r.branches.getD i ⟨0, [], 0⟩).leaveAt) ++ (r.branchWalk rows i).1

/-- Stalls without a STALL record from which a link of a route leaves: the image uses their pass-through registers (R198, R204). -/
def Image.crossed (img : Image) (chip : Nat) : List (Nat × Nat) :=
  ((img.routes chip).flatMap (fun r => r.2.hops (img.rows chip))).foldl (fun l h =>
    if (img.stallAt chip h.row h.col).isSome then l else insertNew (h.row, h.col) l) []

/-- The logical stalls that an image uses: those with a STALL record, then those that its routes only cross. -/
def Image.places (img : Image) (chip : Nat) : List (Nat × Nat) :=
  (img.stalls chip).map (fun s => (s.2.row, s.2.col)) ++ img.crossed chip

/-- Wheel entries that the route holds on hop `n` (R204). -/
def Route.entries (r : Route) (n : Nat) : List Nat := (List.range 16).filter (fun k => tb r.slots ((k + 16 * 3 - n % 16) % 16))

/-! ### Edge positions (R206, R488, R542) -/

/-- Fields of a CHANNEL record (R488). -/
def aKind (r : Nat) : Nat := fld r 0 2
def aOut (r : Nat) : Bool := !tb r 2
def aChan (r : Nat) : Nat := fld r 3 7
def aLink (r : Nat) : Nat := fld r 10 3
def aEdgeMode (r : Nat) : Bool := !tb r 13
def aEdge (r : Nat) : Nat := fld r 14 9
/-- The cells of a channel: (position, entry). -/
def aCells (r : Nat) : List (Nat × Nat) :=
  (List.range 16).filterMap (fun k => if fld r (5 * k + 23) 5 = 31 then none else some (fld r (5 * k + 23) 5, k))

/-- Ports of the TRESTLE section. -/
def Image.ports (img : Image) (chip : Nat) : List PortRec := match img.trestle chip with | some t => t.2.ports | none => []

/-- Is an edge position given a use that takes words out of the Square? -/
def Image.takesEdge (img : Image) (chip e : Nat) : Bool :=
  (img.egresses chip).any (fun r => r.2.basket == e)
    || (img.aisle chip).any (fun r => decide (aKind r.2 = 1 ∧ aEdge r.2 = e) && aOut r.2 && aEdgeMode r.2)
    || (img.ports chip).any (fun t => decide (t.kind = 2 ∧ t.edge = e))

/-- Edge positions that porters feed. -/
def Image.ingressEdges (img : Image) (chip : Nat) : List (Nat × Nat) :=
  (img.porters chip).flatMap (fun p => (p.2.descs.filter (fun x => decide (dOp x = 0 ∧ dDsp x = 4))).map (fun x => (dDaddr x, p.1)))

/-- The uses of edge positions: position, directory entry, kind of use (0 Aisle channel, 1 porter ingress, 2 egress, 3 Trestle port,
4 EGRESS_OUT, which fills the egress basket that it names). -/
def Image.edgeUses (img : Image) (chip : Nat) : List (Nat × Nat × Nat) :=
  ((img.aisle chip).filter (fun r => decide (aKind r.2 = 1) && aEdgeMode r.2)).map (fun r => (aEdge r.2, r.1, 0))
    ++ (img.egresses chip).map (fun r => (r.2.basket, r.1, 2))
    ++ (img.ingressEdges chip).map (fun r => (r.1, r.2, 1))
    ++ (img.ports chip).filterMap (fun t => if 2 ≤ t.kind ∧ t.kind ≤ 4 then
        some (t.edge, img.entryOf chip 14, if t.kind = 4 then 4 else 3) else none)

/-- Do two uses of one position go together? -/
def usesAgree (a b : Nat) : Bool := decide ((a = 1 ∧ b = 1) ∨ (a = 2 ∧ b = 4) ∨ (a = 4 ∧ b = 2))

/-- The second claim on an edge position (R488, R542). -/
def Image.edgeClash (img : Image) (chip : Nat) : Option LoadFault :=
  ((withEarlier [] (img.edgeUses chip)).find? (fun u => u.2.any (fun q => q.1 == u.1.1 && !usesAgree q.2.2 u.1.2.2))).map
    (fun u => formatFault u.1.2.1)

/-! ### The checks of R210 -/

namespace Machine

/-- Pairs of a route and a later one. -/
def routePairs : List Route → List (Route × Route)
  | [] => []
  | r :: rest => rest.map (fun q => (r, q)) ++ routePairs rest

/-- DRIVER_CONFLICT: one output, two routes. -/
def Device.driverConflict (d : Device) (rs : List Route) : Option LoadFault :=
  ((routePairs rs).find? (fun p => decide (p.1.srcRow = p.2.srcRow ∧ p.1.srcCol = p.2.srcCol ∧ p.1.srcOut = p.2.srcOut))).map (fun p =>
    let both := (p.1.entries 0).filter (fun k => decide (k ∈ p.2.entries 0))
    d.arcFinding 0x3001 p.2.srcRow p.2.srcCol p.2.srcOut ((both ++ p.2.entries 0).headD 0) 0)

/-- SLOT_COLLISION: an entry of a later hop is held by another route. -/
def Device.slotCollision (d : Device) (rs : List Route) (rows : Nat) : Option LoadFault :=
  let held := (rs.zipIdx).flatMap (fun r => (r.1.hops rows).flatMap (fun h => (r.1.entries h.n).map (fun k => (r.2, h, k))))
  (held.find? (fun x => decide (0 < x.2.1.n) && held.any (fun y => decide (y.1 ≠ x.1 ∧ y.2.1.row = x.2.1.row ∧ y.2.1.col = x.2.1.col
      ∧ y.2.1.out = x.2.1.out ∧ y.2.2 = x.2.2)))).map (fun x =>
    d.arcFinding 0x3002 x.2.1.row x.2.1.col x.2.1.out x.2.2 x.2.1.n)

/-- WIRE_CONFLICT: a steered wire outside its group (R196). -/
def Device.wireConflict (d : Device) (img : Image) (chip : Nat) : Option LoadFault :=
  (img.places chip).findSome? (fun rc => (List.range 4).findSome? (fun o => (List.range 5).findSome? (fun i =>
    let v := d.rf ARC (d.pageOf rc.1 rc.2) (0x180 + 8 * o) (5 * i) 5
    findWhen (decide (v ≠ 31) && decide ((if i = 4 then 8 else 16) ≤ v)) (d.arcFinding 0x3003 rc.1 rc.2 o 0 ((16 * i + v) % 72)))))

/-- The leaves of an image: route, branch. -/
def leafList (rs : List Route) : List (Route × Nat) := rs.flatMap (fun r => (List.range r.branches.length).map (fun i => (r, i)))

/-- BASKET_CONFLICT: a basket that is a leaf of two routes (R199). -/
def Device.basketConflict (d : Device) (rs : List Route) (rows : Nat) : Option LoadFault :=
  let leaves := (rs.zipIdx).flatMap (fun r => (List.range r.1.branches.length).map (fun i => (r.2, (r.1.branchWalk rows i).2)))
  (withEarlier [] leaves).findSome? (fun x =>
    let here := x.1.2
    match here with
    | .stall row col side => findWhen (x.2.any (fun y => decide (y.1 ≠ x.1.1 ∧ y.2 = here))) (d.arcFinding 0x3004 row col side 0 0)
    | .edge e row col out _ => findWhen (x.2.any (fun y => match y.2 with
        | .edge e' _ _ _ _ => e' == e && y.1 != x.1.1
        | _ => false)) (d.arcFinding 0x3004 row col out 0 0)
    | .bad _ _ _ _ => none)

/-- Leaves whose credits use a link, in order: the credit lines of the link (R200). -/
def linkLeaves (ls : List (Route × Nat)) (rows row col out : Nat) : List (Route × Nat) :=
  ls.filter (fun l => (l.1.leafPath rows l.2).any (fun h => decide (h.row = row ∧ h.col = col ∧ h.out = out)))

/-- CREDIT_CONFLICT: a link that needs more than four credit lines. -/
def Device.creditConflict (d : Device) (rs : List Route) (rows : Nat) : Option LoadFault :=
  (rs.flatMap (fun r => r.hops rows)).findSome? (fun h =>
    findWhen (4 < (linkLeaves (leafList rs) rows h.row h.col h.out).length) (d.arcFinding 0x3005 h.row h.col h.out 0 0))

/-- ROUTE_INVALID (R198, R201, R203, R206). -/
def Device.routeInvalid (d : Device) (img : Image) (chip rows : Nat) (r : Route) : Option LoadFault :=
  let first := d.arcFinding 0x3006 r.srcRow r.srcCol r.srcOut 0 0
  firstOf [
    findWhen (!decide (1 ≤ r.branches.length ∧ r.branches.length ≤ 4) || decide (r.slots % 65536 = 0) || decide (rows ≤ r.srcRow ∨ 95 < r.srcCol)
      || decide ((r.branches.headD ⟨0, [], 0⟩).path.head? ≠ some r.srcOut)) first,
    (List.range r.branches.length).findSome? (fun i =>
      let b := r.branches.getD i ⟨0, [], 0⟩
      match (r.branchWalk rows i).2 with
      | .bad row col out n => some (d.arcFinding 0x3006 row col out 0 n)
      | .stall row col _ =>
        findWhen (decide (31 < b.leaveAt + b.path.length) || b.path.isEmpty || (img.stallAt chip row col).isNone)
          (d.arcFinding 0x3006 row col (b.path.getLastD 0) 0 (b.leaveAt + b.path.length - 1))
      | .edge e row col out n =>
        findWhen (decide (31 < b.leaveAt + b.path.length) || !img.takesEdge chip e) (d.arcFinding 0x3006 row col out 0 n))]

/-- EXT_INVALID. -/
def Device.extInvalid (d : Device) (img : Image) (chip : Nat) : Option LoadFault :=
  overStalls img chip (fun s => ((List.range 4).find? s.extBad).map (fun b => d.arcFinding 0x3007 s.row s.col b 0 0))

/-- R210, in the order of its table. -/
def Device.checkArcade (d : Device) (img : Image) (chip : Nat) : Option LoadFault :=
  let rs := (img.routes chip).map (fun r => r.2)
  let rows := img.rows chip
  firstOf [d.driverConflict rs, d.slotCollision rs rows, d.wireConflict img chip, d.basketConflict rs rows, d.creditConflict rs rows,
    rs.findSome? (d.routeInvalid img chip rows), d.extInvalid img chip]

/-! ### PORTER, AISLE and TRESTLE sections -/

/-- Descriptors of the rota with their directory entry and channel. -/
def rotaDescs (img : Image) (chip : Nat) : List (Nat × Nat × Desc) :=
  (img.porters chip).flatMap (fun p => p.2.descs.map (fun x => (p.1, p.2.channel, x)))

/-- Is a channel number an outgoing one in porter mode? -/
def porterChan (img : Image) (chip k : Nat) : Bool :=
  (img.aisle chip).any (fun r => decide (aKind r.2 = 1 ∧ aChan r.2 = k) && aOut r.2 && !aEdgeMode r.2)

/-- A descriptor that is refused: R388, R453, R512, R542, R488. -/
def descRefused (img : Image) (chip : Nat) (all : List (Nat × Nat × Desc)) (ch : Nat) (x : Desc) : Bool :=
  !dPlain x || (decide (dOp x = 0) && (
    (decide (dDsp x = 5) && (decide (512 < dLength x)
        || all.any (fun q => decide (q.2.1 ≠ ch ∧ dOp q.2.2 = 0 ∧ dDsp q.2.2 = 5 ∧ dDaddr q.2.2 = dDaddr x))))
      || (decide (dDsp x = 6) && decide (1464 < dLength x))
      || (decide (dDsp x = 3) && !decide (((img.ports chip)[dDaddr x % 16]?).map (fun t => t.kind) = some 1))
      || (decide (dDsp x = 7) && !porterChan img chip (dDaddr x % 128))))

/-- The PORTER section. -/
def checkPorters (img : Image) (chip : Nat) : Option LoadFault :=
  let all := rotaDescs img chip
  (all.find? (fun q => descRefused img chip all q.2.1 q.2.2)).map (fun q => formatFault q.1)

/-- A CHANNEL record that R488 refuses, given the records before it. -/
def channelBad (recs : List Nat) (r : Nat) (before : List Nat) : Bool :=
  let same := before.filter (fun q => decide (aKind q = 1) && (aOut q == aOut r))
  (aCells r).any (fun c => decide (26 < c.1)) || !recs.any (fun q => decide (aKind q = 0 ∧ fld q 2 3 = aLink r) && tb q 24)
    || same.any (fun q => decide (aChan q = aChan r)) || same.any (fun q => decide (aLink q = aLink r)
        && (aCells q).any (fun c => decide (c ∈ aCells r)))

/-- The AISLE section. -/
def checkAisles (img : Image) (chip : Nat) : Option LoadFault :=
  let recs := img.aisle chip
  firstOf [
    (recs.find? (fun r => aKind r.2 == 3)).map (fun r => formatFault r.1),
    ((withEarlier [] recs).find? (fun r => decide (aKind r.1.2 = 1)
      && channelBad (recs.map (fun q => q.2)) r.1.2 (r.2.map (fun q => q.2)))).map (fun r => formatFault r.1.1)]

/-- The TRESTLE section (R532). -/
def checkTrestle (img : Image) (chip : Nat) : Option LoadFault :=
  match img.trestle chip with
  | none => none
  | some (i, t) => findWhen (decide (1572864 < t.stream.length) || t.ports.any (fun p => decide (6 < p.kind)) || t.bankStd.any (fun b => decide (7 < b)))
      (formatFault i)

/-! ### What the loader builds (R201 to R204, R215, R325) -/

/-- Wheel entry `k` of output `o` of a logical stall. -/
def wheelOf (rs : List Route) (rows row col o k : Nat) : Nat :=
  let held := rs.flatMap (fun r => (r.hops rows).filter (fun h => decide (h.row = row ∧ h.col = col ∧ h.out = o ∧ k ∈ r.entries h.n)))
  match held with
  | [] => 0
  | h :: _ => h.src + 8 * b2n (held.any (fun x => x.dlv))

/-- Eight entries as a register word. -/
def wheelWord (rs : List Route) (rows row col o base : Nat) : Nat :=
  ((List.range 8).map (fun i => wheelOf rs rows row col o (base + i) * 16 ^ i)).sum

/-- The credit line of a leaf on a link. -/
def lineOf (rs : List Route) (rows row col o : Nat) (l : Route × Nat) : Nat :=
  ((linkLeaves (leafList rs) rows row col o).findIdx? (fun q => decide (q = l))).getD 0

/-- CRLINE of side `side` of a stall: what each credit line that leaves through it carries (R215). -/
def crlineWord (rs : List Route) (rows row col side : Nat) : Nat :=
  match stepTo rows row col side with
  | none => 0
  | some up =>
    (((linkLeaves (leafList rs) rows up.1 up.2 (opposite side)).zipIdx).map (fun l =>
      let path := l.1.1.leafPath rows l.1.2
      let next := ((path.dropWhile (fun h => !decide (h.row = up.1 ∧ h.col = up.2 ∧ h.out = opposite side))).drop 1).head?
      let v := match next with
        | none => 1
        | some h => 2 + h.out + 8 * lineOf rs rows h.row h.col h.out l.1
      if l.2 < 4 then v * 32 ^ l.2 else 0)).sum

/-- Leaves whose producer is a lane output, with their credit lines. -/
def ownLeaves (rs : List Route) (rows row col o : Nat) : List (Nat × Route × Nat) :=
  ((leafList rs).filter (fun l => decide (l.1.srcRow = row ∧ l.1.srcCol = col ∧ l.1.srcOut = o))).map (fun l =>
    (lineOf rs rows row col o l, l))

/-- GEN tokens of an image that leave an output from a pass-through source (R325). -/
def genPassOf (img : Image) (chip row col o : Nat) : Nat :=
  let rows := img.rows chip
  (((img.routes chip).map (fun r => r.2)).map (fun r =>
    if (r.hops rows).any (fun h => decide (h.row = row ∧ h.col = col ∧ h.out = o ∧ 0 < h.n)) then
      (match img.stallAt chip r.srcRow r.srcCol with
        | some s => (s.contexts.filter (fun c => tb c.2.fwdSlot r.srcOut)).length
        | none => 0)
    else 0)).sum

end Machine

end Sys2Proof
end

