-- ==== Sys2Proof/Machine/Loader.lean ====
section
/-! DEFINITION. The loader: commands and refusals (R315, R316, R319, R331), stage 1 (R314, R317, R320, R489), what a load writes (R317 steps
5 to 8, R326), the switch of a stall (R325), completion and failure (R327 to R329, R353). The bells that a load waits for are in
Bell.lean. -/

namespace Sys2Proof

/-- First word of a region of a KIND, and its size. -/
def StallRec.region (s : StallRec) (kind : Nat) : Nat × Nat :=
  match s.regions.find? (fun r => r.kind == kind) with
  | some r => (r.base, r.size)
  | none => (0, 0)

end Sys2Proof

namespace Sys2Proof.Machine

/-! ### State of a load -/

/-- LOAD_STATUS.STATE and KIND (R337). -/
def Device.loadState (d : Device) : Nat := d.rf CLK 0 0x110 0 3
def Device.setLoadState (d : Device) (v : Nat) : Device := d.setF CLK 0 0x110 0 3 v

/-- STATUS.HALTED and STATUS.RUNNING of the BEL page (R254). -/
def Device.marketHalted (d : Device) : Bool := d.rb BEL 0 0x010 1
def Device.bellsRing (d : Device) : Bool := d.rb BEL 0 0x010 0

/-- STATE when no load is under way: running, or idle. -/
def Device.restState (d : Device) : Nat := if d.loader.running.isSome && !d.marketHalted then 5 else 0

/-- The device's switches that a load under way holds, as they are without one. KIND stays that of the load. -/
def Device.endLoad (d : Device) : Device :=
  let d1 := { d with loader := { d.loader with staged := none, ready := false, loaded := false, switched := [], written := [], wroteAll := false, reload := false } }
  ({ d1 with bell := { d1.bell with decided := d1.bell.decided.filter (fun k => decide (k.1 ≠ 1 ∧ k.1 ≠ 2)) } }.setLoadState d1.restState).setB
    RSV 0 0x010 1 false

/-- The links, registers and discoveries of the Aisles as they were before the LOAD: what stage 1 has trained, and the timing link that it has named
(R315, R319). -/
def Device.restoreLinks (d : Device) : Device :=
  match d.loader.linksWas with
  | none => d
  | some (regs, a) =>
    let was := fun (u o : Nat) => KMap.get regs (regKey AIS u o) (regReset AIS u o)
    let d1 := d.loader.trained.foldl (fun e l =>
      [0x010, 0x108, 0x10C, 0x110].foldl (fun f o => f.setReg AIS l o (was l o)) (e.setLink l (a.links.getD l {}))) d
    let d2 := if d.loader.trained = [] then d1
      else { d1 with aisles := { d1.aisles with laneMaps := a.laneMaps, digests := a.digests, lats := a.lats, seen := a.seen } }.setReg
        AIS 8 0x10C (was 8 0x10C)
    let d3 := { d2 with aisles := { d2.aisles with index := a.index, market := a.market } }
    if tb (was 8 0x010).toNat 7 then d3
    else (d3.setF AIS 8 0x010 4 4 (fld (was 8 0x010).toNat 4 4)).setReg AIS 8 0x110 (was 8 0x110)

/-- The end of a load that is refused or stopped before its load bell: KIND and the Aisles too are as they were before the LOAD (R315, R319). -/
def Device.dropLoad (d : Device) : Device := d.restoreLinks.endLoad.setB CLK 0 0x110 3 d.loader.kindWas

/-- A refusal: LOAD_REFUSE, the finding's fault registers, LOAD_REFUSED; a Reserve reload says so too (R315, R74, R595). -/
def Device.refuseLoad (d : Device) (f : LoadFault) : Device :=
  let d1 := ((d.fault f.block f.unit f.code f.loc).setN CLK 0 0x114 f.code).raise CLK 0 1
  let d2 := if d.loader.reload then (d1.log 0xB705 RSV 0 0 f.code).raise RSV 0 5 else d1
  d2.loadDisarms.dropLoad

/-- GEN_PASS of every stall is cleared (R325, ABORT). -/
def Device.clearGenPass (d : Device) : Device :=
  { d with regs := d.regs.filter (fun kv => !decide (kv.1 / 4096 / 8192 = ARC ∧ 0x1E0 ≤ kv.1 % 4096)) }

/-! ### Commands (R316, R319, R331) -/

/-- A cause of R316 that does not depend on the new image. -/
def Device.mustLoadFull (d : Device) : Bool :=
  d.loader.running.isNone || d.marketHalted || d.rb RSV 0 0x010 0
    || d.stalls.any (fun s => s.2.faulted || s.2.parityClosed) || d.reserve.bistLost

/-- A training takes CHIP_INDEX and MARKET_ID (R493). -/
def Device.takeIndex (d : Device) : Device :=
  { d with aisles := { d.aisles with index := d.rf AIS 8 0x100 0 15, market := BitVec.ofNat 32 (d.regN AIS 8 0x108) } }

/-- Source 1 drops when no link waits for a replay within its 128 cycles (R475). -/
def Device.retryEnds (d : Device) : Device :=
  if d.aisles.links.any (fun k => k.badNow && !k.slow) then d else d.hushDrop 1

/-- A link trains (R484): its queues and its replay buffer start anew, and LANE_MAP takes effect (R486). A replay that it waited for ends. -/
def Device.trainLink (d : Device) (l : Nat) : Device :=
  let d1 := ((((d.setLink l {}).setF AIS l 0x010 0 3 1).setF AIS l 0x010 4 3 0).emit (.train l)).retryEnds
  { d1 with aisles := { d1.aisles with laneMaps := upd d1.aisles.laneMaps l (fun _ => d.rf AIS l 0x100 0 3) } }.takeIndex

/-- The chips of the market are to be discovered anew (R485). -/
def Device.discoverAnew (d : Device) : Device :=
  { d with aisles := { d.aisles with digests := [], lats := [], seen := [] } }.setN AIS 8 0x10C 1

/-- Training for a full load (R484). DEDUCED (assumption 121): the resource check of stage 1 needs the links, and a refusal may change nothing, so the
links that are not up train at the LOAD, before stage 1, and those that are up, which the running image may use, train at step 5. -/
def Device.trainDown (d : Device) : Device :=
  let on := (List.range 8).filter (fun l => d.rb AIS l 0x008 0)
  let down := on.filter (fun l => decide (d.rf AIS l 0x010 0 3 ≠ 1 ∧ d.rf AIS l 0x010 0 3 ≠ 2))
  if on = [] then d.takeIndex
  else if down = [] then d
  else
    let d1 := down.foldl (fun a l => a.trainLink l) { d with loader := { d.loader with trained := down } }
    if down = on then d1.discoverAnew else d1

/-- Step 5: the other enabled links train. -/
def Device.trainRest (d : Device) : Device :=
  let rest := (List.range 8).filter (fun l => d.rb AIS l 0x008 0 && decide (l ∉ d.loader.trained))
  if rest = [] then d else (rest.foldl (fun a l => a.trainLink l) d).discoverAnew

/-- A load starts at stage 1. -/
def Device.startLoad (d : Device) (full : Bool) : Device :=
  let f := full || d.mustLoadFull
  let d1 := (d.loadDisarms.setLoadState 1).setB CLK 0 0x110 3 f
  let d2 := { d1 with loader := { d1.loader with full := f, ready := false, loaded := false, switched := [], written := [], wroteAll := false, loadBell := 0, kindWas := d.rb CLK 0 0x110 3,
                                                  trained := [], linksWas := some (d.regs.filter (fun kv => decide (kv.1 / 4096 / 8192 = AIS)), d.aisles) },
                      warden := { d1.warden with stagedOk := false } }
  let d3 := (List.range 8).foldl (fun a ch => a.setB PRT ch 0x010 3 false) d2
  if f then d3.trainDown else d3

/-- LOAD: BUSY while a load is under way; before PREP_DONE it waits (R331, R613). -/
def Device.loadCmd (d : Device) (full : Bool) : Device :=
  if 1 ≤ d.loadState ∧ d.loadState ≤ 4 then
    ((d.fault CLK 0 0x8001 0).setN CLK 0 0x114 0x8001).raise CLK 0 1
  else if !d.rb CLK 0 0x180 8 then { d with loader := { d.loader with waitPrep := some full } }
  else d.startLoad full

def execLoad (s : State) : Host.Outcome State Fault Refusal := s.act (Instr.wf .load) (fun d => d.loadCmd false)
def execLoadFull (s : State) : Host.Outcome State Fault Refusal := s.act (Instr.wf .loadFull) (fun d => d.loadCmd true)

/-- ABORT: stops a load before its load bell (R319). -/
def Device.abortLoad (d : Device) : Device :=
  if d.loadState = 1 ∨ d.loadState = 2 then d.clearGenPass.dropLoad else { d with loader := { d.loader with waitPrep := none } }

def execAbort (s : State) : Host.Outcome State Fault Refusal := s.act (Instr.wf .abort) Device.abortLoad

/-! ### Stage 1 -/

/-- Does a bank's latest reading lie in the band of its standard (R538, R539)? Readings are in 20 mV steps. -/
def bankInBand (std reading : Nat) : Bool :=
  let mv := 20 * reading
  let band := match std with
    | 1 => (3140, 3460)
    | 2 => (2380, 2620)
    | 3 => (1720, 1880)
    | 4 => (1440, 1560)
    | 5 => (1140, 1260)
    | 6 => (2380, 2620)
    | 7 => (1720, 3460)
    | _ => (0, 20 * 255)
  decide (band.1 ≤ mv ∧ mv ≤ band.2)

/-- Banks of an image whose reading lies outside the band. -/
def Device.banksOut (d : Device) (std : List Nat) : List Nat :=
  (List.range 6).filter (fun b => !bankInBand (std.getD b 0) (d.rf TRS 0 (0x100 + 4 * b) 0 8))

/-- LINK records of used links whose partner is not the one that training found (R489). -/
def Device.wrongPartner (d : Device) (recs : List Nat) : Bool :=
  recs.any (fun r => decide (aKind r = 0) && tb r 24
    && (!d.rb AIS (fld r 2 3) 0x108 31 || decide (d.rf AIS (fld r 2 3) 0x108 0 15 ≠ fld r 5 15)
      || decide (d.rf AIS (fld r 2 3) 0x108 16 3 ≠ fld r 20 3)))

/-- The resource check of R314; the digest that the partners exchange (R489) comes from another chip: a free value. -/
def Device.checkResources (d : Device) (img : Image) (chip : Nat) (bind : List DWord) : Option LoadFault :=
  match img.market chip, img.require chip with
  | some (_, m), some (i, q) =>
    let recs := (img.aisle chip).map (fun r => r.2)
    let trs := match img.trestle chip with | some t => (t.2.cells, t.2.bankStd) | none => (0, [0, 0, 0, 0, 0, 0])
    firstOf [
      findWhen (q.trestleCells ≠ trs.1 ∨ q.bankStd ≠ trs.2) (formatFault i),
      findWhen (d.availRows < m.rows) (resFault 0x2001),
      findWhen (d.rf AIS 8 0x10C 0 16 ≠ m.chips + 1 ∨ m.chips < m.master ∨ d.rb AIS 8 0x014 3) (resFault 0x2002),
      d.storeFits img chip,
      findWhen (2 ^ 27 < symValue bind 0 + q.depotBytes) (resFault 0x2004),
      findWhen (d.sthBytes - 2 ^ 30 < symValue bind 1 + q.sthBytes) (resFault 0x2005),
      findWhen (56 < q.porters ∨ 56 < (img.porters chip).length) (resFault 0x2006),
      findWhen (4096 < symValue bind 2 + q.rings) (resFault 0x2007),
      findWhen (995328000 * d.availDecoders < q.pixelRate) (resFault 0x2008),
      findWhen ((List.range 8).any (fun l => tb q.linkMask l && decide (d.rf AIS l 0x010 0 3 ≠ 2)) || d.wrongPartner recs
        || (recs.any (fun r => decide (aKind r = 0) && tb r 24) && d.free.getLsbD 0)) (resFault 0x2009),
      findWhen (49152 < q.trestleCells ∨ d.banksOut q.bankStd ≠ []) (resFault 0x200A)]
  | _, _ => none

/-- The record checks of step 3, in its order, and the sections that other chapters check. -/
def Device.checkRecords (d : Device) (img : Image) (chip : Nat) : Option LoadFault :=
  firstOf [d.storeFits img chip, d.checkPrograms img chip, d.checkArcade img chip, d.checkBodies img chip, d.checkLayers img chip,
    d.checkStores img chip, img.mismatched chip,
    img.depotBad chip (match img.require chip with | some q => q.2.depotBytes | none => 0),
    d.checkSources img chip, checkPorters img chip, checkAisles img chip, checkTrestle img chip, img.edgeClash chip]

/-- STATUS.BANK_REFUSED after the check of the banks (R539). -/
def Device.noteBanks (d : Device) (img : Image) (chip : Nat) : Device :=
  match img.trestle chip with
  | some t => d.setF TRS 0 0x010 16 6 (bitSet (d.banksOut t.2.bankStd) 0)
  | none => d.setF TRS 0 0x010 16 6 0

/-- Does the running image differ in CHIPS, MASTER or ROWS (R316)? -/
def Device.shapeDiffers (d : Device) (img : Image) (chip : Nat) : Bool :=
  match d.loader.running with
  | none => true
  | some old =>
    match old.market chip, img.market chip with
    | some (_, a), some (_, b) => decide (a.chips ≠ b.chips ∨ a.master ≠ b.master ∨ a.rows ≠ b.rows)
    | _, _ => true

/-- GEN_PASS of every output, from the image that runs (R325). -/
def Device.writeGenPass (d : Device) (chip : Nat) : Device :=
  match d.loader.running with
  | none => d
  | some old => (old.places chip).foldl (fun a rc =>
      match a.physOf rc.1 rc.2 with
      | some p => (List.range 4).foldl (fun b o => b.setN ARC p (0x1E0 + 4 * o) (genPassOf old chip rc.1 rc.2 o % 4096)) a
      | none => a) d

/-- The timing link that a LINK record names (R488), with the latency from the master that came on it (R485). -/
def Device.bindTiming (d : Device) (img : Image) (chip : Nat) : Device :=
  match ((img.aisle chip).map (fun r => r.2)).find? (fun r => decide (aKind r = 0) && tb r 23) with
  | none => d.setB AIS 8 0x010 7 false
  | some r =>
    let l := fld r 2 3
    let master := match img.market chip with | some m => m.2.master | none => 0
    let d1 := (d.setF AIS 8 0x010 4 3 l).setB AIS 8 0x010 7 true
    match d.aisles.lats.find? (fun x => decide (x.1 = l ∧ x.2.1 = master)) with
    | some x => d1.setN AIS 8 0x110 x.2.2
    | none => d1

/-- Stage 1 succeeds: the relocated image is staged, and the chip waits for the load bell; with no bell ringing the load goes on. -/
def Device.stageDone (d : Device) (img : Image) (bind : List DWord) : Device :=
  let full := d.loader.full || d.shapeDiffers img d.chipIndex
  let gen : BitVec 2 := if d.loader.everLoaded then d.loader.gen + 1 else 0
  let d1 := { d with loader := { d.loader with staged := some img, ready := true, full := full, newGen := gen, bind := bind } }
  let d1 := if d.rb AIS 8 0x010 7 then d1 else d1.bindTiming img d.chipIndex
  let d2 := ((d1.setLoadState 2).setB CLK 0 0x110 3 full).relayReady 1
  if full then d2 else d2.writeGenPass d.chipIndex

/-- Stage 1 of a load from an image that the Warden has verified. -/
def Device.stageOne (d : Device) (img : Image) : Device :=
  let chip := d.chipIndex
  let c := d.copyBind
  let chips := match img.market chip with | some m => m.2.chips | none => 0
  match img.directory chip with
  | some f => d.refuseLoad f
  | none => match img.relocated chip chips c.1 with
    | .inl f => d.refuseLoad f
    | .inr x =>
      match firstOf [x.marketLimits chip, d.checkResources x chip c.1] with
      | some f => (d.useFree.noteBanks x chip).refuseLoad f
      | none => match d.checkRecords x chip with
        | some f => (d.useFree.noteBanks x chip).refuseLoad f
        | none => (c.2.useFree.noteBanks x chip).stageDone x c.1

/-- A Reserve reload runs the resource check only, on the image that runs (R595). -/
def Device.stageReload (d : Device) : Device :=
  match d.loader.running with
  | none => d
  | some img => match d.checkResources img d.chipIndex d.loader.bindRun with
    | some f => d.refuseLoad f
    | none => d.useFree.stageDone img d.loader.bindRun

/-! ### What step 5 does -/

/-- A remap entry becomes ACTIVE (R408). -/
def Remap.activate (r : Remap) : Remap :=
  if r.twinOk && r.pending then
    let w : Word := BitVec.ofNat 32 (r.addr + 2 ^ 31)
    ⟨w, ~~~w, r.spare⟩
  else r

/-- The stored form in which a word of a failing bank goes into the spare bank (R594). -/
def carried (c : CodeWord) : CodeWord :=
  let r := decodeWord c
  encodeWord r.data r.spoil

/-- The failing bank's contents are copied into bank 16. -/
def Device.copyBank (d : Device) (b : Nat) : Device :=
  let size := 131072 * 8
  let others := d.depot.mem.filter (fun kv => decide (kv.1 / size ≠ 16))
  let plain := (d.depot.mem.filter (fun kv => decide (kv.1 / size = b))).foldl (fun m kv =>
    KMap.set m (16 * size + kv.1 % size) (carried kv.2) 0) others
  let words := (KMap.get d.depot.remaps b []).filter (fun r => r.active && r.twinOk)
  let mem := words.foldl (fun m r => (List.range 8).foldl (fun m' lane =>
    KMap.set m' (depotKey 16 r.addr lane) (carried (d.depotCode b r.addr lane)) 0) m) plain
  { d with depot := { d.depot with mem := mem } }.depotFillFlip 16 (fun w lane => KMap.get mem (depotKey 16 w lane) 0)

/-- The pending map becomes the active map (R594), and remap entries become active (R408); every map word is checked as it is used (R593). -/
def Device.applyMaps (dIn : Device) : Device :=
  let d := dIn.checkMaps
  let d0 := match d.reserve.pendDep with
    | some b => if d.actDep = some b then d else d.copyBank b
    | none => d
  let d1 := (List.range 64).foldl (fun a r =>
    (List.range 4).foldl (fun e w => e.setMap (actMask r w) (e.mapWord (pendMask r w))) a) d0
  let d2 := (d1.setMap 0x110 (decWord d.reserve.pendDec)).setMap 0x114 (depWord d.reserve.pendDep)
  let d3 := (List.range 8).foldl (fun a l =>
    let v := KMap.get d.reserve.pendLane l 0
    a.setN AIS l 0x100 (if v = 0 then 7 else v - 1)) d2
  let d3 := d.reserve.pendWires.foldl (fun a w => a.setF ARC w.1 (0x180 + 8 * w.2.1) (5 * (w.2.2 / 16)) 5 (w.2.2 % 16)) d3
  let d4 := { d3 with
    stalls := d3.stalls.map (fun (kv : Nat × Stall) => (kv.1, { kv.2 with remaps := kv.2.remaps.map Remap.activate })),
    depot := { d3.depot with remaps := d3.depot.remaps.map (fun (kv : Nat × List Remap) => (kv.1, kv.2.map Remap.activate)) },
    gate := { d3.gate with badEngines := [] },
    reserve := { d3.reserve with mapped := true, bistLost := false, cands := [], actRows := d3.reserve.pendRows, pendWires := [],
                                 newBase := false, baseDue := d3.reserve.baseDue || d3.reserve.newBase },
    loader := { d3.loader with reserveDue := d3.loader.reserveDue || d.rb RSV 0 0x010 0 } }
  d4.setB RSV 0 0x010 0 false

/-- A basket without words. -/
def Basket.emptied (k : Basket) : Basket := { ext := k.ext, base := k.base }

/-- A context outside every body, with no token waiting for others. -/
def Ctx.emptied (c : Ctx) : Ctx :=
  { c with inBody := false, feeding := false, draining := [], joined := [], joinVoid := false, genJoined := [], genDone := false, owed := 0 }

/-- A stall without words, fills, groups or bodies. -/
def Stall.emptied (s : Stall) : Stall :=
  { s with
    baskets := s.baskets.map Basket.emptied, outq := [[], [], [], []], forward := [], openGroups := [], planeFills := []
    latchFills := [], switchTo := none, branchTo := none, parityCount := 0, switched := false, ctxs := s.ctxs.map Ctx.emptied }

/-- Nothing of the pipeline is left under way: sums, rescale stages, reads, result writes and fills (R103, R106). -/
def Stall.quiet (s : Stall) : Stall :=
  { s with
    accLag := [], stages := [], reads := [], landing := [], wgReads := [], planeAt := none, latchAt := none, operandHalf := false
    pushed := [], fedAt := none, endedAt := none, faulting := false, waitAt := none }

/-- An egress basket without words. -/
def Egress.emptied (e : Egress) : Egress := { e with packed := [], part := none, staging := [], got := 0, oversize := false }

/-- Everything that holds words of the Square is emptied: baskets, output queues, lanes, edges, Aisle queues (R317 step 5, R490). -/
def Device.emptySquare (d : Device) : Device :=
  let st : KMap Stall := d.stalls.map (fun (kv : Nat × Stall) => (kv.1, kv.2.emptied))
  let eg : KMap Egress := d.arcade.egress.map (fun (kv : Nat × Egress) => (kv.1, kv.2.emptied))
  let links := d.aisles.links.map (fun (l : Link) => { l with unacked := [], resend := [], txCells := [], txCred := [] })
  let ar := { d.arcade with lanes := [], credits := [], leaves := [], egress := eg, edgeTokens := [], edgeGens := [] }
  { d with stalls := st, arcade := ar, aisles := { d.aisles with outs := [], ins := [], links := links } }

/-- Every stall holds closed: CTRL.CLOSE with its complement (R123). -/
def Device.closeAll (d : Device) : Device :=
  { d with regs := d.regs.foldl (fun m kv =>
      if kv.1 / 4096 / 8192 = STL ∧ kv.1 % 4096 = 0x008 then
        KMap.set m kv.1 (BitVec.ofNat 32 (putFld kv.2.toNat 0 1 1)) (regReset STL 0 0x008)
      else m) d.regs }

/-- The rota's porters stop (R250, R317). -/
def Device.stopRota (d : Device) : Device :=
  let chs := (d.chans.filter (fun kv => kv.2.rota)).map (fun kv => kv.1)
  let d1 := chs.foldl (fun a ch => ((a.setBusy ch false).setPorterPc ch 0).setB PRT ch 0x010 4 false) d
  { d1 with chans := d1.chans.map (fun kv => if kv.2.rota then (kv.1, { kv.2 with run := none, due := [], emit := [] }) else kv) }

/-! ### Steps 6 and 7 for one stall -/

/-- A context as the load leaves it (R129). -/
def Ctx.fresh (s : StallRec) (k : Nat) (gen : BitVec 2) : Ctx :=
  match s.contexts.find? (fun c => c.1 == k) with
  | some c => { used := true, rec_ := some c.2, lb := s.decl k, limits := c.2.loopBound, gen := gen, rescaleN := s.rescaleN.getD k 0,
                bodies := s.bodies.getD k 0 }
  | none => {}

/-- The stall's own state after steps 6 and 7; what a load does not write stays (R108). -/
def Stall.reloaded (t : Stall) (s : StallRec) : Stall :=
  { t.quiet with
    ctxs := (List.range 8).map (fun k => Ctx.fresh s k t.gen)
    cur := (s.contexts.headD (0, ⟨0, 0, 0, [], [], [], 0, 0, 0, 0, 0, 0, 0, 0, 0, []⟩)).1
    switchTo := none, noIssue := none, faulted := false, parityClosed := false
    setBase := [(s.region 1).1, (s.region 2).1], setWords := (s.region 1).2, regions := s.regions
    openGroups := [], planeFills := [], latchFills := [], outq := [[], [], [], []], forward := [], branchTo := none
    baskets := (List.range 4).map (fun b => { ext := s.ext.getD b 0, base := ((s.extRegions b).map (fun r => r.base)).headD 0 })
    lutBad := [], switched := false, waitIn := false, waitOut := false }

/-- Program words with their parity bit (R110). -/
def withParity (w : Nat) : BitVec 33 := BitVec.ofNat 33 (w + b2n (parityOf 32 w) * 2 ^ 32)

/-- Every word of a stall's program store gets the parity bit of its data. -/
def reprog (p : Nat) (m : KMap (BitVec 33)) : KMap (BitVec 33) :=
  (m.map (fun kv => if kv.1 / 2048 = p then (kv.1, withParity (kv.2.toNat % 2 ^ 32)) else kv)).filter (fun kv => decide (kv.2 ≠ 0))

/-- Loader porters write a stall: program stores, look-up table, STORE words, seed, counts and G_INIT (R317 step 6). They write every word of the
program store and of the table (R108). DESIGN CHOICE (assumption 112): the manual does not state what they write where the image gives no contents, in
the program words past LENGTH and in a table without a LUT record; it is the data that the word held, with good parity. -/
def Device.writeContents (d : Device) (img : Image) (chip p : Nat) (s : StallRec) : Device :=
  let progs := s.contexts.foldl (fun m c => ((img.programOf chip s.row s.col c.1).zipIdx).foldl (fun m' wi =>
    KMap.set m' ((8 * p + c.1) * 256 + wi.2) (withParity wi.1) 0) m) (reprog p d.prog)
  let d1 := { d with prog := progs }
  let lut := (((img.luts chip).find? (fun l => decide (l.2.row = s.row ∧ l.2.col = s.col))).map (fun l => l.2.entries)).getD []
  let d2 := if lut = [] then d1 else (List.range 64).foldl (fun a i =>
    a.setN STL p (0x500 + 4 * i) (leNat ((lut.drop (4 * i)).take 4))) d1
  let d3 := ((img.stores chip).filter (fun r => decide (r.2.row = s.row ∧ r.2.col = s.col))).foldl (fun a r =>
    (r.2.words.zipIdx).foldl (fun b wi => b.storeWrite p ((r.2.wa + wi.2) % 8192) wi.1 false) a) d2
  let d4 := d3.setReg STL p 0x100 s.seed
  s.contexts.foldl (fun a c =>
    let a1 := (List.range 16).foldl (fun b g => b.setGreg p c.1 g (c.2.gInit.getD g 0)) a
    let a2 := (List.range 4).foldl (fun b i => b.setCnt p c.1 i 0) a1
    (a2.setPc p c.1 c.2.entry).setN STL p (0x1C0 + 4 * c.1) c.2.fireExpect) d4

/-- The basket or egress basket of a leaf: where it ends, and its capacity (R173, R206, R207). -/
def Device.leafAt (d : Device) (img : Image) (chip : Nat) (e : PathEnd) : Option (LaneEnd × Nat) :=
  match e with
  | .stall row col side => (d.physOf row col).map (fun q =>
      (.basket q side, 8 + ((img.stallAt chip row col).map (fun s => s.ext.getD side 0)).getD 0))
  | .edge e _ _ _ _ => some (.edge e, 16)
  | .bad _ _ _ _ => none

/-- Arcade registers of a stall, and FREE of the leaves of its routes (R174, R201, R215). -/
def Device.writeArcade (d : Device) (img : Image) (chip p row col : Nat) : Device :=
  let rs := (img.routes chip).map (fun r => r.2)
  let rows := img.rows chip
  (List.range 4).foldl (fun a o =>
    let own := ownLeaves rs rows row col o
    let a1 := (a.setN ARC p (0x100 + 0x20 * o) (wheelWord rs rows row col o 0)).setN ARC p (0x108 + 0x20 * o)
      (wheelWord rs rows row col o 8)
    let a2 := ((a1.setN ARC p (0x110 + 0x20 * o) (crlineWord rs rows row col o)).setN ARC p (0x118 + 0x20 * o)
      (bitSet (own.map (fun l => l.1)) 0)).setN ARC p (0x1E0 + 4 * o) 0
    own.foldl (fun b l => b.setFree p o l.1 (((b.leafAt img chip (l.2.1.branchWalk rows l.2.2).2).map (fun x => x.2)).getD 0)) a2) d

/-- The arcade registers of every stall as they are without routes (R317 step 7); WIRE_MAP stays. -/
def Device.clearArcade (d : Device) : Device :=
  { d with regs := d.regs.filter (fun kv => !decide (kv.1 / 4096 / 8192 = ARC
      ∧ (0x100 ≤ kv.1 % 4096 ∧ kv.1 % 4096 < 0x180 ∨ 0x1A0 ≤ kv.1 % 4096 ∧ kv.1 % 4096 < 0x1F0))) }

/-- Leaves of routes with their producers (R174). -/
def Device.routeLeaves (d : Device) (img : Image) (chip : Nat) : List Leaf :=
  let rs := (img.routes chip).map (fun r => r.2)
  let rows := img.rows chip
  (leafList rs).filterMap (fun l =>
    match d.leafAt img chip (l.1.branchWalk rows l.2).2, d.physOf l.1.srcRow l.1.srcCol with
    | some x, some p =>
      let path := l.1.leafPath rows l.2
      let line := match path.getLast? with | some h => lineOf rs rows h.row h.col h.out l | none => 0
      some ⟨x.1, .lane p l.1.srcOut (lineOf rs rows l.1.srcRow l.1.srcCol l.1.srcOut l), path.length - 1, x.2, line⟩
    | _, _ => none)

/-- Leaves that edge producers feed: porters, Aisle channels and Trestle ports, h = 0 (R390, R471, R541). -/
def Device.edgeLeaves (d : Device) (img : Image) (chip : Nat) : List Leaf :=
  let at_ := fun (e : Nat) (prod : Producer) => (d.edgeStall e).map (fun pb =>
    (⟨.basket pb.1 pb.2, prod, 0, 8 + (((d.logOf pb.1).bind (fun rc => img.stallAt chip rc.1 rc.2)).map (fun s => s.ext.getD pb.2 0)).getD 0, 0⟩ : Leaf))
  (((img.ingressEdges chip).foldl (fun l e => insertNew e.1 l) []).filterMap (fun e => at_ e (.porter e)))
    ++ ((img.aisle chip).filterMap (fun r => if aKind r.2 = 1 && !aOut r.2 && aEdgeMode r.2 then at_ (aEdge r.2) (.aisle (aEdge r.2)) else none))
    ++ (((img.ports chip).zipIdx).filterMap (fun t =>
        if t.1.kind = 3 then at_ t.1.edge (.trestle t.2)
        else if t.1.kind = 4 then some ⟨.edge t.1.edge, .trestle t.2, 0, 16, 0⟩ else none))

/-- Every leaf of the new image. -/
def Device.allLeaves (d : Device) (img : Image) (chip : Nat) : List Leaf := d.routeLeaves img chip ++ d.edgeLeaves img chip

/-- Put leaves in force in place of older ones that end where they end; FREE of edge producers starts at the capacity. -/
def Device.putLeaves (d : Device) (ls : List Leaf) : Device :=
  let kept := d.arcade.leaves.filter (fun l => ls.all (fun n => decide (n.dest ≠ l.dest)))
  let free := ls.foldl (fun m l => match l.prod with
    | .porter e => KMap.put m e l.cap
    | .aisle e => KMap.put m e l.cap
    | _ => m) d.arcade.edgeFree
  { d with arcade := { d.arcade with leaves := kept ++ ls, edgeFree := free } }

/-- R173 for some leaves, by their route and end: the first that declares another capacity. -/
def Device.depthMismatch (d : Device) (img : Image) (chip : Nat) (f : Route → PathEnd → Bool) : Option LoadFault :=
  let rs := (img.routes chip).map (fun r => r.2)
  let rows := img.rows chip
  (leafList rs).findSome? (fun l =>
    let e := (l.1.branchWalk rows l.2).2
    if !f l.1 e then none
    else match d.leafAt img chip e with
      | some x => findWhen (x.2 ≠ (l.1.branches.getD l.2 ⟨0, [], 0⟩).leafDepth) (match e with
          | .stall row col side => d.arcFinding 0x3008 row col side 0 0
          | .edge _ row col out _ => d.arcFinding 0x3008 row col out 0 0
          | .bad row col out _ => d.arcFinding 0x3008 row col out 0 0)
      | none => none)

/-- One stall is written (R326). -/
def Device.writeStall (d : Device) (img : Image) (chip p : Nat) (s : StallRec) : Device :=
  let d1 := (d.writeContents img chip p s).updStall p (fun t => t.reloaded s)
  let d2 := d1.writeArcade img chip p s.row s.col
  d2.putLeaves ((d2.allLeaves img chip).filter (fun l => match l.dest with | .basket q _ => q == p | .edge _ => false))

/-- A stall of an image by its logical place: its record, or only its arcade registers where it has none (R326). -/
def Device.writePlace (d : Device) (img : Image) (chip p : Nat) (rc : Nat × Nat) : Device :=
  match img.stallAt chip rc.1 rc.2 with
  | some s => d.writeStall img chip p s
  | none => d.writeArcade img chip p rc.1 rc.2

/-- DEPOT records: at DEPOT_BASE + OFFSET (R638). -/
def Device.writeDepots (d : Device) (img : Image) (chip : Nat) : Device :=
  (img.depots chip).foldl (fun a r => a.depotWrite ((symValue a.loader.bind 0 + r.2.offset) % 2 ^ 27) r.2.data false) d

/-! ### Step 8 and completion -/

/-- Bell values from the image (R218, R223, R235, R252). -/
def Device.commitBell (d : Device) (img : Image) (chip : Nat) : Device :=
  match img.market chip with
  | none => d
  | some (_, m) =>
    let d1 := ((d.setN BEL 0 0x108 m.belFrac).setN BEL 0 0x100 m.belInt).setN BEL 0 0x110 m.slots
    let d2 := (d1.setN BEL 0 0x118 m.slack).setB BEL 0 0x008 1 (m.master == chip)
    if 65536 ≤ m.belInt ∧ m.belInt < 2 ^ 24 then
      { d2 with bell := { d2.bell with int := m.belInt, frac := m.belFrac } }
    else d2.raise BEL 0 7

/-- Egress baskets of the image (R207, R306). -/
def Device.bindEgress (d : Device) (img : Image) (chip : Nat) : Device :=
  let old := d.arcade.egress.map (fun kv => (kv.1, { kv.2 with enabled := false }))
  { d with arcade := { d.arcade with egress := (img.egresses chip).foldl (fun m r =>
      let x := KMap.get old r.2.basket {}
      KMap.put m r.2.basket { x with enabled := true, item := r.2.item, packets := r.2.packets }) old } }

/-- Rota channels of the image; the other channels from 8 on are free (R387). -/
def Device.bindPorters (d : Device) (img : Image) (chip : Nat) : Device :=
  (List.range 56).foldl (fun a i =>
    let ch := 8 + i
    match (img.porters chip).find? (fun p => p.2.channel == ch) with
    | some p => ((((a.setF PRT ch 0x010 0 2 1).setB PRT ch 0x010 3 false).setBusy ch false).setPorterPc ch 0).setChan ch
        { rota := true, descs := p.2.descs }
    | none => if (a.chan ch).rota then
        (((a.setF PRT ch 0x010 0 2 2).setBusy ch false).setPorterPc ch 0).setChan ch {} else a) d

/-- The Aisle channels and links of the image (R470, R471, R490, R492). -/
def Device.bindAisles (d : Device) (img : Image) (chip : Nat) : Device :=
  let recs := (img.aisle chip).map (fun r => r.2)
  let chans := recs.filter (fun r => decide (aKind r = 1))
  let outs : KMap (Option OutChan) := (chans.filter (fun r => aOut r)).foldl (fun m r =>
    KMap.put m (aChan r) (some { link := aLink r, porter := !aEdgeMode r, edge := aEdge r, cells := aCells r })) []
  let area := fun k => match recs.find? (fun r => decide (aKind r = 2 ∧ fld r 2 7 = k)) with
    | some r => (symValue d.loader.bind 0 + 64 * fld r 9 21, 64 * fld r 30 21)
    | none => (0, 0)
  let ins : KMap (Option InChan) := (chans.filter (fun r => !aOut r)).foldl (fun m r =>
    KMap.put m (aChan r) (some { link := aLink r, depot := !aEdgeMode r, edge := aEdge r, cells := aCells r,
                                 dbase := (area (aChan r)).1, dsize := (area (aChan r)).2 })) []
  let links := recs.filter (fun r => decide (aKind r = 0))
  let d1 := { d with aisles := { d.aisles with outs := outs, ins := ins } }
  let d2 := (List.range 8).foldl (fun a l =>
    match links.find? (fun r => decide (fld r 2 3 = l)) with
    | some r => (a.setB AIS l 0x010 8 (tb r 24)).setB AIS l 0x010 7 (tb r 23)
    | none => (a.setB AIS l 0x010 8 false).setB AIS l 0x010 7 false) d1
  d2.bindTiming img chip

/-- Does the load reconfigure the Trestle (R535)? -/
def Device.reconfigures (d : Device) (img : Image) (chip : Nat) (full : Bool) : Bool :=
  match img.trestle chip with
  | none => false
  | some (_, t) => full || (match d.trestle.running with
      | some o => decide (o.digest ≠ t.digest ∨ o.bankStd ≠ t.bankStd ∨ o.ports ≠ t.ports)
      | none => true)

/-- GSR is asserted by the block, or by CTRL.GSR_FORCE (R533). -/
def Device.gsrUpdate (d : Device) : Device := d.setB TRS 0 0x010 1 (d.trestle.held || d.rb TRS 0 0x008 0)

/-- TRESTLE_RECONFIGURE_START at a load bell; without a section the fabric is left unconfigured (R535, R536). -/
def Device.trestleLoadBell (d : Device) (img : Image) (chip : Nat) (full : Bool) : Device :=
  if d.reconfigures img chip full then
    ({ d with trestle := { d.trestle with held := true, reconfiguring := true, written := false } }.setB TRS 0 0x010 0 false).gsrUpdate
  else match img.trestle chip with
    | some _ => d
    | none => (({ d with trestle := { d.trestle with held := true, running := none } }.setB TRS 0 0x010 0 false)).gsrUpdate

/-- Registers of the Trestle page that follow the running section (R547). -/
def Device.trestleRegs (d : Device) (t : TrestleSec) : Device :=
  let d1 := (List.range 6).foldl (fun a b => a.setN TRS 0 (0x120 + 4 * b) (t.bankStd.getD b 0)) d
  let d2 := (List.range 16).foldl (fun a i => a.setN TRS 0 (0x200 + 4 * i) (leNat ((t.digest.drop (4 * i)).take 4))) d1
  { d2 with trestle := { d2.trestle with outs := [0, 0, 0, 0, 0, 0] } }.setF TRS 0 0x010 8 6 0

/-- The Trestle at the completion bell: the net is released and the ports take their new binding (R533, R536, R545). -/
def Device.trestleDone (d : Device) (img : Image) (chip : Nat) : Device :=
  match img.trestle chip with
  | none => { d with trestle := { d.trestle with running := none, ports := [], reconfiguring := false } }.setB TRS 0 0x010 2 false
  | some (_, t) =>
    let ls := d.edgeLeaves img chip
    let ports : List TPort := (t.ports.zipIdx).map (fun pi =>
      { kind := pi.1.kind, edge := pi.1.edge, seg := pi.1.seg, ctx := pi.1.ctx, etype := pi.1.etype,
        words := if d.trestle.reconfiguring then [] else (d.trestle.ports.getD pi.2 {}).words,
        free := ((ls.find? (fun l => decide (l.prod = .trestle pi.2))).map (fun l => l.cap)).getD 0 })
    let was := d.trestle.reconfiguring
    let d1 := { d with trestle := { d.trestle with running := some t, ports := ports, held := false, reconfiguring := false, doneDue := true } }
    let d2 := if was then d1.trestleRegs t else d1
    ((d2.setB TRS 0 0x010 0 true).setB TRS 0 0x010 2 (!was)).gsrUpdate

/-- Whether the Aisle queues are empty (R490). -/
def Device.aisleQueuesEmpty (d : Device) : Bool :=
  d.aisles.outs.all (fun kv => match kv.2 with | some c => c.queue.isEmpty | none => true)
    && d.aisles.ins.all (fun kv => match kv.2 with | some c => c.queue.isEmpty | none => true)

/-- Pages of the stalls of an image. -/
def Device.pagesOf (d : Device) (img : Image) : List Nat :=
  (img.places d.chipIndex).filterMap (fun rc => d.physOf rc.1 rc.2)

/-- The stalls of the new image open, each context at ENTRY (R123, R327); every stall has the new generation (R318), and none that the image does not
use has contexts or rescale sets (R41), or is closed by an old fault (R111, R164). -/
def Device.openStalls (d0 : Device) (img : Image) (chip : Nat) : Device :=
  let keep := (img.stalls chip).filterMap (fun s => d0.physOf s.2.row s.2.col)
  let idle := d0.stalls.map (fun (kv : Nat × Stall) =>
    let s := { kv.2 with faulted := false, parityClosed := false, gen := d0.loader.newGen }
    if kv.1 ∈ keep then (kv.1, s)
    else (kv.1, { s with ctxs := s.ctxs.map (fun c => { c with used := false, rescaleN := 0 }), setBase := [0, 0], setWords := 0, regions := [] }))
  let d := { d0 with stalls := idle }
  (img.places chip).foldl (fun a rc => match a.physOf rc.1 rc.2 with
    | some p => (a.setB STL p 0x008 0 false).updStall p (fun t =>
        { t with switched := false, gen := d0.loader.newGen,
                 ctxs := t.ctxs.map (fun c => { c with gen := d0.loader.newGen }) })
    | none => a) d

/-- COMPLETION_BELL (R327, R328, R568, R620). -/
def Device.completeLoad (d : Device) : Device :=
  match d.loader.staged with
  | none => d
  | some img =>
    let chip := d.chipIndex
    let d1 := (((d.openStalls img chip).bindEgress img chip).bindPorters img chip).bindAisles img chip
    let d2 := (d1.trestleDone img chip).putLeaves ((d1.allLeaves img chip).filter (fun l => match l.dest with | .edge _ => true | _ => false))
    let rounds := if d.loader.loadBell = 0 then 1 else d.bell.count - d.loader.loadBell
    let d3 := { d2 with
      arcade := { d2.arcade with wheel := 0, rows := img.rows chip }
      bell := { d2.bell with firstChecked := d.bell.count + 2, suspended := false, loadMark := [], loadRounds := max 1 rounds, halting := false }
      loader := { d2.loader with running := some img, gen := d.loader.newGen, everLoaded := true, bindRun := d.loader.bind }
      warden := { d2.warden with imgSvn := if d.loader.reload then d2.warden.imgSvn else d2.warden.stagedSvn }
      aisles := { d2.aisles with missed := false } }
    let d4 := ((d3.setF WBR 0 0x010 0 1 0).setB BEL 0 0x010 1 false).setB AIS 8 0x010 0 false
    let d5 := ((d4.setN CLK 0 0x118 ((d.regN CLK 0 0x118 + 1) % 2 ^ 32)).setN CLK 0 0x120 (d.bell.count % 2 ^ 32)).raise CLK 0 0
    let d6 := (d5.setF CLK 0 0x110 4 2 d.loader.newGen.toNat).setB CLK 0 0x180 5 false
    let gate := { d6.gate with streams := d6.gate.streams.filter (fun kv => !kv.2.stock) }
    (({ d6 with gate := gate }.spendReady 1).spendReady 2).resign.endLoad

/-- The chip asks for a halt of the market; a chip that has halted tells the master (R249, R477). -/
def Device.askHalt (d : Device) (cause : Nat) : Device :=
  if d.isMaster then { d with bell := { d.bell with halting := true } } else d.sendUp 5 cause

/-- A load fails after its load bell: the market stays closed and halted, on the other chips too (R250, R317, R329, R353). Changed maps that the load has
applied are re-signed (R568). DESIGN CHOICE (assumption 122): R249 numbers no cause for it; UP_HALT carries that of a write of HALT. -/
def Device.failLoad (d : Device) (f : LoadFault) : Device :=
  let d1 := ((d.fault f.block f.unit f.code f.loc).setN CLK 0 0x114 (f.code + 2 ^ 16)).raise CLK 0 2
  let d2 := ((d1.closeAll.stopRota.voidOwing 3).setB BEL 0 0x010 1 true).askHalt 3
  (if d2.loader.reserveDue then d2.resign else d2).endLoad.waitingReport

/-- Does this chip follow the bell of another (R222)? A chip without a timing link rings its own. -/
def Device.follows (d : Device) : Bool := !d.isMaster && d.rb AIS 8 0x010 7

/-- With no bell ringing and the whole market loaded, the loader of the chip that rings the bell sets RUN at a full load (R317 step 9). -/
def Device.startMarket (d : Device) : Device :=
  if !d.follows && decide (d.loadState = 4) && d.loader.full && d.marketReady 2 && !d.bellsRing then d.runStart else d

/-- LOADED: all is written, the configuration stream too (R327, R536); a queue of the Aisles that is not empty fails the load
(R490). With no bell ringing the loader sets RUN, and bell 0 completes the load (R317 step 9). -/
def Device.allWritten (d : Device) : Device :=
  match d.loader.staged with
  | none => d
  | some img =>
    if d.trestle.reconfiguring && !d.trestle.written then { d with loader := { d.loader with wroteAll := true } }
    else if !d.aisleQueuesEmpty then d.failLoad ⟨CLK, 0, 0x8002, 0⟩
    else
      let d1 := (d.commitBell img d.chipIndex).setLoadState 4
      let d2 := ({ d1 with loader := { d1.loader with loaded := true } }).relayReady 2
      if d.bellsRing then d2 else d2.startMarket

/-! ### Full load: steps 5 to 8 -/

/-- Step 5, and the shape of the new image. -/
def Device.beginFull (d : Device) : Device :=
  match d.loader.staged with
  | none => d
  | some img =>
    let d1 := ((d.closeAll.stopRota.emptySquare).applyMaps).setN CLK 0 0x124 0
    let d2 := { d1 with arcade := { d1.arcade with rows := img.rows d.chipIndex } }
    ((d2.trestleLoadBell img d.chipIndex true).setLoadState 3).trainRest

/-- FULL_LOAD_WRITE_DONE: steps 6 to 8 are done. -/
def Device.fullWriteDone (d : Device) : Device :=
  match d.loader.staged with
  | none => d
  | some img =>
    if d.loadState ≠ 3 ∨ !d.loader.full then d
    else
      let chip := d.chipIndex
      let d1 := (img.places chip).foldl (fun a rc => match a.physOf rc.1 rc.2 with
        | some p => a.writePlace img chip p rc
        | none => a) (d.writeDepots img chip).clearArcade
      match d1.depthMismatch img chip (fun _ _ => true) with
      | some f => d1.failLoad f
      | none =>
        let n := (img.places chip).length
        (d1.setN CLK 0 0x124 (n % 8192 + n % 8192 * 65536)).allWritten

def execFullLoadWriteDone (s : State) : Host.Outcome State Fault Refusal :=
  s.act (Instr.wf .fullLoadWriteDone) Device.fullWriteDone

/-- LOAD_READY: stage 1 is complete. With no bell ringing, a full load goes on at once (R317, R320); an overlapped one waits for its load bell. -/
def Device.loadReadyCmd (d : Device) (img : Image) : Device :=
  if d.loadState ≠ 1 then d
  else
    let d1 := if d.loader.reload then d.stageReload else if d.warden.stagedOk && decide (img.imageDigest = d.warden.stagedDigest) then d.stageOne img else d
    if d1.loadState = 2 ∧ (d1.loader.full && !d1.bellsRing ∨ d1.loader.reload) then d1.beginFull else d1

def execLoadReady (img : Image) (s : State) : Host.Outcome State Fault Refusal :=
  s.act (Instr.wf (.loadReady img)) (fun d => d.loadReadyCmd img)

/-! ### Overlapped load: switching and writing (R325, R326) -/

/-- Is the chip between the load bell and LOADED of an overlapped load? -/
def Device.overlapped (d : Device) : Bool := decide (d.loadState = 3) && !d.loader.full

/-- The conditions of R325. -/
def Device.maySwitch (d : Device) (p : Nat) : Bool :=
  let s := d.stall p
  (List.range 8).all (fun k => !s.used k || (s.ctx k).genDone) && s.outq.all (fun q => q.isEmpty) && s.forward.isEmpty
    && (List.range 4).all (fun o => decide (d.rf ARC p (0x1E0 + 4 * o) 0 12 = 0))

/-- Does the running image use a stall? -/
def Device.runs (d : Device) (p : Nat) : Bool := match d.loader.running with | some i => decide (p ∈ d.pagesOf i) | none => false

/-- STALL_SWITCH: in an unhushed cycle (R229) the stall closes, its lanes carry nothing of its own, and it reports to the loader; credits on its old routes are
lost (R325). -/
def Device.stallSwitch (d : Device) (p : Nat) : Device :=
  if d.bell.hushed || !d.overlapped || !d.runs p || decide (p ∈ d.loader.switched) || d.closed p || !d.maySwitch p then d
  else
    let d1 := (d.setB STL p 0x008 0 true).updStall p (fun s => { s with switched := true })
    let d2 := (List.range 4).foldl (fun a o => a.setN ARC p (0x118 + 0x20 * o) 0) d1
    let ar := { d2.arcade with leaves := d2.arcade.leaves.filter (fun l => match l.prod with | .lane q _ _ => q != p | _ => true)
                               credits := d2.arcade.credits.filter (fun c => match c.prod with | .lane q _ _ => q != p | _ => true) }
    let sw := d.loader.switched ++ [p]
    { d2 with arcade := ar, loader := { d2.loader with switched := sw } }.setF CLK 0 0x124 0 13 sw.length

def execStallSwitch (p : Nat) (s : State) : Host.Outcome State Fault Refusal :=
  s.act (Instr.wf (.stallSwitch p)) (fun d => d.stallSwitch p)

/-- Every stall of the old image, and every one of the new image, is written (R326, R327). -/
def Device.waveDone (d : Device) (img : Image) : Bool :=
  (d.pagesOf img).all (fun p => decide (p ∈ d.loader.written))
    && (match d.loader.running with | some o => (d.pagesOf o).all (fun p => decide (p ∈ d.loader.written)) | none => true)

/-- May a loader porter write a stall now: it is one of the first eight unwritten ones in the order in which they switched, one for each porter (R326).
DESIGN CHOICE (assumption 117): the manual does not place the stalls that the old image does not use in that order; they are written at any time. -/
def Device.mayWrite (d : Device) (p : Nat) : Bool :=
  !d.runs p || decide (p ∈ (d.loader.switched.filter (fun q => decide (q ∉ d.loader.written))).take 8)

/-- STALL_WRITTEN: a stall that has switched, or that the old image did not use, is written (R326); a mismatch of depths, at the stall or at an egress
basket that a route of it ends in, fails the load (R173, R329). -/
def Device.stallWritten (d : Device) (p : Nat) : Device :=
  match d.loader.staged with
  | none => d
  | some img =>
    if !d.overlapped || decide (p ∈ d.loader.written) || !d.mayWrite p then d
    else
      let chip := d.chipIndex
      match d.logOf p with
      | none => d
      | some rc =>
        if !d.runs p && decide (rc ∉ img.places chip) then d
        else
          let d1 := d.writePlace img chip p rc
          match d1.depthMismatch img chip (fun r e => match e with
              | .stall row col _ => decide (row = rc.1 ∧ col = rc.2)
              | _ => decide (r.srcRow = rc.1 ∧ r.srcCol = rc.2)) with
          | some f => d1.failLoad f
          | none =>
            let w := d.loader.written ++ [p]
            let d2 := { d1 with loader := { d1.loader with written := w } }.setF CLK 0 0x124 16 13 w.length
            if d2.waveDone img then (d2.writeDepots img chip).allWritten else d2

def execStallWritten (p : Nat) (s : State) : Host.Outcome State Fault Refusal :=
  s.act (Instr.wf (.stallWritten p)) (fun d => d.stallWritten p)

/-- LOAD_FAILED: a loader porter has read a spoiled word: SPOIL_HALT, and the load fails (R317, R329, R392). -/
def Device.loadSpoiled (d : Device) (ch : Nat) : Device :=
  if 8 ≤ ch ∨ d.loadState ≠ 3 then d
  else (d.porterHalt ch 1).failLoad ⟨CLK, 0, 0x8002, whereWord 0 0 0 0 0 ch⟩

def execLoadFailed (ch : Nat) (s : State) : Host.Outcome State Fault Refusal :=
  s.act (Instr.wf (.loadFailed ch)) (fun d => d.loadSpoiled ch)

end Sys2Proof.Machine
end

