-- ==== Sys2Proof/Machine/Gate.lean ====
section
/-! DEFINITION. The Gate: classification of frames (R425 to R427), PTP time (R428, R429), the flow table (R430, R431), reordering and access
units (R432 to R436), decoding (R438 to R443), the scaler (R444 to R446) and stream records (R447 to R451). -/

namespace Sys2Proof.Machine

/-! ### The flow table -/

/-- An entry of the flow table: 12 words. -/
def Device.flowEntry (d : Device) (i : Nat) : List Word := KMap.get d.gate.flow i (List.replicate 12 0)

def flowW (e : List Word) (i : Nat) : Nat := (e.getD i 0).toNat
def flowValid (e : List Word) : Bool := tb (flowW e 0) 0
def flowAction (e : List Word) : Nat := fld (flowW e 0) 1 2
def flowStream (e : List Word) : Nat := fld (flowW e 0) 3 9

/-- Four words as an address, word 0 least significant. -/
def flowAddr (e : List Word) (lo : Nat) : BitVec 128 :=
  BitVec.ofNat 128 (flowW e lo + flowW e (lo + 1) * 2 ^ 32 + flowW e (lo + 2) * 2 ^ 64 + flowW e (lo + 3) * 2 ^ 96)

/-- Does an entry match a UDP packet that arrives on a port (R430)? -/
def flowMatches (e : List Word) (port : Nat) (vlan : Option Nat) (u : UdpPart) : Bool :=
  let w := flowW e 0
  flowValid e && tb w (12 + port)
    && (if tb w 15 then decide (vlan = some (fld w 16 12)) else vlan.isNone)
    && (!tb w 28 || (match u.rtp with | some r => decide (r.ssrc.toNat = flowW e 2) | none => false))
    && (tb w 29 || (decide (u.srcAddr = flowAddr e 4) && decide (u.srcPort = fld (flowW e 3) 0 16)))
    && decide (u.dstAddr = flowAddr e 8) && decide (u.dstPort = fld (flowW e 3) 16 16)

/-- The entry that applies: the lowest that matches, of the table as it was before a WRITE of this cycle (R430, R431). -/
def Device.flowLookup (d : Device) (port : Nat) (vlan : Option Nat) (u : UdpPart) : Option (List Word) :=
  ((d.gate.flowWas.getD d.gate.flow).find? (fun e => flowMatches e.2 port vlan u)).map (fun e => e.2)

/-- The key of an entry: all that a packet is compared with. -/
def flowKey (e : List Word) : List Nat := (flowW e 0 / 2 ^ 12) :: (e.drop 2).map (fun w => w.toNat)

/-- FLOW_CMD ends: FLOW_DONE, with its result. -/
def Device.flowDone (d : Device) (res : Nat) : Device := (d.setN GAT 0 0x128 res).raise GAT 0 7

/-- FLOW_WRITE (R431): a valid entry may not repeat the key or the stream of another. -/
def Device.flowWrite (d : Device) : Device :=
  let sel := d.rf GAT 0 0x120 0 11
  let e := (List.range 12).map (fun w => d.reg GAT 0 (0x140 + 4 * w))
  let others := d.gate.flow.filter (fun x => decide (x.1 ≠ sel) && flowValid x.2)
  if flowValid e && others.any (fun x => decide (flowKey x.2 = flowKey e)) then d.flowDone 1
  else if flowValid e && decide (flowAction e = 0)
      && others.any (fun x => decide (flowAction x.2 = 0 ∧ flowStream x.2 = flowStream e)) then d.flowDone 2
  else ({ d with gate := { d.gate with flow := KMap.set d.gate.flow sel e (List.replicate 12 0),
                                       flowWas := some (d.gate.flowWas.getD d.gate.flow) } }).flowDone 0

def execFlowWrite (s : State) : Host.Outcome State Fault Refusal := s.act (Instr.wf .flowWrite) Device.flowWrite

/-- FLOW_READ: the selected entry goes to FLOW_DATA. -/
def Device.flowRead (d : Device) : Device :=
  let e := d.flowEntry (d.rf GAT 0 0x120 0 11)
  ((List.range 12).foldl (fun a w => a.setReg GAT 0 (0x140 + 4 * w) (e.getD w 0)) d).flowDone 0

def execFlowRead (s : State) : Host.Outcome State Fault Refusal := s.act (Instr.wf .flowRead) Device.flowRead

/-! ### Strangers and the Clerk's queue -/

/-- A stranger packet (R426). -/
def Device.stranger (d : Device) (port : Nat) (v6 : Bool) (u : UdpPart) : Device :=
  let d1 := d.count32 GAT 0 0x030
  let d2 := if d.regN GAT 0 0x030 = 0 then d1.raise GAT 0 0 else d1
  ((d2.setN GAT 0 0x230 (u.srcAddr.toNat % 2 ^ 32)).setN GAT 0 0x234 (u.srcPort % 65536 + u.dstPort % 65536 * 65536)).setN
    GAT 0 0x238 (port + 4 * b2n v6)

/-- Is the Clerk's receive queue full (R427)? -/
def Device.clerkFull (d : Device) : Bool := decide (256 ≤ d.gate.clerkQueue.length + d.gate.segQueue.length)

/-- A frame that finds the queue full; `port` is 3 for the Crier. -/
def Device.clerkDrop (d : Device) (port : Nat) : Device :=
  let d1 := d.count32 GAT 0 0x03C
  if d.gate.queueFullLogged then d1
  else { d1 with gate := { d1.gate with queueFullLogged := true } }.log 0xB006 GAT 0 0 port

/-- A frame for the Clerk, with its stamp (R427, R429). -/
def Device.toClerk (d : Device) (port : Nat) (f : EthFrame) : Device :=
  if d.clerkFull then d.clerkDrop port
  else { d with gate := { d.gate with clerkQueue := d.gate.clerkQueue ++ [(port, d.gate.ptpNs, f)] } }

/-! ### Engines -/

/-- Physical engine of a logical engine: those that are not retired, in order (R441, R586). -/
def Device.engineOf (d : Device) (l : Nat) : Nat := ((List.range 33).filter (fun e => decide (e ∉ d.actDec))).getD l 33

/-- Does the engine of a stream discard every access unit (R443)? -/
def Device.engineBad (d : Device) (s : Stream) : Bool := decide (d.engineOf (fld (s.data.getD 0 0).toNat 8 5) ∈ d.gate.badEngines)

/-! ### Access units (R435, R436, R442) -/

/-- The counters of a record, in the order of R447: SKIPPED, NORM_SAT, LOST_PKT, LATE_PKT, DUP_PKT, BAD_PKT, DISC_FRAMES. -/
def Stream.counters (s : Stream) : List Nat := [s.skipped, s.normSat, s.lostPkt, s.latePkt, s.dupPkt, s.badPkt, s.discFrames]

/-- Give the counters values. -/
def Stream.setCounters (s : Stream) (c : List Nat) : Stream :=
  { s with skipped := c.getD 0 0, normSat := c.getD 1 0, lostPkt := c.getD 2 0, latePkt := c.getD 3 0, dupPkt := c.getD 4 0,
           badPkt := c.getD 5 0, discFrames := c.getD 6 0 }

/-- Counter `k` counts `n` events of cycle `now` (R10, R447). -/
def Stream.count (s : Stream) (now k n : Nat) : Stream :=
  let s1 := if s.countedAt = some now then s else { s with countedAt := some now, counted := s.counters ++ List.replicate 7 0 }
  { s1.setCounters (upd s1.counters k (fun x => satAdd 0xFFFF x n)) with counted := upd s1.counted (7 + k) (fun x => satAdd 0xFFFF x n) }

/-- An access unit is discarded and counted. -/
def Stream.discard (s : Stream) (now : Nat) : Stream := s.count now 6 1

/-- Discard a stream's waiting units up to its next random access point. -/
def Stream.overrun (s : Stream) (now : Nat) : Stream :=
  let kept := (s.units.drop 1).dropWhile (fun u => !u.rap)
  { s.count now 6 (s.units.length - kept.length) with units := kept, waitRap := kept.isEmpty }

/-- What the Gate depacketises (R437), by CODEC. -/
def rtpFits (k : RtpKind) (codec : Nat) : Bool :=
  match k with
  | .h264Single _ => decide (codec = 0)
  | .h264StapA _ => decide (codec = 0)
  | .h264FuA _ => decide (codec = 0)
  | .h264Interleaved => false
  | .h265Single _ don => decide (codec = 1) && !don
  | .h265Aggregation _ don => decide (codec = 1) && !don
  | .h265Fragment _ don => decide (codec = 1) && !don
  | .h265Paci => false
  | .jpeg type q => decide (codec = 2 ∧ (type = 0 ∨ type = 1 ∨ type = 64 ∨ type = 65) ∧ 1 ≤ q ∧ q ≤ 255)
  | .other => false

/-- Does it make its unit a random access point: an IDR or IRAP picture, and every frame of Motion JPEG (R436)? -/
def rtpKey (k : RtpKind) : Bool :=
  match k with
  | .h264Single key => key
  | .h264StapA key => key
  | .h264FuA key => key
  | .h264Interleaved => false
  | .h265Single key _ => key
  | .h265Aggregation key _ => key
  | .h265Fragment key _ => key
  | .h265Paci => false
  | .jpeg _ _ => true
  | .other => false

/-- ACCESS_UNIT_COMPLETE: a lost unit is discarded with all that follow it up to a random access point; another one waits for its engine,
at most 4 of one stream (R436, R442, R443). -/
def Device.unitEnds (d : Device) (i : Nat) (u : AccessUnit) : Device :=
  let s := { d.stream i with unit_ := none }
  match u.lost with
  | some q =>
    ((d.setStream i { s.discard d.now with waitRap := true }).raise GAT 0 1).log 0xB001 GAT 0 0 (i + q * 2 ^ 16)
  | none =>
    if (s.waitRap && !u.rap) || d.engineBad s then d.setStream i (s.discard d.now)
    else
      let d1 := { d with gate := { d.gate with unitsDone := d.gate.unitsDone + 1 } }
      let s1 := { s with waitRap := false, units := s.units ++ [{ u with order := d.gate.unitsDone }] }
      if 4 < s1.units.length then ((d1.setStream i (s1.overrun d.now)).raise GAT 0 3).log 0xB003 GAT 0 0 i else d1.setStream i s1

/-- A packet is released into its access unit (R435, R437). Packets lost between two units spoil the next (assumption 71). -/
def Device.release (d : Device) (i : Nat) (h : HeldPkt) : Device :=
  let same := match (d.stream i).unit_ with | some u => decide (u.rtp = h.rtp.timestamp) | none => false
  let d1 := match (d.stream i).unit_ with
    | some u => if same then d else d.unitEnds i u
    | none => d
  let s := d1.stream i
  let u : AccessUnit := s.unit_.getD { rtp := h.rtp.timestamp, ts := h.ns, lost := none, rap := false }
  let lost := u.lost.orElse (fun _ => s.lostFrom.orElse (fun _ => if rtpFits h.rtp.kind (fld (s.data.getD 0 0).toNat 0 2) then none else some h.seq))
  let u1 : AccessUnit := { u with ts := min u.ts h.ns, lost := lost, rap := u.rap || rtpKey h.rtp.kind }
  let d2 := d1.setStream i { s with unit_ := some u1, lostFrom := none, next := some ((h.seq + 1) % 65536) }
  if h.rtp.marker then d2.unitEnds i u1 else d2

/-! ### The reorder window (R433, R434) -/

/-- How far a sequence number lies ahead of another. -/
def seqAhead (s n : Nat) : Nat := (s + 65536 - n) % 65536

/-- Sequence numbers NEXT to `t` less 1 are declared lost: they spoil the unit in progress, or, where none is, the next one (R434, R436,
assumption 71). -/
def Device.loseTo (d : Device) (i n t : Nat) : Device :=
  let s := d.stream i
  let k := seqAhead t n
  if k = 0 then d
  else
    let s1 := { s.count d.now 2 k with next := some t }
    match s.unit_ with
    | some x => d.setStream i { s1 with unit_ := some { x with lost := x.lost.orElse (fun _ => some n) } }
    | none => d.setStream i { s1 with lostFrom := s.lostFrom.orElse (fun _ => some n) }

/-- Hold a packet, in the order of sequence numbers from NEXT on. -/
def holdSorted (n : Nat) (h : HeldPkt) : List HeldPkt → List HeldPkt
  | [] => [h]
  | x :: rest => if seqAhead h.seq n < seqAhead x.seq n then h :: x :: rest else x :: holdSorted n h rest

/-- Release the held packets that follow without a gap. -/
def Device.releaseRun (d : Device) (i : Nat) : Nat → Device
  | 0 => d
  | fuel + 1 =>
    let s := d.stream i
    match s.held, s.next with
    | h :: rest, some n => if h.seq = n then ((d.setStream i { s with held := rest }).release i h).releaseRun i fuel else d
    | _, _ => d

/-- Release the held packets before sequence number `t`, with the numbers between them lost; NEXT becomes `t`. -/
def Device.flushTo (d : Device) (i t : Nat) : Nat → Device
  | 0 => d
  | fuel + 1 =>
    let s := d.stream i
    match s.held, s.next with
    | h :: rest, some n =>
      if seqAhead h.seq n < seqAhead t n then
        (((d.setStream i { s with held := rest }).loseTo i n h.seq).release i h).flushTo i t fuel
      else d.loseTo i n t
    | [], some n => d.loseTo i n t
    | _, none => d

/-- A packet's own treatment once it lies within 63 of NEXT. -/
def Device.windowed (d : Device) (i : Nat) (h : HeldPkt) : Device :=
  let s := d.stream i
  match s.next with
  | none => d
  | some n =>
    if h.seq = n then (d.release i h).releaseRun i 64
    else if s.held.any (fun x => decide (x.seq = h.seq)) then d.setStream i (s.count d.now 4 1)
    else d.setStream i { s with held := holdSorted n h s.held }

/-- Has the gap window of a stream ended: REORDER_TMO microseconds of 200 cycles after the earliest arrival among the held packets (R434)? -/
def Device.gapOver (d : Device) (i : Nat) : Bool :=
  match (d.stream i).held with
  | [] => false
  | h :: rest => decide (rest.foldl (fun m x => min m x.at_) h.at_ + 200 * d.rf GAT 0 0x220 0 16 ≤ d.now)

/-- The missing packets of windows that have ended are lost, up to the first held packet, which is released with those that follow (R434). -/
def Device.expire (d : Device) (i : Nat) : Nat → Device
  | 0 => d
  | fuel + 1 =>
    match d.gapOver i, (d.stream i).held, (d.stream i).next with
    | true, h :: _, some n => (((d.loseTo i n h.seq).releaseRun i 64)).expire i fuel
    | _, _, _ => d

/-- RTP_REORDER (R433). A packet that comes in the cycle in which the window ends finds the missing one lost (R216, R434). -/
def Device.reorder (dIn : Device) (i : Nat) (h : HeldPkt) : Device :=
  let d := dIn.expire i 64
  let s := d.stream i
  let n := s.next.getD h.seq
  let k := seqAhead h.seq n
  let d1 := d.setStream i { s with next := some n }
  if k < 64 then d1.windowed i h
  else if k < 32768 then (((d1.flushTo i ((h.seq + 65536 - 63) % 65536) 65).releaseRun i 64).windowed i h)
  else d.setStream i (s.count d.now 3 1)

/-- REORDER_TIMEOUT: at the end of the gap window NEXT is declared lost, up to the first held packet (R434). -/
def Device.reorderTimeout (d : Device) (i : Nat) : Device := d.expire i 64

def execReorderTimeout (stream : Nat) (s : State) : Host.Outcome State Fault Refusal :=
  s.act (Instr.wf (.reorderTimeout stream)) (fun d => d.reorderTimeout stream)

/-- An RTP packet of a flow (R426, R432, R433). A stream takes packets from the cycle after its admission (R448); those of a dismissed stream are
discarded, and it counts as admitted until the next bell (R448, R450). -/
def Device.rtpPacket (d : Device) (e : List Word) (port : Nat) (v6 : Bool) (u : UdpPart) : Device :=
  let i := flowStream e
  let s := d.stream i
  if s.leaving then d
  else if s.state ≠ 1 ∨ s.since = some d.now then d.stranger port v6 u
  else match u.rtp with
    | some r =>
      if r.version = 2 ∧ r.payloadType = fld (flowW e 1) 0 7 then d.reorder i ⟨r.seq % 65536, d.now, d.gate.ptpNs, r⟩
      else d.setStream i (s.count d.now 5 1)
    | none => d.setStream i (s.count d.now 5 1)

/-! ### Received frames (R425) -/

/-- Is the UDP port enabled in CLERK_PORTS? -/
def Device.clerkPort (d : Device) (p : Nat) : Bool :=
  (List.range 8).any (fun i => d.rb GAT 0 (0x240 + 4 * i) 16 && decide (d.rf GAT 0 (0x240 + 4 * i) 0 16 = p))

/-- The stream of a stock multicast group (R615): 239.255.77.0 + s, destination port 5004. -/
def stockGroup (u : UdpPart) : Option Nat :=
  let base := 0xFFFF * 2 ^ 32 + 239 * 2 ^ 24 + 255 * 2 ^ 16 + 77 * 2 ^ 8
  let a := u.dstAddr.toNat
  if base ≤ a ∧ a < base + 512 ∧ u.dstPort = 5004 then some (a - base) else none

/-- Does stock mode run (R621)? -/
def Device.stockMode (d : Device) : Bool := d.rb CLK 0 0x180 5

/-- In stock mode, the first packets of a group go to the Clerk, which admits the stream (R427, R616). -/
def Device.stockCall (d : Device) (u : UdpPart) : Bool :=
  d.stockMode && (match stockGroup u, u.rtp with
    | some i, some r => decide ((d.stream i).state = 0) && decide (r.payloadType = 96 ∨ r.payloadType = 98)
    | _, _ => false)

/-- ETHERNET_FRAME_RECEIVE: the first step of R425 that applies decides the frame's fate. -/
def Device.ethReceive (d : Device) (port : Nat) (f : EthFrame) : Device :=
  if !d.rb GAT 0 0x008 port then d
  else if !f.fcsOk || f.runt || decide (9216 < f.len) then d.count32 GAT 0 0x038
  else match f.body with
    | .pause => d.count32 GAT 0 0x114
    | .ptp => if f.toPort then d.toClerk port f else d
    | .nonIp => if f.toPort then d.toClerk port f else d
    | .ipFragment => if f.toPort then d.count32 GAT 0 0x034 else d
    | .ipBadHeader => if f.toPort then d.count32 GAT 0 0x034 else d
    | .ipOther => if f.toPort then d.toClerk port f else d
    | .udp v6 ext u =>
      if !f.toPort then d
      else if !u.checksumOk || (v6 && ext) then d.count32 GAT 0 0x034
      else match d.flowLookup port f.vlan u with
        | some e =>
          (match flowAction e with
          | 0 => d.rtpPacket e port v6 u
          | 1 => d.toClerk port f
          | _ => d.stranger port v6 u)
        | none =>
          if u.dstPort = 319 ∨ u.dstPort = 320 ∨ d.clerkPort u.dstPort ∨ d.stockCall u then d.toClerk port f
          else d.stranger port v6 u

def execEthernetFrameReceive (port : Nat) (frame : EthFrame) (s : State) : Host.Outcome State Fault Refusal :=
  s.act (Instr.wf (.ethernetFrameReceive port frame)) (fun d => d.ethReceive port frame)

/-- ETHERNET_FRAME_TRANSMIT: a frame that the Clerk sends; a PTP event message returns its stamp (R429). -/
def Device.ethTransmit (d : Device) (port : Nat) (bytes : List Byte) (ptpEvent : Bool) : Device :=
  let d1 := d.emit (.ethFrame port bytes)
  if ptpEvent then d1.emit (.ptpStamp port d.gate.ptpNs) else d1

def execEthernetFrameTransmit (port : Nat) (bytes : List Byte) (ptpEvent : Bool) (s : State) : Host.Outcome State Fault Refusal :=
  s.act (Instr.wf (.ethernetFrameTransmit port bytes ptpEvent)) (fun d => d.ethTransmit port bytes ptpEvent)

/-! ### The scaler (R440, R444 to R446) -/

/-- The area filter of R444. -/
def area (src : List Nat) (m : Nat) : List Nat :=
  let n := src.length
  (List.range m).map (fun x =>
    let a := x * n
    let b := (x + 1) * n
    let lo := a / m
    let hi := (b + m - 1) / m
    let acc := (((src.drop lo).take (hi - lo)).zipIdx).foldl (fun s vi =>
      s + vi.1 * (min b ((lo + vi.2 + 1) * m) - max a ((lo + vi.2) * m))) 0
    (rheDiv acc n).toNat)

/-- Column `x` of a plane held as rows. -/
def column (rows : List (List Nat)) (x : Nat) : List Nat := rows.map (fun r => r.getD x 0)

/-- A plane's rows within a crop. -/
def cropPlane (plane : List Nat) (stride x y w h : Nat) : List (List Nat) :=
  (List.range h).map (fun j => ((plane.drop ((y + j) * stride + x)).take w))

/-- Resize: a horizontal pass over every row, then a vertical pass over every column. The result is row-major. -/
def resize (rows : List (List Nat)) (w h : Nat) : List Nat :=
  let wide := rows.map (fun r => area r w)
  let cols := (List.range w).map (fun x => area (column wide x) h)
  (List.range h).flatMap (fun j => cols.map (fun c => c.getD j 0))

/-- A sample as 8 bits (R440). -/
def sample8 (main10 : Bool) (x : Nat) : Nat := if main10 then min (rheDiv x 4).toNat 255 else x

/-- Coefficients of R445: Y0, KY, KRV, KGU, KGV, KBU. -/
def colourRow (i : Nat) : List Int :=
  match i with
  | 0 => [16, 298, 459, 55, 136, 541]
  | 1 => [0, 256, 403, 48, 120, 475]
  | 2 => [16, 298, 409, 100, 208, 516]
  | _ => [0, 256, 359, 88, 183, 454]

/-- One pixel as R, G and B (R445). -/
def toRgb (row : Nat) (y cb cr : Nat) : List Nat :=
  let c := fun i => (colourRow row).getD i 0
  let yy := (y : Int) - c 0
  let u := (cb : Int) - 128
  let v := (cr : Int) - 128
  [c 1 * yy + c 2 * v, c 1 * yy - c 3 * u - c 4 * v, c 1 * yy + c 5 * u].map (fun s => (clampI 0 255 (rheDiv s 256)).toNat)

/-- The three channels of a pixel before normalisation, by COLOUR and ORDER (R444 step 3). -/
def pixelOf (colour order : Nat) (vui : Nat) (y cb cr : Nat) : List Nat :=
  if order = 2 then [y, cb, cr]
  else
    let rgb := toRgb (if colour = 4 then vui else colour) y cb cr
    if order = 1 then rgb.reverse else rgb

/-- A field of a stream record. -/
def Stream.f (s : Stream) (w lo n : Nat) : Nat := fld (s.data.getD w 0).toNat lo n

/-- The pixels of a scaled picture, three channels each, row-major. -/
def Stream.scale (s : Stream) (set : ParamSet) (pic : Picture) : List (List Nat) :=
  let p8 := fun (l : List Nat) => l.map (sample8 (decide (set.depth = 10)))
  let x := s.f 2 0 12
  let y := s.f 2 16 12
  let w := s.f 3 0 13
  let h := s.f 3 16 13
  let wn := s.f 4 0 12
  let hn := s.f 4 16 12
  let dv := if set.chroma = .c420 then 2 else 1
  let luma := resize (cropPlane (p8 pic.y) set.width x y w h) wn hn
  let cb := resize (cropPlane (p8 pic.cb) (set.width / 2) (x / 2) (y / dv) (w / 2) (h / dv)) wn hn
  let cr := resize (cropPlane (p8 pic.cr) (set.width / 2) (x / 2) (y / dv) (w / 2) (h / dv)) wn hn
  let vui := if s.f 0 0 2 = 2 then 3 else pic.vui
  (luma.zip (cb.zip cr)).map (fun t => pixelOf (s.f 0 2 3) (s.f 0 5 2) vui t.1 t.2.1 t.2.2)

/-- Minimum and maximum of a channel over the pixels. -/
def channelRange (px : List (List Nat)) (c : Nat) : Nat × Nat :=
  px.foldl (fun m p => (min m.1 (p.getD c 0), max m.2 (p.getD c 0))) (255, 0)

/-- The frame buffer that the scaler takes (R22): of those not picked at the latest bell, the one with the older frame. DESIGN CHOICE (assumption 113):
of two that are equally old, as after the admission, when neither holds a frame, the manual does not state which; it is the lower-numbered. -/
def Stream.target (s : Stream) : Nat :=
  let age := fun b => (s.bufs.getD b {}).order
  match (List.range 3).filter (fun b => decide (s.picked ≠ some b)) with
  | [] => 0
  | b :: rest => rest.foldl (fun m x => if age x < age m then x else m) b

/-- The picture is scaled and normalised with the active set (R58, R64, R444); FRAME_COMPLETE writes it. -/
def Device.beginFrame (d : Device) (i : Nat) (u : AccessUnit) (params : ParamSet) (pic : Picture) : Device :=
  let s := d.stream i
  let set := d.activeNorm
  let px := s.scale params pic
  let entry := (List.range 3).map (fun c => (d.normEntry set i c).1.toNat)
  let codes := px.map (fun p => (List.range 3).map (fun c =>
    let e := entry.getD c 0
    normalise (p.getD c 0) (fld e 0 16) (fld e 16 16) (fld e 32 5)))
  let k := 3 + s.f 0 7 1
  let pixel := fun (l : List (Int × Nat)) => padTo k (l.map (fun q => codeByte q.1))
  let sat := (codes.map (fun l => (l.map (fun q => q.2)).sum)).sum
  let b := s.target
  let frame : FrameBuf := { complete := true, ts := u.ts, rtp := u.rtp, norm := decide (set = 1), order := s.order + 1 }
  d.setStream i { s with
    bufs := upd s.bufs b (fun x => { x with complete := false })
    scaling := some (b, codes.flatMap pixel, frame)
    pixRange := (List.range 3).map (channelRange px)
    satNow := sat }

/-- The profiles, chroma formats and bit depths of a codec (R438). -/
def codecProfiles (codec : Nat) : List Profile :=
  match codec with
  | 0 => [.constrainedBaseline, .main, .high]
  | 1 => [.main, .main10]
  | 2 => [.baselineJpeg]
  | _ => []

def codecChromas (codec : Nat) : List Chroma := if codec = 2 then [.c420, .c422] else [.c420]

def profileDepths (p : Profile) : List Nat := match p with | .main10 => [8, 10] | _ => [8]

/-- What of the parameter sets of a unit does not match the record or the limits of R438, the first in the order of R439. -/
def Stream.unsupported (s : Stream) (p : ParamSet) : Option Nat :=
  if p.codec ≠ s.f 0 0 2 then some 0
  else if p.profile ∉ codecProfiles p.codec then some 1
  else if p.codec ≤ 1 ∧ 51 < p.level then some 2
  else if p.chroma ∉ codecChromas p.codec then some 3
  else if p.depth ∉ profileDepths p.profile then some 4
  else if p.width ≠ s.f 1 0 13 ∨ p.height ≠ s.f 1 16 13 then some 5
  else if p.codec ≤ 1 ∧ !p.progressive then some 6
  else none

/-- Is a stream's oldest unit the first that its engine is to serve: an engine takes the units of its streams in the order of their completion (R442)? -/
def Device.engineNext (d : Device) (s : Stream) (u : AccessUnit) : Bool :=
  d.gate.streams.all (fun kv => decide (kv.2.state ≠ 1 ∨ kv.2.f 0 8 5 ≠ s.f 0 8 5) || kv.2.units.all (fun v => decide (u.order ≤ v.order)))

/-- DECODE_DONE: the engine has decoded the oldest waiting unit of its streams, and the scaler begins the picture. A picture whose parameter
sets `set` do not match the record is discarded (R439). -/
def Device.decodeDone (d : Device) (i : Nat) (set : ParamSet) (pic : Picture) : Device :=
  let s := d.stream i
  match s.units with
  | [] => d
  | u :: rest =>
    if s.state ≠ 1 ∨ s.scaling.isSome ∨ d.gate.stopped ∨ d.engineBad s ∨ !d.engineNext s u then d
    else
      let d1 := d.setStream i { s with units := rest, mismatch := s.unsupported set }
      match s.unsupported set with
      | some r => if s.mismatch = some r then d1
        else (d1.raise GAT 0 2).log 0xB002 GAT 0 0 (i + Config.unsupportedReason r % 256 * 2 ^ 16)
      | none => d1.beginFrame i u set pic

def execDecodeDone (stream : Nat) (set : ParamSet) (pic : Picture) (s : State) : Host.Outcome State Fault Refusal :=
  s.act (Instr.wf (.decodeDone stream set pic)) (fun d => d.decodeDone stream set pic)

/-- ENGINE_FAULT (R443, R592): the engine discards every access unit of its streams. -/
def Device.engineFault (d : Device) (e : Nat) : Device :=
  let d1 := { d with gate := { d.gate with badEngines := insertNew e d.gate.badEngines } }
  let hit := (d1.gate.streams.filter (fun kv => decide (kv.2.state = 1) && d1.engineBad kv.2)).map (fun kv => kv.1)
  let d2 := hit.foldl (fun a i =>
    let s := a.stream i
    a.setStream i { s.count a.now 6 s.units.length with units := [] }) d1
  ((d2.raise GAT 0 4).log 0xB004 GAT 0 0 e).candidate ⟨2, e⟩ 4

def execEngineFault (engine : Nat) (s : State) : Host.Outcome State Fault Refusal :=
  s.act (Instr.wf (.engineFault engine)) (fun d => d.engineFault engine)

/-- Bytes of a row's stride (R446). -/
def Stream.stride (s : Stream) : Nat := (s.f 4 0 12 * (3 + s.f 0 7 1) + 63) / 64 * 64

/-- Write one row of a frame, eight bytes at a time. -/
def Device.writeRow (d : Device) (addr : Nat) (bytes : List Byte) : Device :=
  (List.range ((bytes.length + 7) / 8)).foldl (fun a j =>
    let piece := (bytes.drop (8 * j)).take 8
    a.sthWrite (addr + 8 * j) piece false (decide ((8 * j) / 128 * 128 + 128 ≤ bytes.length))) d

/-- The observed pixel ranges enter the open window (R47, R50). -/
def Window.notePixels (w : Window) (i : Nat) (ranges : List (Nat × Nat)) : Window :=
  if !w.norm then w
  else { w with pix := (ranges.zipIdx).foldl (fun m rc =>
    let old := KMap.get m (3 * i + rc.2) (0, 0)
    let a := if old.2 = 0 then rc.1.1 else min old.1 rc.1.1
    KMap.put m (3 * i + rc.2) (a, max old.2 (rc.1.2 + 1))) w.pix }

/-- FRAME_COMPLETE: the frame is whole in its buffer, with its timestamp (R17, R18). -/
def Device.frameComplete (d : Device) (i : Nat) : Device :=
  let s := d.stream i
  match s.scaling with
  | none => d
  | some (b, bytes, frame) =>
    let row := s.f 4 0 12 * (3 + s.f 0 7 1)
    let d1 := (List.range (s.f 4 16 12)).foldl (fun a j =>
      a.writeRow (s.bufAddr b + j * s.stride) ((bytes.drop (j * row)).take row)) d
    let d2 := d1.setStream i { s.count d.now 1 s.satNow with
      scaling := none, bufs := upd s.bufs b (fun _ => { frame with at_ := d.now }), order := frame.order
      newFrames := s.newFrames + 1, satNow := 0 }
    { d2 with wbr := { d2.wbr with window := d2.wbr.window.map (fun w => w.notePixels i s.pixRange) } }

def execFrameComplete (stream : Nat) (s : State) : Host.Outcome State Fault Refusal :=
  s.act (Instr.wf (.frameComplete stream)) (fun d => d.frameComplete stream)

/-! ### Stream records -/

/-- STREAM_CMD ends: STREAM_DONE, with its result. -/
def Device.streamDone (d : Device) (res : Nat) : Device := (d.setN GAT 0 0x188 res).raise GAT 0 8

/-- The counters as they were before the events of cycle `now`, and those events (R10). -/
def Stream.before (s : Stream) (now : Nat) : List Nat := if s.countedAt = some now then s.counted.take 7 else s.counters
def Stream.events (s : Stream) (now : Nat) : List Nat := if s.countedAt = some now then s.counted.drop 7 else List.replicate 7 0

/-- The words of a record as READ gives them (R447). -/
def Stream.words (s : Stream) : List Nat :=
  (List.range 7).map (fun w => (s.data.getD w 0).toNat) ++
    [s.skipped + s.normSat * 65536, s.lostPkt + s.latePkt * 65536, s.dupPkt + s.badPkt * 65536, s.discFrames + s.state * 65536]

/-- A record after READ_CLEAR: its counters keep the events of the same cycle (R10, R448). -/
def Stream.cleared (s : Stream) (now : Nat) : Stream :=
  { s.setCounters (s.events now) with counted := List.replicate 7 0 ++ s.events now }

/-- READ: the record goes to STREAM_DATA, its counters without the events of this cycle (R10). -/
def Device.streamRead (d : Device) : Device :=
  let s := (d.stream (d.rf GAT 0 0x180 0 9)).setCounters ((d.stream (d.rf GAT 0 0x180 0 9)).before d.now)
  ((s.words.zipIdx).foldl (fun a wi => a.setN GAT 0 (0x1C0 + 4 * wi.2) wi.1) d).streamDone 0

def execStreamRead (s : State) : Host.Outcome State Fault Refusal := s.act (Instr.wf .streamRead) Device.streamRead

/-- READ_CLEAR: READ, and the record's counters are zeroed. -/
def Device.streamReadClear (d : Device) : Device :=
  let i := d.rf GAT 0 0x180 0 9
  (d.setStream i ((d.stream i).cleared d.now) |> fun a => { d.streamRead with gate := a.gate })

def execStreamReadClear (s : State) : Host.Outcome State Fault Refusal := s.act (Instr.wf .streamReadClear) Device.streamReadClear

/-- Declared rate of a record, times 100 (R441). -/
def Stream.rate (s : Stream) : Nat := s.f 1 0 13 * s.f 1 16 13 * s.f 0 14 14

/-- A field of a record is reserved or out of its range (R438, R447). -/
def Device.recordRange (d : Device) (s : Stream) : Bool :=
  let cw := s.f 1 0 13
  let ch := s.f 1 16 13
  let w := s.f 4 0 12
  let h := s.f 4 16 12
  decide (s.f 0 0 2 = 3) || decide (4 < s.f 0 2 3) || decide (s.f 0 5 2 = 3) || decide (d.availDecoders ≤ s.f 0 8 5)
    || decide (s.f 0 14 14 < 1 ∨ 12000 < s.f 0 14 14) || decide (cw < 64 ∨ 4096 < cw ∨ ch < 64 ∨ 2304 < ch)
    || (decide (s.f 0 0 2 = 2) && decide (2040 < cw ∨ 2040 < ch))
    || decide (s.f 2 0 12 % 2 = 1 ∨ s.f 2 16 12 % 2 = 1) || decide (s.f 3 0 13 % 2 = 1 ∨ s.f 3 16 13 % 2 = 1)
    || decide (s.f 3 0 13 < 16 ∨ s.f 3 16 13 < 16) || decide (w < 16 ∨ h < 16 ∨ s.f 3 0 13 < w ∨ s.f 3 16 13 < h)
    || decide (s.f 6 0 28 * 4096 < h * s.stride)

/-- The result that ADMIT gives a record (R449); a dismissed stream counts as admitted until the next bell (R450), and the third buffer ends with its
last row (R446). -/
def Device.admitResult (d : Device) (i : Nat) (s : Stream) : Nat :=
  let peers := (d.gate.streams.filter (fun kv => decide (kv.1 ≠ i ∧ kv.2.f 0 8 5 = s.f 0 8 5) && (decide (kv.2.state = 1) || kv.2.leaving))).map
    (fun kv => kv.2)
  if (d.stream i).state ≠ 0 then 1
  else if d.recordRange s then 2
  else if s.f 1 0 13 < s.f 2 0 12 + s.f 3 0 13 ∨ s.f 1 16 13 < s.f 2 16 12 + s.f 3 16 13 then 3
  else if 16 ≤ peers.length ∨ 99532800000 < (peers.map (fun p => p.rate)).sum + s.rate then 4
  else if d.sthBytes < (s.f 5 0 28 + 2 * s.f 6 0 28) * 4096 + s.f 4 16 12 * s.stride then 5
  else 0

/-- A record as ADMIT leaves it in cycle `now`: the counters stay, and nothing has arrived yet. -/
def Stream.accept (old : Stream) (now : Nat) (data : List Word) : Stream :=
  { data := data, skipped := old.skipped, normSat := old.normSat, lostPkt := old.lostPkt, latePkt := old.latePkt, dupPkt := old.dupPkt,
    badPkt := old.badPkt, discFrames := old.discFrames, countedAt := old.countedAt, counted := old.counted, state := 1, since := some now }

/-- ADMIT (R448, R449). -/
def Device.streamAdmit (d : Device) : Device :=
  let i := d.rf GAT 0 0x180 0 9
  let s := (d.stream i).accept d.now ((List.range 7).map (fun w => d.reg GAT 0 (0x1C0 + 4 * w)))
  let r := d.admitResult i s
  if r = 0 then (d.setStream i s).streamDone 0 else d.streamDone r

def execStreamAdmit (s : State) : Host.Outcome State Fault Refusal := s.act (Instr.wf .streamAdmit) Device.streamAdmit

/-- A stream's packets and decoding stop at once (R448); it counts as admitted until the next bell (R450). -/
def Stream.dismiss (s : Stream) : Stream :=
  if s.state = 1 then
    { s with state := 2, leaving := true, next := none, held := [], unit_ := none, lostFrom := none, units := [], scaling := none }
  else s

/-- DISMISS. -/
def Device.dismiss (d : Device) : Device :=
  let i := d.rf GAT 0 0x180 0 9
  (d.setStream i (d.stream i).dismiss).streamDone 0

def execDismiss (s : State) : Host.Outcome State Fault Refusal := s.act (Instr.wf .dismiss) Device.dismiss

/-- STREAM_BUFFERS_RELEASED: the reads begun before the bell have ended, and the record is free (R450). -/
def Device.buffersReleased (d : Device) (i : Nat) : Device :=
  let s := d.stream i
  if s.state = 2 ∧ !s.leaving ∧ !s.reading then d.setStream i { s with state := 0, bufs := [{}, {}, {}], picked := none, pickTs := none }
  else d

def execStreamBuffersReleased (stream : Nat) (s : State) : Host.Outcome State Fault Refusal :=
  s.act (Instr.wf (.streamBuffersReleased stream)) (fun d => d.buffersReleased stream)

/-- NORM_HI_C_WRITE: the four staged words enter the selected entry, unless it is a locked shadow entry (R69, R451). -/
def Device.normHiC (d : Device) (val : Word) : Device :=
  let d1 := d.setReg GAT 0 0x214 val
  let v := BitVec.ofNat 64 (d1.regN GAT 0 0x208 + d1.regN GAT 0 0x20C * 2 ^ 32)
  let c := BitVec.ofNat 64 (d1.regN GAT 0 0x210 + d1.regN GAT 0 0x214 * 2 ^ 32)
  if d.rf GAT 0 0x200 0 2 = 3 then d1
  else if d.shadowLocked && decide (d.rf GAT 0 0x200 12 1 ≠ d.activeNorm) then d1.busyWrite
  else { d1 with gate := { d1.gate with norm := KMap.set d1.gate.norm d1.normKey (v, c) (0, 0) } }

def execNormHiCWrite (val : Word) (s : State) : Host.Outcome State Fault Refusal :=
  s.act (Instr.wf (.normHiCWrite val)) (fun d => d.normHiC val)

/-! ### PTP, reflectometry, links -/

/-- PTP_STEP_NS: the signed value is added to the nanoseconds (R428). -/
def Device.ptpStep (d : Device) (val : Word) : Device :=
  { d with gate := { d.gate with ptpNs := wrapN 64 ((d.gate.ptpNs : Int) + sx 32 val.toNat) } }

def execPtpStepNs (val : Word) (s : State) : Host.Outcome State Fault Refusal :=
  s.act (Instr.wf (.ptpStepNs val)) (fun d => d.ptpStep val)

/-- Stock mode brings up a port whose link is up: joins for the 512 groups, and on port 2 a DHCPv4 client (R615). -/
def Device.stockPort (d : Device) (port : Nat) : Device :=
  let d1 := (List.range 512).foldl (fun a s => a.emit (.joinGroup port s)) (d.setB GAT 0 0x008 port true)
  if port = 2 then d1.emit .dhcpDiscover else d1

/-- A port's link goes up or down (R461, R463). -/
def Device.linkChange (d : Device) (port : Nat) (up : Bool) (speed : Nat) : Device :=
  let d1 := d.setB GAT 0 0x010 port up
  let d2 := if port = 2 then d1.setF GAT 0 0x010 3 2 (if up then speed else 0) else d1
  let d3 := (d2.raise GAT 0 5).log 0xB005 GAT 0 0 (port + 2 ^ 8 * b2n up)
  if d.stockMode && up then d3.stockPort port else d3

def execLinkChange (port : Nat) (up : Bool) (speed : Nat) (s : State) : Host.Outcome State Fault Refusal :=
  s.act (Instr.wf (.linkChange port up speed)) (fun d => d.linkChange port up speed)

/-- GATE_TDR_START: the link of port 2 goes down for the measurement (R459). -/
def Device.gateTdrStart (d : Device) : Device :=
  let d1 := ({ d with gate := { d.gate with tdr := true } }).emit (.tdrPulse 2)
  if d.rb GAT 0 0x010 2 then d1.linkChange 2 false 0 else d1

def execGateTdrStart (s : State) : Host.Outcome State Fault Refusal := s.act (Instr.wf .gateTdrStart) Device.gateTdrStart

/-- GATE_TDR_DONE: a state and a distance for each pair. -/
def Device.gateTdrDone (d : Device) (pairs : List (Nat × Nat)) : Device :=
  if !d.gate.tdr then d
  else
    let d1 := (pairs.zipIdx).foldl (fun a pi => a.setN GAT 0 (0x304 + 4 * pi.2) (pi.1.1 % 8 + pi.1.2 % 4096 * 256)) d
    ({ d1 with gate := { d1.gate with tdr := false } }).raise GAT 0 6

def execGateTdrDone (pairs : List (Nat × Nat)) (s : State) : Host.Outcome State Fault Refusal :=
  s.act (Instr.wf (.gateTdrDone pairs)) (fun d => d.gateTdrDone pairs)

end Sys2Proof.Machine
end

