-- ==== Sys2Proof/Machine/Crier.lean ====
section
/-! DEFINITION. The Crier: frames and transmit queues (R453, R454), reception, census and strangers (R455 to R458), PLCA (R452) and
reflectometry (R460). -/

namespace Sys2Proof.Machine

/-! ### Frames -/

/-- MAC address of a segment, and a destination entry (R465). -/
def Device.segMac (d : Device) (g : Nat) : Nat := d.regN CRI g 0x110 + d.rf CRI g 0x114 0 16 * 2 ^ 32
def Device.destMac (d : Device) (g i : Nat) : Nat := d.regN CRI g (0x200 + 8 * i) + d.rf CRI g (0x204 + 8 * i) 0 16 * 2 ^ 32

/-- Pad to the 60-byte minimum. -/
def pad60 (l : List Byte) : List Byte := l ++ List.replicate (60 - l.length) 0

/-- Bytes 0 to 13 of a frame of the Crier (R453). -/
def Device.crierHead (d : Device) (g dest : Nat) : List Byte := leBytes 6 dest ++ leBytes 6 (d.segMac g) ++ [0x88, 0xB5]

/-- The frame of a verdict (R453). -/
def Device.verdictFrame (d : Device) (g dest stream slot flags bell ts : Nat) (rtp : Word) (payload : List Byte) : List Byte :=
  pad60 (d.crierHead g (d.destMac g dest) ++ [1, 1] ++ leBytes 2 stream ++ leBytes 2 slot ++ leBytes 2 flags ++ leBytes 2 payload.length
    ++ [0, 0] ++ leBytes 8 bell ++ leBytes 8 ts ++ leBytes 4 rtp.toNat ++ payload)

/-- STATUS.QUEUE_FULL follows the queue. -/
def Device.queueFlag (d : Device) (g : Nat) : Device := d.setB CRI g 0x010 1 (decide (64 ≤ (d.seg g).queue.length))

/-- A frame leaves a queue without being sent (R454). -/
def Device.txDrop (d : Device) (g : Nat) (f : TxFrame) : Device := (d.count32 CRI g 0x038).log 0xB105 CRI g 0 (g + f.stream % 512 * 2 ^ 16)

/-- A frame joins the transmit queue; with 64 there, it displaces the oldest (R454). -/
def Device.txQueue (d : Device) (g : Nat) (f : TxFrame) : Device :=
  match (d.seg g).queue with
  | old :: rest =>
    if 64 ≤ (d.seg g).queue.length then ((d.setSeg g { d.seg g with queue := rest ++ [f] }).txDrop g old).queueFlag g
    else (d.setSeg g { d.seg g with queue := old :: rest ++ [f] }).queueFlag g
  | [] => (d.setSeg g { d.seg g with queue := [f] }).queueFlag g

/-- The segment of a handover. -/
def Handover.seg : Handover → Nat
  | .verdict g _ _ _ _ _ _ _ _ => g
  | .frame g _ => g

/-- CRIER_FRAME_QUEUE: the oldest verdict or Trestle frame handed over for the segment (R453, R546). What stream TX_DROP names for a
Trestle frame the manual does not state. -/
def Device.crierFrameQueue (d : Device) (g : Nat) : Device :=
  match d.crier.handed.find? (fun h => decide (h.seg = g)) with
  | none => d
  | some h =>
    let d1 := { d with crier := { d.crier with handed := dropFirst (fun x => decide (x.seg = g)) d.crier.handed } }
    match h with
    | .verdict _ dest stream slot flags bell ts rtp payload =>
      d1.txQueue g ⟨d1.verdictFrame g dest stream slot flags bell ts rtp payload, stream⟩
    | .frame _ bytes => d1.useFree.txQueue g ⟨pad60 bytes, d1.free.toNat % 512⟩

def execCrierFrameQueue (seg : Nat) (s : State) : Host.Outcome State Fault Refusal :=
  s.act (Instr.wf (.crierFrameQueue seg)) (fun d => d.crierFrameQueue seg)

/-- Does PLCA govern the segment: enabled, and not fallen back (R452)? -/
def Device.plca (d : Device) (g : Nat) : Bool := d.rb CRI g 0x008 1 && !(d.seg g).fellBack

/-- CRIER_TRANSMIT: the oldest frame is sent, or under CSMA/CD abandoned after 16 attempts (R454). -/
def Device.crierTransmit (d : Device) (g : Nat) (sent : Bool) : Device :=
  match (d.seg g).queue with
  | [] => d
  | f :: rest =>
    if !d.rb CRI g 0x008 0 || (d.seg g).tdr then d
    else
      let d1 := (d.setSeg g { d.seg g with queue := rest }).queueFlag g
      if sent then (d1.count32 CRI g 0x03C).emit (.segFrame g f.bytes)
      else if d.plca g then d else d1.txDrop g f

def execCrierTransmit (seg : Nat) (sent : Bool) (s : State) : Host.Outcome State Fault Refusal :=
  s.act (Instr.wf (.crierTransmit seg sent)) (fun d => d.crierTransmit seg sent)

/-! ### Strangers (R457) -/

/-- A stranger: one Ledger event per ID or address from the time SEG_STRANGER is cleared. -/
def Device.segStranger (d : Device) (g : Nat) (id : Option Nat) (mac : BitVec 48) : Device :=
  let s0 := d.seg g
  let s := if d.rb CRI g 0x014 0 then s0 else { s0 with strangerIds := [], strangerMacs := [] }
  let known := match id with | some i => decide (i ∈ s.strangerIds) | none => decide (mac ∈ s.strangerMacs)
  let s1 := match id with
    | some i => { s with strangerIds := insertNew i s.strangerIds }
    | none => { s with strangerMacs := insertNew mac s.strangerMacs }
  let d1 := ((d.setSeg g s1).count32 CRI g 0x034).raise CRI g 0
  if known then d1
  else d1.log 0xB103 CRI g 0 (match id with | some i => g + i * 2 ^ 8 + 2 ^ 15 | none => g + mac.toNat * 2 ^ 16)

/-- Is a source address a destination entry with KNOWN set? -/
def Device.knownMac (d : Device) (g mac : Nat) : Bool :=
  (List.range 64).any (fun i => d.rb CRI g (0x204 + 8 * i) 16 && decide (d.destMac g i = mac))

/-- A frame as a Trestle port delivers it: LEN, then the bytes, END on the last word (R546). -/
def frameWords (bytes : List Byte) (gen : BitVec 2) : List BWord :=
  let n := (bytes.length + 7) / 8
  dataWord (BitVec.ofNat 64 bytes.length) (decide (n = 0)) false gen ::
    (List.range n).map (fun i => dataWord (wordOf (padTo 8 ((bytes.drop (8 * i)).take 8))) (decide (i + 1 = n)) false gen)

/-- Words are discarded at a port (R545, R546). -/
def Device.tpDiscard (d : Device) (tp words : Nat) : Device :=
  (d.bumpBy TRS 0 0x034 0xFFFFFFFF words).log 0xB404 TRS 0 0 (tp + words * 2 ^ 16)

/-- Copies of a received frame for the CRIER_RX ports that ask for its EtherType (R541, R546). -/
def Device.crierCopies (d : Device) (g : Nat) (f : SegFrame) : Device :=
  (d.trestle.ports.zipIdx).foldl (fun a ti =>
    if ti.1.kind = 6 ∧ ti.1.seg = g ∧ ti.1.etype = f.etype then
      let ws := frameWords f.bytes a.loader.gen
      if a.trestle.reconfiguring || decide (16 ≤ ti.1.words.length) then a.tpDiscard ti.2 ws.length
      else { a with trestle := { a.trestle with ports := upd a.trestle.ports ti.2 (fun t => { t with words := t.words ++ ws }) } }
    else a) d

/-- SEGMENT_FRAME_RECEIVE (R455, R457). -/
def Device.segReceive (d : Device) (g : Nat) (f : SegFrame) : Device :=
  if !d.rb CRI g 0x008 0 then d
  else
    let d1 := if d.knownMac g f.src.toNat then d else d.segStranger g none f.src
    let d2 := d1.crierCopies g f
    if f.dst.toNat = d.segMac g ∨ f.dst = -1 then
      (if d2.clerkFull then d2.clerkDrop 3
       else { d2 with gate := { d2.gate with segQueue := d2.gate.segQueue ++ [(g, f)] } })
    else d2

def execSegmentFrameReceive (seg : Nat) (frame : SegFrame) (s : State) : Host.Outcome State Fault Refusal :=
  s.act (Instr.wf (.segmentFrameReceive seg frame)) (fun d => d.segReceive seg frame)

/-! ### PLCA -/

/-- PLCA_OPPORTUNITY: some node transmits in the opportunity of an ID (R456, R457). -/
def Device.plcaOpportunity (d : Device) (g node : Nat) : Device :=
  if !d.rb CRI g 0x008 0 || !d.rb CRI g 0x008 1 then d
  else
    let d1 := ((d.setSeg g { d.seg g with fellBack := false }).setB CRI g 0x010 0 true).orRC CRI g 0x108 (2 ^ node)
    if d.rb CRI g 0x10C node then d1 else d1.segStranger g (some node) 0

def execPlcaOpportunity (seg node : Nat) (s : State) : Host.Outcome State Fault Refusal :=
  s.act (Instr.wf (.plcaOpportunity seg node)) (fun d => d.plcaOpportunity seg node)

/-- DUP_ID: a collision on a segment in use; under PLCA two nodes hold one ID (R458). -/
def Device.collision (d : Device) (g node : Nat) : Device :=
  if !d.rb CRI g 0x008 0 then d
  else
  let d1 := d.count32 CRI g 0x030
  if d.plca g then (d1.raise CRI g 1).log 0xB102 CRI g 0 (g + node * 2 ^ 8) else d1

def execDupId (seg node : Nat) (s : State) : Host.Outcome State Fault Refusal :=
  s.act (Instr.wf (.dupId seg node)) (fun d => d.collision seg node)

/-- BEACON_LOST: a follower falls back to CSMA/CD (R452). -/
def Device.beaconLost (d : Device) (g : Nat) : Device :=
  if !d.rb CRI g 0x008 0 || !d.rb CRI g 0x008 1 || decide (d.rf CRI g 0x100 0 5 = 0) then d
  else (((d.setSeg g { d.seg g with fellBack := true }).setB CRI g 0x010 0 false).raise CRI g 2).log 0xB101 CRI g 0 g

def execBeaconLost (seg : Nat) (s : State) : Host.Outcome State Fault Refusal :=
  s.act (Instr.wf (.beaconLost seg)) (fun d => d.beaconLost seg)

/-! ### Reflectometry (R460) -/

/-- SEGMENT_TDR_START: the segment's transmissions stop. -/
def Device.segTdrStart (d : Device) (g : Nat) : Device := (d.setSeg g { d.seg g with tdr := true }).emit (.tdrPulse (4 + g))

def execSegmentTdrStart (seg : Nat) (s : State) : Host.Outcome State Fault Refusal :=
  s.act (Instr.wf (.segmentTdrStart seg)) (fun d => d.segTdrStart seg)

/-- TERM_FAULT: the measurement ends with TERM and a distance; TERM 0 is no fault. -/
def Device.termFault (d : Device) (g term dist : Nat) : Device :=
  if !(d.seg g).tdr then d
  else
    let d1 := ((d.setSeg g { d.seg g with tdr := false }).setN CRI g 0x11C (term + dist * 16)).raise CRI g 4
    if term = 0 then d1 else (d1.raise CRI g 3).log 0xB104 CRI g 0 (g + term * 2 ^ 8 + dist * 2 ^ 16)

def execTermFault (seg term dist : Nat) (s : State) : Host.Outcome State Fault Refusal :=
  s.act (Instr.wf (.termFault seg term dist)) (fun d => d.termFault seg term dist)

end Sys2Proof.Machine
end

