-- ==== Sys2Proof/Machine/Bell.lean ====
section
/-! DEFINITION. The bell (R217 to R228), slots (R223, R224), the end of a hush, the check (R234 to R240), the bells that swap, load, complete
and halt (R62, R70, R249, R250, R317, R320, R321, R327), and what stock mode sends at a bell (R618, R619). -/

namespace Sys2Proof.Machine

/-! ### Decisions (R70, R249, R320) -/

/-- Count of the next bell. -/
def Device.nextBell (d : Device) : Nat := if d.bell.waiting then 0 else d.bell.count + 1

/-- Is bell `n` to be a bell of a kind: 0 swap, 1 load, 2 completion, 3 halt? Decisions name 24 bits of the count (R477). -/
def Device.decidedAt (d : Device) (kind n : Nat) : Bool := decide ((kind, n % 2 ^ 24) ∈ d.bell.decided)

/-- The master makes one decision and tells the market (R477). -/
def Device.decideOne (d : Device) (kind : Nat) : Device :=
  let n := d.nextBell % 2 ^ 24
  let d1 := { d with bell := { d.bell with decided := insertNew (kind, n) d.bell.decided } }
  d1.sendNew d1.upLinks 6 kind n 0

/-- What the master decides at the guard cycle. -/
def Device.guardKinds (d : Device) : List Nat :=
  (if d.marketReady 0 then [0] else []) ++ (if d.marketReady 1 && decide (d.loadState = 2) then [1] else [])
    ++ (if d.marketReady 2 && decide (d.loadState = 4) then [2] else [])
    ++ (if d.bell.halting && (!d.marketHalted || !d.children.isEmpty) then [3] else [])

/-- GUARD_DECISION: only for a bell that will ring, or for bell 0 where it waits for its grid time (R226). -/
def Device.guardDecision (d : Device) : Device :=
  if d.follows || !(d.bellsRing && d.rb BEL 0 0x008 0 || d.bell.waiting && d.bell.grid.isSome) then d else d.guardKinds.foldl (fun a k => a.decideOne k) d

def execGuardDecision (s : State) : Host.Outcome State Fault Refusal := s.act (Instr.wf .guardDecision) Device.guardDecision

/-! ### Slots -/

/-- Channels of the rota, in order. -/
def Device.rotaChans (d : Device) : List (Nat × Chan) := d.chans.filter (fun kc => kc.2.rota)

/-- The stream of the first stream-frame descriptor of a slot that stages its frame in the Depot or the Storehouse, or that does not. -/
def Device.frameRead (d : Device) (slot : Nat) (staged : Bool) : Option Nat :=
  d.rotaChans.findSome? (fun kc => (kc.2.program.find? (fun x =>
    dIn x slot && decide (dSsp x = 3) && (decide (dDsp x ≤ 1) == staged))).map (fun x => srcAddr x slot % 512))

/-- The stream whose frame a slot's work uses, and whether that of the round before: its porters stage the frame during the slot before its own, or read
it in the slot itself (chapter 1, assumption 41). -/
def Device.slotStream (d : Device) (slot : Nat) : Option (Nat × Bool) :=
  match d.frameRead slot false with
  | some i => some (i, false)
  | none =>
    let before := if slot = 0 then d.bell.slots - 1 else slot - 1
    (d.frameRead before true).map (fun i => (i, decide (slot = 0)))

/-- What was picked for that stream. -/
def Device.slotPick (d : Device) (slot : Nat) : Option Pick :=
  (d.slotStream slot).map (fun x =>
    ((if x.2 then d.bell.picksWas else d.bell.picks).find? (fun p => decide (p.stream = x.1))).getD ⟨x.1, 0, 0, 0, false, false, true⟩)

/-- Descriptors that carry verdicts of a slot, with their channels; one for each egress basket. -/
def Device.slotEgress (d : Device) (slot : Nat) : List (Nat × Desc) :=
  let all := d.rotaChans.flatMap (fun kc => (kc.2.program.filter (fun x => dIn x slot && dEgress x)).map (fun x => (kc.1, x)))
  all.foldl (fun l cx => if l.any (fun y => decide (srcAddr y.2 slot = srcAddr cx.2 slot)) then l else l ++ [cx]) []

/-- A verdict is owed for the slot on one egress basket; SEQ counts it (R520, R523). What stream a slot has that reads no frame the manual
does not state. -/
def Device.oweOne (d : Device) (slot : Nat) (cx : Nat × Desc) (late : Bool) : Device :=
  let e := srcAddr cx.2 slot % 320
  let stream := ((d.slotStream slot).map (fun x => x.1)).getD (d.free.toNat % 512)
  let key := 512 * e + stream
  let seq := KMap.get d.bell.seqs key 0
  let pick := d.slotPick slot
  let due : Due := { slot := slot, stream := stream, bell := d.bell.count, egress := e, seq := seq, gen := d.loader.gen,
                     cal := decide (d.activeSet = 1), pick := pick, cause := if late then some 2 else none, chan := cx.1, dsp := dDsp cx.2,
                     daddr := dstAddr cx.2 slot, limit := dLength cx.2, packets := (d.egress e).packets }
  let b := { d.bell with owing := d.bell.owing ++ [due], seqs := KMap.put d.bell.seqs key ((seq + 1) % 65536) }
  { d.useFree with bell := b }

/-- Every verdict of a slot is owed. -/
def Device.oweSlot (d : Device) (slot : Nat) (late : Bool) : Device :=
  (d.slotEgress slot).foldl (fun a cx => a.oweOne slot cx late) d

/-- Edge positions that the ingress porters feed in a slot. -/
def Device.slotEdges (d : Device) (slot : Nat) : List Nat :=
  d.rotaChans.foldl (fun l kc => kc.2.program.foldl (fun m x =>
    if dIn x slot && decide (dDsp x = 4) then insertNew (dstAddr x slot % 320) m else m) l) []

/-- Contexts of the edge stall whose SLOT_BASKETS holds the basket that an edge position feeds. -/
def Device.edgeCtxs (d : Device) (e : Nat) : List Nat :=
  match d.edgeStall e with
  | some (p, b) => (List.range 8).filter (fun k => (d.stall p).used k && decide (b ∈ ((d.stall p).ctx k).slotBaskets))
  | none => []

/-- SLOT tokens wait at an edge position, ahead of every word its porters have not given it yet (R224). -/
def Device.edgeTokens (d : Device) (e : Nat) (ws : List (Nat × BWord)) : Device :=
  { d with arcade := { d.arcade with edgeTokens := KMap.put d.arcade.edgeTokens e (KMap.get d.arcade.edgeTokens e [] ++ ws) } }

/-- A SLOT token's payload: KIND 1, CTX, CAL_SET and the slot (R63, R130, R157). -/
def slotPayload (k cal slot : Nat) : Word := BitVec.ofNat 32 (2 ^ 28 + k % 8 * 2 ^ 25 + cal % 2 * 2 ^ 24 + slot % 512)

/-- No body of a slot has ended since it was issued (R375). -/
def Device.clearEnds (d : Device) (slot : Nat) : Device :=
  { d with stalls := d.stalls.map (fun (kv : Nat × Stall) =>
      (kv.1, { kv.2 with ctxs := kv.2.ctxs.map (fun c => { c with ends := KMap.set c.ends slot 0 0 }) })) }

/-- The slot is issued: its work is given to the porters and its SLOT tokens to the edges (R63, R224). -/
def Device.issueSlot (d : Device) (slot : Nat) : Device :=
  let d1 := (d.oweSlot slot false).clearEnds slot
  let run : SlotRun := ⟨slot, d.work, d.bell.count⟩
  let d2 := d1.rotaChans.foldl (fun a kc =>
    let c := a.chan kc.1
    a.setChan kc.1 (if c.run.isNone then c.takeSlot (c.due ++ [run]) else { c with due := c.due ++ [run] })) d1
  (d.slotEdges slot).foldl (fun a e =>
    a.edgeTokens e ((a.edgeCtxs e).map (fun k => (run.seq, tokenWord (slotPayload k a.activeSet slot) a.loader.gen)))) d2

/-- Does the rota issue slots: bells ring, no halt, an image runs, and no load is past its load bell (R250, R321, R327)? -/
def Device.issuing (d : Device) : Bool :=
  d.bellsRing && !d.marketHalted && d.loader.running.isSome && decide (d.loadState ≠ 3 ∧ d.loadState ≠ 4)

/-- o_k: the start of slot `k`, in cycles from its bell, by the committed P and the S in force (R223). -/
def Device.slotOffset (d : Device) (k : Nat) : Nat := (k * d.period + d.bell.slots * 32768) / (d.bell.slots * 65536)

/-- Work of a slot whose start has come: in a hushed cycle it waits for the first unhushed one (R224). -/
def Device.beginSlot (d : Device) (slot : Nat) : Device :=
  if !d.issuing || decide (d.bell.slots ≤ slot) then d
  else if d.bell.hushed then { d with bell := { d.bell with deferred := insertNew slot d.bell.deferred } }
  else d.issueSlot slot

/-- SLOT_START: the slots of a round start in order, once each, none before its cycle (R223, R224). -/
def Device.slotStart (d : Device) (slot : Nat) : Device :=
  if slot ≠ d.bell.issued ∨ d.rf BEL 0 0x128 0 24 < d.slotOffset slot then d
  else { d with bell := { d.bell with issued := slot + 1 } }.beginSlot slot

def execSlotStart (slot : Nat) (s : State) : Host.Outcome State Fault Refusal :=
  s.act (Instr.wf (.slotStart slot)) (fun d => d.slotStart slot)

/-- Slots whose start was hushed begin. -/
def Device.startDeferred (d : Device) : Device :=
  d.bell.deferred.foldl (fun a k => a.beginSlot k) { d with bell := { d.bell with deferred := [] } }

/-- HUSH_LEAVE: no request was held 3 cycles ago (R231). -/
def Device.hushLeave (d : Device) : Device :=
  if d.bell.hushed && !d.hushDue then { d with bell := { d.bell with hushed := false } }.startDeferred else d

def execHushLeave (s : State) : Host.Outcome State Fault Refusal := s.act (Instr.wf .hushLeave) Device.hushLeave

/-- HUSH_TIMEOUT ends the hush, and slots deferred by it begin (R224, R233). -/
def execHushTimeout (s : State) : Host.Outcome State Fault Refusal :=
  s.act (Instr.wf .hushTimeout) (fun d =>
    let d1 := d.hushTimeout
    if d.bell.hushed && !d1.bell.hushed then d1.startDeferred else d1)

/-- The slots still deferred at a bell are owed void verdicts with LATE (R224). -/
def Device.missSlots (d : Device) : Device :=
  let d1 := d.bell.deferred.foldl (fun a k => a.oweSlot k true) d
  { d1 with bell := { d1.bell with deferred := [] } }

/-- SLOT_NOT_ISSUED for slots of a round, logged at the bell that closes it (R224, R413). -/
def Device.logMissed (d : Device) (slots : List Nat) (round : Nat) : Device :=
  slots.foldl (fun a k => a.log 0xA010 BEL 0 0 (k + round % 2 ^ 32 * 2 ^ 32)) d

/-! ### The round -/

/-- PTP_ERR at a bell (R227): the PTP time less the nearest grid time, to the nearest nanosecond. -/
def Device.ptpError (d : Device) : Int :=
  let a := ((d.gate.ptpNs : Int) - d.ptpOrigin) * 65536
  let g := (d.period : Int) * 5
  let lim : Int := (2 ^ 31 - 1 : Nat)
  clampI (-lim) lim (rheDiv (a - rheDiv a g * g) 65536)

/-- PTP_PHASE_STEP and PTP_UNLOCK on the master; PTP_EN has no effect elsewhere (R226 to R228). -/
def Device.ptpBell (d : Device) : Device :=
  if !d.isMaster || !d.rb BEL 0 0x008 2 then { d with bell := { d.bell with step := 0 } }
  else
    let e := d.ptpError
    let lim : Int := d.rf BEL 0 0x148 0 8
    let lock := decide (e.natAbs ≤ 25)
    let d1 := { d with bell := { d.bell with step := clampI (-lim) lim (-(rheDiv e 5)), ptpLocked := lock } }
    let d2 := d1.setN BEL 0 0x14C (wrapN 32 e)
    if d.bell.ptpLocked && !lock then d2.raise BEL 0 8 else d2

/-- The length of the round that the bell opens, and the phase accumulator after it (R220). A follower keeps the previous length until the
BELL of the master comes (R481 to R483). -/
def Device.openRound (d : Device) : Device :=
  let sum := d.bell.acc + d.bell.frac
  let len := ((d.bell.int : Int) + (if 65536 ≤ sum then 1 else 0) + d.bell.step).toNat
  let d1 := (d.setN BEL 0 0x128 0).setF BEL 0 0x12C 0 24 (if d.follows then d.rf BEL 0 0x12C 0 24 else len)
  { d1 with bell := { d1.bell with acc := sum % 65536, prevLen := d.rf BEL 0 0x12C 0 24, slots := d.rf BEL 0 0x110 0 10, issued := 0 } }

/-- HUSH_LAST_COPY and OVER_BUDGET (R234, R235). -/
def Device.hushBell (d : Device) : Device :=
  let last := d.rf BEL 0 0x130 0 24
  let w := last + d.rf BEL 0 0x134 0 24
  let d1 := (d.setN BEL 0 0x134 last).setN BEL 0 0x130 0
  let spent := decide (d.regN BEL 0 0x118 < w)
  let d2 := d1.setB BEL 0 0x010 5 spent
  if spent then d2.raise BEL 0 6 else d2

/-- FIRE_COUNT_ROLLOVER (R115). -/
def Device.rollover (d : Device) : Device :=
  d.stalls.foldl (fun a ps => (List.range 8).foldl (fun b k =>
    (b.setN STL ps.1 (0x1A0 + 4 * k) (d.regN STL ps.1 (0x180 + 4 * k))).setN STL ps.1 (0x180 + 4 * k) 0) a) d

/-! ### The check (R236 to R240) -/

/-- A late context is recorded (R238). `v` is the V of R240. -/
def Device.recordLate (d : Device) (p k v : Nat) (aborted first : Bool) : Device :=
  let c := (d.stall p).ctx k
  let loc := d.whereP p 0 0 k 0
  let detail := c.began.getD 0x1FF + b2n aborted * 2 ^ 16 + v % 65536 * 2 ^ 32
  let d1 := ((d.log 0xA001 STL p loc detail).count16 BEL 0 0x030).raise BEL 0 1
  match first, d.logOf p with
  | true, some (row, col) => d1.setN BEL 0 0x144 (1 + k * 2 ^ 9 + col * 2 ^ 19 + row * 2 ^ 26)
  | _, _ => d1

/-- BODY_ABORT: a late context on a stall that is not closed issues nothing in the bell cycle, be it hushed or not, and owes V bodies (R240). -/
def Device.lateBody (d : Device) (p k v : Nat) : Device :=
  if d.closed p then d
  else
    let inBody := ((d.stall p).ctx k).inBody
    let d1 := if inBody then d.abortBody p k else d
    d1.updStall p (fun s =>
      let c := s.ctx k
      let s1 := s.setCtx k { c with owed := c.owed + (v - b2n inBody), lateAt := some d.now }
      if k = s.cur then { s1 with waitIn := false, waitOut := false } else s1)

/-- SCHEDULE_DEVIATION (R239, R249). -/
def Device.deviation (d : Device) (p k : Nat) : Device :=
  ((d.fault STL p 0x5001 (d.whereP p 0 0 k 0)).raise BEL 0 2).reportHalt 0

/-- The outcome for one context: the device, and whether a late context has been found at this bell. -/
def Device.checkCtx (x : Device × Bool) (p k : Nat) : Device × Bool :=
  let d := x.1
  let s := d.stall p
  let last := d.regN STL p (0x1A0 + 4 * k)
  let exp := d.regN STL p (0x1C0 + 4 * k)
  let f := d.perBody p k
  let v := (exp - last + f - 1) / f
  if s.faulted || s.parityClosed then (d.recordLate p k v false (!x.2), true)
  else if last = exp then x
  else if exp < last then (d.deviation p k, x.2)
  else
    let aborted := !d.closed p && (s.ctx k).inBody
    let d1 := (d.recordLate p k v aborted (!x.2)).lateBody p k v
    (if d.rb BEL 0 0x010 5 then d1 else d1.deviation p k, true)

/-- BELL_CHECK: every context in use of every stall that has a place in the Square. -/
def Device.bellCheck (d : Device) : Device :=
  (d.stalls.foldl (fun x ps =>
    if (d.logOf ps.1).isNone then x
    else (List.range 8).foldl (fun y k => if ps.2.used k then Device.checkCtx y ps.1 k else y) x) (d, false)).1

/-! ### Halt, load and completion bells -/

/-- HALT_BELL (R250, R329, R353). -/
def Device.haltBell (d : Device) : Device :=
  let d1 := ((d.closeAll.stopRota.voidOwing 3).setB BEL 0 0x010 1 true).raise BEL 0 3
  let d2 := { d1 with bell := { d1.bell with halting := false } }
  match d2.loadState with
  | 1 => { d2 with loader := { d2.loader with full := true } }.setB CLK 0 0x110 3 true
  | 2 => { d2 with loader := { d2.loader with full := true } }.setB CLK 0 0x110 3 true
  | 3 => d2.failLoad ⟨CLK, 0, 0x8002, 0⟩
  | 4 => d2.failLoad ⟨CLK, 0, 0x8002, 0⟩
  | 5 => d2.setLoadState 0
  | _ => d2

/-- A GEN token's payload (R322). -/
def genPayload (k : Nat) (gen : BitVec 2) : Word := BitVec.ofNat 32 (4 * 2 ^ 28 + k % 8 * 2 ^ 25 + gen.toNat)

/-- GEN tokens wait at an edge position, behind the data of the old image. -/
def Device.edgeGens (d : Device) (e : Nat) (ks : List Nat) : Device :=
  let ws := ks.map (fun k => tokenWord (genPayload k d.loader.newGen) d.loader.gen)
  { d with arcade := { d.arcade with edgeGens := KMap.put d.arcade.edgeGens e (KMap.get d.arcade.edgeGens e [] ++ ws) } }

/-- GEN tokens in place of slot 0, and from the EDGE_OUT ports (R321, R545). -/
def Device.issueGens (d : Device) : Device :=
  let d1 := (d.slotEdges 0).foldl (fun a e => a.edgeGens e (a.edgeCtxs e)) d
  d.trestle.ports.foldl (fun a t => if t.kind = 3 then a.edgeGens t.edge ((List.range 8).filter (fun k => tb t.ctx k)) else a) d1

/-- Is a stall closed by a fault? Then an overlapped load goes on as a full one (R352). -/
def Device.anyFaulted (d : Device) : Bool := d.stalls.any (fun s => s.2.faulted || s.2.parityClosed)

/-- LOAD_BELL (R317 step 4, R321). -/
def Device.ringLoad (d : Device) : Device :=
  match d.loader.staged with
  | none => d
  | some img =>
    let full := d.loader.full || d.anyFaulted
    let n := d.bell.count
    let d1 := ((((d.setN CLK 0 0x11C (n % 2 ^ 32)).setN CLK 0 0x124 0).raise CLK 0 3).setB CLK 0 0x110 3 full).spendReady 1
    let d2 := { d1 with loader := { d1.loader with loadBell := n, full := full }, wbr := { d1.wbr with window := none },
                        bell := { d1.bell with suspended := true } }
    if full then (d2.voidOwing 4).beginFull
    else ((d2.setLoadState 3).issueGens).trestleLoadBell img d.chipIndex false

/-! ### Frames (R19 to R21, R450) -/

/-- Does a slot of the rota read a stream's frames? -/
def Device.slotReads (d : Device) (i : Nat) : Bool :=
  d.issuing && (List.range d.bell.slots).any (fun k => d.rotaChans.any (fun kc => kc.2.program.any (fun x =>
    dIn x k && decide (dSsp x = 3 ∧ srcAddr x k % 512 = i))))

/-- Frames that have become complete in cycle `now`: they belong to the round that a bell of the cycle opens (R19, R217). -/
def Stream.justNow (s : Stream) (now : Nat) : Nat := (s.bufs.filter (fun f => f.complete && decide (f.at_ = now))).length

/-- The newest buffer of a stream that was complete before cycle `now`. -/
def Stream.newest (s : Stream) (now : Nat) : Option Nat :=
  ((List.range 3).filter (fun b => (s.bufs.getD b {}).complete && decide ((s.bufs.getD b {}).at_ ≠ now))).foldl (fun m b => match m with
    | none => some b
    | some x => if (s.bufs.getD x {}).order < (s.bufs.getD b {}).order then some b else m) none

/-- What the bell picks for a stream (R19 to R21). -/
def Stream.pick (s : Stream) (i now : Nat) : Pick × Stream :=
  let none_ : Pick := ⟨i, 0, 0, 0, false, false, true⟩
  let new := s.newFrames - s.justNow now
  if s.state ≠ 1 then (none_, { s with leaving := false })
  else if new = 0 then
    match s.pickTs with
    | some p => ({ p with again := true }, s)
    | none => (none_, s)
  else match s.newest now with
    | none => (none_, s)
    | some b =>
      let f := s.bufs.getD b {}
      let p : Pick := ⟨i, b, f.ts, f.rtp, f.norm, false, false⟩
      let s1 := if new = 1 then s else s.count now 0 (new - 1)
      (p, { s1 with picked := some b, pickTs := some p, newFrames := s.justNow now })

/-- The picks of a bell. -/
def Device.pickBell (d : Device) : Device :=
  let r := d.gate.streams.map (fun (kv : Nat × Stream) => (kv.1, kv.2.pick kv.1 d.now))
  let streams : KMap Stream := r.map (fun x =>
    (x.1, if x.2.1.none_ then x.2.2 else { x.2.2 with reading := x.2.2.reading || d.slotReads x.1 }))
  { d with gate := { d.gate with streams := streams, queueFullLogged := false },
           bell := { d.bell with picksWas := if d.bell.count = 0 then [] else d.bell.picks, picks := r.map (fun x => x.2.1) } }

/-! ### Equalisers (R487) -/

/-- A lane's shadow setting and margin at a bell: what live traffic has made of them is not stated. -/
def Device.adaptLane (d : Device) (l lane : Nat) : Device :=
  let f := d.free.toNat
  let k := d.link l
  d.useFree.setLink l { k with shadow := KMap.put k.shadow lane (fld f 8 8, fld f 0 5) }

/-- EQ_SWAP for one lane. -/
def Device.eqLane (d : Device) (l lane : Nat) : Device :=
  let d1 := d.adaptLane l lane
  let k := d1.link l
  let sh := KMap.get k.shadow lane (0, 0)
  if d1.rf AIS l 0x110 (5 * lane) 5 + 2 ≤ sh.2 then
    (((d1.setLink l { k with eq := KMap.put k.eq lane sh.1 }).setF AIS l 0x110 (5 * lane) 5 sh.2).count32 AIS l 0x03C).raise AIS l 3
  else d1

/-- The equalisers at a bell: presets asked for by the partner, and swaps. -/
def Device.eqBell (d : Device) : Device :=
  d.upLinks.foldl (fun a l =>
    let asked := (a.link l).preset
    let a1 := asked.foldl (fun b lp => b.emit (.equaliser l lp.1 lp.2)) (a.setLink l { a.link l with preset := [] })
    if a1.rb AIS l 0x008 1 then (List.range 5).foldl (fun b lane => b.eqLane l lane) a1 else a1) d

/-! ### Stock mode (R618, R619) -/

/-- One record of a count block. What the stock image finds in a slot, and whether the slot was late or its input spoiled, the manual does
not state. -/
def stockRecord (bell : Nat) (free : DWord) (p : Pick) : List Byte :=
  let late := tb free.toNat 0
  let void := p.none_ || late
  let spoiled := !void && tb free.toNat 1
  let c := (Config.stockCounts bell p.stream).toNat
  let counts := if void then [0, 0, 0, 0] else [fld c 0 8, min (fld c 8 8) 128, min (fld c 16 8) 128, fld c 24 8]
  leBytes 2 p.stream ++ counts.map (fun v => BitVec.ofNat 8 v)
    ++ leBytes 1 (b2n void + 2 * b2n spoiled + 4 * b2n (late && !p.none_) + 8 * b2n p.again + 16 * b2n p.none_) ++ [0]

/-- A count block. -/
def Device.stockBlock (d : Device) (n part admitted : Nat) (ps : List Pick) : List Byte :=
  [1, 2] ++ leBytes 2 part ++ leBytes 2 ps.length ++ leBytes 2 admitted ++ leBytes 8 (n - 2) ++ leBytes 8 (d.bell.times.getD 1 0)
    ++ leBytes 6 Config.macPort2.toNat ++ [0, 0]
    ++ (ps.zipIdx).flatMap (fun pi => stockRecord (n - 2) (Config.freeValue (d.frees + 128 * part + pi.2)) pi.1)

/-- A block goes out on port 2 and on every field segment. -/
def Device.sendBlock (d : Device) (b : List Byte) : Device :=
  let d1 := d.emit (.datagram 2 5005 5005 1 (239 * 2 ^ 24 + 255 * 2 ^ 16 + 79 * 2 ^ 8 + 1) b)
  (List.range 4).foldl (fun a g => a.txQueue g ⟨pad60 (a.crierHead g (2 ^ 48 - 1) ++ b), 0⟩) d1

/-- STOCK_COUNT_PUBLISH at bell `n`: the slots picked at bell n − 2. -/
def Device.stockPublish (d : Device) (n : Nat) : Device :=
  if !d.stockMode || decide (n < 2) then d
  else
    let ps := d.bell.picksWas
    let admitted := (d.gate.streams.filter (fun kv => kv.2.admitted)).length
    let d1 := (List.range (max 1 ((ps.length + 127) / 128))).foldl (fun a i =>
      a.sendBlock (d.stockBlock n i admitted ((ps.drop (128 * i)).take 128))) d
    { d1 with frees := d1.frees + 1024 }

/-! ### The bell -/

/-- The Weighbridge at a bell: SHADOW_BUSY clears, the windows, and the swap (R47, R62, R73). -/
def Device.wbrBell (d : Device) (swap : Bool) : Device :=
  let aged := { d with wbr := { d.wbr with swapAge := d.wbr.swapAge.map (fun n => n + 1) } }
  let d1 := aged.setB WBR 0 0x010 4 false
  let d2 := if d1.loadState = 3 ∨ d1.loadState = 4 then d1 else d1.windowBell
  if swap then d2.swapBell else d2

/-- What ends with the round: the throttle's count (R581) and the deadlock watchdog's view of the cycle. -/
def Device.newRound (d : Device) : Device := { d with steward := { d.steward with budget := 0, spent := false } }

/-- At bell 0 of a run no context has begun a body (R415). -/
def Device.freshRun (d : Device) (n : Nat) : Device :=
  if n ≠ 0 then d
  else { d with stalls := d.stalls.map (fun (kv : Nat × Stall) =>
    (kv.1, { kv.2 with ctxs := kv.2.ctxs.map (fun c => { c with began := none }) })) }

/-- Bell `n` is counted, and the round before it ends. -/
def Device.countBell (d : Device) (n : Nat) : Device :=
  let d1 := (d.stockPublish n).missSlots
  let b := { d1.bell with count := n, waiting := false, everRung := true, grid := none, times := d.gate.ptpNs :: d1.bell.times.take 1 }
  ({ d1 with bell := b }.setB BEL 0 0x010 0 true).freshRun n

/-- Is the market stopped by the loss of its master (R483)? -/
def Device.masterLost (d : Device) : Bool := d.rb AIS 8 0x010 0 && !d.marketHalted

/-- BELL: bell `n` rings (R220). -/
def Device.ringBell (d : Device) : Device :=
  let n := d.nextBell
  let swap := d.decidedAt 0 n
  let load := d.decidedAt 1 n && decide (d.loadState = 2)
  let done := d.decidedAt 2 n || (decide (n = 0) && decide (d.loadState = 4))
  let halt := d.decidedAt 3 n || d.masterLost
  let spoilt := decide (d.loadState = 3 ∨ d.loadState = 4) && !d.loader.full && d.anyFaulted
  let d1 := ((d.countBell n).newRound.ptpBell.openRound.hushBell.rollover).logMissed d.bell.deferred d.bell.count
  let checked := !d.marketHalted && !halt && !load && !d.bell.suspended && decide (d.bell.firstChecked ≤ n)
  let d2 := if checked then d1.bellCheck else d1
  let d3 := if spoilt then d2.failLoad ⟨CLK, 0, 0x8002, 0⟩ else if done then d2.completeLoad else d2
  let d4 := if halt then d3.haltBell else d3
  let d5 := if load then d4.ringLoad else d4
  let d6 := ((d5.wbrBell swap).pickBell.eqBell).raise BEL 0 0
  let d7 := { d6 with bell := { d6.bell with decided := d6.bell.decided.filter (fun k => decide (k.2 ≠ n % 2 ^ 24)) },
                      aisles := { d6.aisles with bellSeen := false } }
  if d7.isMaster then d7.sendNew d7.upLinks 3 (n % 65536) (d7.rf BEL 0 0x12C 0 24) 0 else d7

/-- The bells stop at the end of the round in which RUN went to 0 (R221): nothing stays decided, and slots still deferred are not issued (R224). -/
def Device.stopBells (d : Device) : Device :=
  let d1 := d.missSlots.logMissed d.bell.deferred d.bell.count
  { d1 with bell := { d1.bell with decided := [] } }.setB BEL 0 0x010 0 false

/-- BELL: bell 0 after RUN, unless it waits for the grid or for the master; each later bell while RUN is 1, or while the chip follows its master. -/
def Device.bellRow (d : Device) : Device :=
  if d.bell.waiting then (if d.bell.grid.isSome || d.follows then d else d.ringBell)
  else if !d.bellsRing then d
  else if d.rb BEL 0 0x008 0 || d.follows then d.ringBell else d.stopBells

def execBell (s : State) : Host.Outcome State Fault Refusal := s.act (Instr.wf .bell) Device.bellRow

/-- BELL_ZERO_AT_GRID: the first cycle whose PTP time is at or after the grid time that bell 0 waits for (R226). -/
def Device.bellZeroAtGrid (d : Device) : Device :=
  match d.bell.grid with
  | none => d
  | some m =>
    if d.bell.waiting && decide (m * ((d.period : Int) * 5) ≤ ((d.gate.ptpNs : Int) - d.ptpOrigin) * 65536) then d.ringBell else d

def execBellZeroAtGrid (s : State) : Host.Outcome State Fault Refusal := s.act (Instr.wf .bellZeroAtGrid) Device.bellZeroAtGrid

end Sys2Proof.Machine
end

