-- ==== Sys2Proof/Machine/Warden.lean ====
section
/-! DEFINITION. The Warden: verification of signed objects (R555 to R560, R563), owners and release records (R561, R562), floors (R564,
R565), reports and re-signing (R568, R570). -/

namespace Sys2Proof

open Sys2Proof.Machine

/-! ### The header (R555) -/

/-- A field of the header as bytes and as a number. -/
def SignedObject.part (o : SignedObject) (lo n : Nat) : List Byte := padTo n ((o.header.drop lo).take n)
def SignedObject.num (o : SignedObject) (lo n : Nat) : Nat := leNat (o.part lo n)

def SignedObject.kind (o : SignedObject) : Nat := o.num 6 2
def SignedObject.bodyLen (o : SignedObject) : Nat := o.num 8 4
def SignedObject.svn (o : SignedObject) : Nat := o.num 16 4
def SignedObject.role (o : SignedObject) : Nat := o.num 20 1
def SignedObject.family (o : SignedObject) : Nat := o.num 24 4
def SignedObject.signer (o : SignedObject) : List Byte := o.part 96 133
def SignedObject.scope (o : SignedObject) : Nat := o.num 361 4

/-- The body that BODY_LEN delimits. -/
def SignedObject.content (o : SignedObject) : List Byte := o.body.take o.bodyLen

/-- Are the bytes of a field all 0? -/
def SignedObject.zero (o : SignedObject) (lo n : Nat) : Bool := (o.part lo n).all (fun b => b == 0)

/-- Step 1 of R557: MAGIC, HDR_FORMAT, KIND and the fields that are 0. -/
def SignedObject.formOk (o : SignedObject) (kind : Nat) : Bool :=
  decide (o.header.length = 512 ∧ o.num 0 4 = 0x4B5A4D57 ∧ o.num 4 2 = 1 ∧ o.kind = kind)
    && o.zero 21 3 && o.zero 28 4 && o.zero 365 15
    && (decide (o.kind = 2) || (o.zero 12 4 && o.zero 24 4))
    && (decide (o.role ≠ 3 ∧ o.role ≠ 4) || o.zero 96 133)
    && (decide (o.role = 0 ∨ o.role = 2) || o.zero 229 132)
    && (decide (o.role = 2) || o.zero 361 4)

namespace Machine

/-! ### Verification (R556, R557) -/

/-- KEY_ROLE values that a KIND accepts (R556). -/
def roleAccepted (owner : Option Owner) (kind role : Nat) : Bool :=
  match kind with
  | 1 => decide (role = 0)
  | 2 => match owner with
    | none => decide (role = 0)
    | some o => decide (role = 1 ∨ role = 2) || (decide (role = 0) && o.allow)
  | 3 => decide (role = 1)
  | 4 => decide (role = 4)
  | _ => decide (role = 3)

/-- Step 3 for role 1: the enrolled owner's key; without an owner, the key that an owner record carries in its body. What the flash holds
at boot was accepted when it was written (assumption 60). -/
def Device.signerOk (d : Device) (o : SignedObject) (boot : Bool) : Bool :=
  if o.role ≠ 1 then true
  else match d.warden.owner with
    | some w => decide (o.signer = w.pub)
    | none => boot || (decide (o.kind = 3) && d.rb WRD 0 0x010 3 && decide (o.signer = padTo 133 (o.content.take 133)))

/-- Step 4: the delegation. -/
def Device.delegation (d : Device) (o : SignedObject) : Option Nat :=
  let key := if o.role = 0 then Config.rootKey else (d.warden.owner.map (fun w => w.pub)).getD []
  if o.role ≠ 0 ∧ o.role ≠ 2 then none
  else if !Config.ecdsaVerifies key (sha (o.signer ++ o.part 361 4)) (o.part 229 132) then some 0x9004
  else if o.role = 2 ∧ o.scope ≠ 0xFFFFFFFF ∧ o.family ≠ o.scope then some 0x9005
  else none

/-- The key of step 5. -/
def Device.headerKey (d : Device) (o : SignedObject) : List Byte :=
  if o.role = 3 then d.idPub else if o.role = 4 then Config.rootKey else o.signer

/-- The counter whose floor a KIND is compared with (R564). -/
def floorOf (kind : Nat) : Nat := match kind with | 1 => 1 | 2 => 2 | 5 => 3 | _ => 0

/-- Step 7: the floor, and the authentication of the counters (R565). -/
def Device.rollback (d : Device) (o : SignedObject) : Option Nat :=
  if d.rb WRD 0 0x010 2 && !d.warden.rpmcOk then some 0x900A
  else if o.svn < d.floors.getD (floorOf o.kind) 0 then some 0x9008
  else none

/-- The seven steps of R557: the first failure. `room` is what fits where the body is staged. -/
def Device.verifies (d : Device) (o : SignedObject) (kind room : Nat) (boot : Bool) : Option Nat :=
  if !o.formOk kind then some 0x9001
  else if room < o.bodyLen ∨ o.body.length < o.bodyLen then some 0x9002
  else if !roleAccepted d.warden.owner kind o.role || !d.signerOk o boot then some 0x9003
  else match d.delegation o with
    | some c => some c
    | none =>
      if o.role = 3 ∧ d.idFail then some 0x9009
      else if !Config.ecdsaVerifies (d.headerKey o) (sha (o.part 0 380)) (o.part 380 132) then some 0x9006
      else if sha o.content ≠ o.part 32 64 then some 0x9007
      else d.rollback o

/-- An object is refused: VERIFY_FAILS counts it. -/
def Device.verifyFail (d : Device) : Device := d.count16 WRD 0 0x030

/-- VERIFY: the object that stage 1 of a load has copied into the staging area (R317, R558). -/
def Device.verifyImage (d : Device) (o : SignedObject) : Device :=
  if d.loadState ≠ 1 || d.loader.reload then d
  else match d.verifies o 2 (2 ^ 30 - 512) false with
    | some code => d.verifyFail.refuseLoad ⟨WRD, 0, code, 0⟩
    | none => { d with warden := { d.warden with
        stagedOk := true, stagedSvn := o.svn, stagedDigest := sha (o.part 0 512 ++ o.content) } }

def execVerify (obj : SignedObject) (s : State) : Host.Outcome State Fault Refusal :=
  s.act (Instr.wf (.verify obj)) (fun d => d.verifyImage obj)

/-! ### Commands -/

/-- A command runs unless another one does: then it is refused with RESULT 1 (R570). -/
def Device.wrdCommand (d : Device) (f : Device → Device) : Device :=
  if d.warden.reportDue then (d.setN WRD 0 0x108 1).raise WRD 0 2 else f d

/-- A command ends well. -/
def Device.wrdDone (d : Device) : Device := (d.setN WRD 0 0x108 0).raise WRD 0 1

/-- REPORT (R570). -/
def Device.reportCmd (d : Device) : Device :=
  d.wrdCommand (fun d =>
    if d.idFail then d.wrdRefuse 0x9009
    else if d.reportWaits then { d with warden := { d.warden with reportDue := true } }.wrdBusy
    else d.serveReport)

def execReport (s : State) : Host.Outcome State Fault Refusal := s.act (Instr.wf .report) Device.reportCmd

/-- The record at WRD_ADDR in the Depot; it fits the 4 KiB of the owner record. -/
def Device.readRecord (d : Device) : SignedObject × Device :=
  let h := d.depotReadBytes d.wrdAddr 512
  let n := min (leNat ((h.1.drop 8).take 4)) 3584
  let b := h.2.2.depotReadBytes (d.wrdAddr + 512) n
  (⟨h.1, b.1⟩, b.2.2)

/-- The owner that a record's body names (R561). -/
def ownerOf (o : SignedObject) : Owner :=
  let b := padTo 256 o.content
  { pub := b.take 133, allow := (b.getD 133 0).getLsbD 0, floors := (List.range 4).map (fun i => leNat ((b.drop (136 + 4 * i)).take 4)) }

/-- The owner changes: counter 0 rises to the record's SVN, the record goes to the flash, and the device is re-signed (R561, R562, R564, R568). -/
def Device.changeOwner (d : Device) (o : SignedObject) (w : Option Owner) : Device :=
  let d1 := { d with warden := { d.warden with owner := w } }.showFloors
  let d2 := if d1.rb WRD 0 0x010 2 then d1.raiseFloor 0 o.svn else d1
  let detail := match w with | some x => leNat ((sha x.pub).take 8) | none => 0
  ((d2.log 0xB503 WRD 0 0 detail).emit (.flashWrite 0x1000 (o.part 0 512 ++ o.content))).wrdDone.resign

/-- A record of a KIND is submitted. -/
def Device.submit (d : Device) (kind : Nat) (accept : Device → SignedObject → Device) : Device :=
  d.wrdCommand (fun d =>
    let r := d.readRecord
    match r.2.verifies r.1 kind 3584 false with
    | some code => r.2.verifyFail.wrdRefuse code
    | none => accept r.2 r.1)

/-- ENROLL (R561). -/
def Device.enroll (d : Device) : Device := d.submit 3 (fun a o => a.changeOwner o (some (ownerOf o)))

def execEnroll (s : State) : Host.Outcome State Fault Refusal := s.act (Instr.wf .enroll) Device.enroll

/-- RELEASE: only the device whose identity the record names loses its owner (R562). -/
def Device.releaseOwner (d : Device) : Device :=
  d.submit 4 (fun a o =>
    if a.idFail then a.wrdRefuse 0x9009
    else if o.content.take 64 = sha a.idPub then a.changeOwner o none
    else a.wrdDone)

def execRelease (s : State) : Host.Outcome State Fault Refusal := s.act (Instr.wf .release) Device.releaseOwner

/-- COMMIT_SVN: counter 1 rises to the SVN of the running firmware, counter 2 to that of the running image (R565). -/
def Device.commitSvn (d : Device) (image : Bool) : Device :=
  d.wrdCommand (fun d =>
    if !d.rb WRD 0 0x010 2 then d.wrdDone.resign
    else if !d.warden.rpmcOk then d.wrdRefuse 0x900A
    else (d.raiseFloor (if image then 2 else 1) (if image then d.warden.imgSvn else d.warden.fwSvn)).wrdDone.resign)

def execCommitSvn (target : Bool) (s : State) : Host.Outcome State Fault Refusal :=
  s.act (Instr.wf (.commitSvn target)) (fun d => d.commitSvn target)

/-- RESIGNED: a re-signing ends, with a zero nonce (R568). Without an identity it is refused (R552). -/
def Device.resigned (d : Device) : Device :=
  if !d.warden.resignDue then d
  else
    let d1 := { d with warden := { d.warden with resignDue := false } }.wrdBusy
    if d.idFail then d1.wrdRefuse 0x9009
    else
      let n := (d.regN WRD 0 0x10C + 1) % 2 ^ 32
      ((((d1.setN WRD 0 0x10C n).sign (List.replicate 64 0)).raise WRD 0 3).log 0xB505 WRD 0 0 n).waitingReport

def execResigned (s : State) : Host.Outcome State Fault Refusal := s.act (Instr.wf .resigned) Device.resigned

end Machine

end Sys2Proof
end

