-- ==== Sys2Proof/Machine/Aisles.lean ====
section
/-! DEFINITION. The Aisles: flits, retry and links going down (R474 to R476), cells and channels (R470, R471), control messages (R477 to
R480, R485, R487), the bell across chips (R481 to R483) and training (R484, R592). -/

namespace Sys2Proof.Machine

/-! ### Links -/

/-- Is a link up (R492)? -/
def Device.linkIsUp (d : Device) (l : Nat) : Bool := decide (d.rf AIS l 0x010 0 3 = 2)

/-- The queues of a link's channels are lost. -/
def Device.dropQueues (d : Device) (l : Nat) : Device :=
  { d with aisles := { d.aisles with
    outs := d.aisles.outs.map (fun (kv : Nat × Option OutChan) =>
      (kv.1, kv.2.map (fun (c : OutChan) => if c.link = l then { c with queue := [] } else c)))
    ins := d.aisles.ins.map (fun (kv : Nat × Option InChan) =>
      (kv.1, kv.2.map (fun (c : InChan) => if c.link = l then { c with queue := [], owed := 0 } else c))) } }

/-- A link goes down, or fails its training (R476, R484): its queues and replay buffer are lost, and going down with a link in use halts the
market. -/
def Device.linkFails (d : Device) (l reason : Nat) : Device :=
  let d1 := d.dropQueues l
  let d2 := (((d1.setLink l { lostLanes := (d.link l).lostLanes, down := true }).setF AIS l 0x010 0 3 3).setF AIS l 0x010 4 3 reason).retryEnds
  let d3 := (d2.raise AIS l 1).log 0xB202 AIS l 0 (l + reason * 16)
  if d.linkIsUp l && d.rb AIS l 0x010 8 then d3.reportHalt 3 else d3

/-- LINK_DOWN: 8 NAKs in a row name one flit, the replay buffer is full, or a lane has lost lock with no spare left (R476). -/
def Device.linkDown (d : Device) (l reason : Nat) : Device :=
  let k := d.link l
  let met := match reason with
    | 1 => !k.lostLanes.isEmpty
    | 4 => decide (8 ≤ k.nakCount)
    | 5 => decide (k.lastFlit + 64 ≤ d.now)
    | 6 => decide (256 ≤ k.unacked.length)
    | _ => false
  if d.linkIsUp l && met then d.linkFails l reason else d

def execLinkDown (link reason : Nat) (s : State) : Host.Outcome State Fault Refusal :=
  s.act (Instr.wf (.linkDown link reason)) (fun d => d.linkDown link reason)

/-- LINK_SILENT_TIMEOUT: no flit for 64 cycles (R476). -/
def execLinkSilentTimeout (link : Nat) (s : State) : Host.Outcome State Fault Refusal :=
  s.act (Instr.wf (.linkSilentTimeout link)) (fun d => d.linkDown link 5)

/-- LANE_LOSES_LOCK: the lane becomes a candidate; with no spare left the link goes down (R476, R592). -/
def Device.laneLosesLock (d : Device) (l lane : Nat) : Device :=
  if !d.linkIsUp l then d
  else
    let k := d.link l
    let spent := decide (d.aisles.laneMaps.getD l 7 ≠ 7) || k.lostLanes.any (fun x => decide (x ≠ lane))
    let d1 := (d.setLink l { k with lostLanes := insertNew lane k.lostLanes }).candidate ⟨3, 5 * l + lane⟩ 5
    if spent then d1.linkFails l 1 else d1

def execLaneLosesLock (link lane : Nat) (s : State) : Host.Outcome State Fault Refusal :=
  s.act (Instr.wf (.laneLosesLock link lane)) (fun d => d.laneLosesLock link lane)

/-! ### Flits (R467, R474, R475) -/

/-- Credits of a flit: bit `p` names the cell (p, WPOS) of an outgoing channel (R470). -/
def Device.takeCredits (d : Device) (l : Nat) (f : Flit) : Device :=
  { d with aisles := { d.aisles with outs := d.aisles.outs.map (fun (kv : Nat × Option OutChan) =>
      (kv.1, kv.2.map (fun (c : OutChan) =>
        if c.link = l then
          { c with credit := c.credit + ((List.range 27).filter (fun p => f.cred p && decide ((p, f.wpos) ∈ c.cells))).length }
        else c))) } }

/-- Words of a flit join the receive queues of their channels (R471). -/
def Device.takeCells (d : Device) (l : Nat) (f : Flit) : Device :=
  { d with aisles := { d.aisles with ins := d.aisles.ins.map (fun (kv : Nat × Option InChan) =>
      (kv.1, kv.2.map (fun (c : InChan) =>
        if c.link = l then
          { c with queue := c.queue ++ (List.range 27).filterMap (fun p => if (p, f.wpos) ∈ c.cells then f.cell p else none) }
        else c))) } }

/-- A bad flit is discarded; until the expected flit comes, NAK is 1 and source 1 is requested (R474, R475). -/
def Device.flitBad (d : Device) (l : Nat) : Device :=
  let k := d.link l
  let d1 := if k.badNow then d else (d.setLink l { k with badNow := true, badSince := d.now }).hushRequest 1
  d1.count32 AIS l 0x030

/-- The expected flit is accepted. -/
def Device.flitAccept (d : Device) (l : Nat) (f : Flit) : Device :=
  let k := d.link l
  let d1 := d.setLink l { k.acked f with rxSeq := (k.rxSeq + 1) % 4096, badNow := false, slow := false, inbox := k.inbox ++ f.msg.toList }
  let d2 := if k.badNow then d1.retryEnds else d1
  if f.held then d2 else (d2.takeCredits l f).takeCells l f

/-- FLIT_RECEIVE: FEC, the CRC, and the sequence number; a flit other than the expected one is discarded whole. -/
def Device.flitReceive (d : Device) (l : Nat) (f : Flit) : Device :=
  if !d.linkIsUp l then d
  else
    let d1 := d.setLink l { d.link l with lastFlit := d.now }
    let d2 := if f.fec = .corrected then d1.count32 AIS l 0x034 else d1
    if !f.good then d2.flitBad l
    else if f.seq = (d2.link l).rxSeq then d2.flitAccept l f
    else d2

def execFlitReceive (link : Nat) (flit : Flit) (s : State) : Host.Outcome State Fault Refusal :=
  s.act (Instr.wf (.flitReceive link flit)) (fun d => d.flitReceive link flit)

/-- REPLAY_SLOW: the 128th cycle of a replay (R475). -/
def Device.replaySlow (d : Device) (l : Nat) : Device :=
  let k := d.link l
  if k.badNow && !k.slow && decide (k.badSince + 128 ≤ d.now) then
    (((d.setLink l { k with slow := true }).retryEnds).raise AIS l 2).log 0xB203 AIS l 0 (l + k.rxSeq * 2 ^ 16)
  else d

def execReplaySlow (link : Nat) (s : State) : Host.Outcome State Fault Refusal :=
  s.act (Instr.wf (.replaySlow link)) (fun d => d.replaySlow link)

/-! ### Cells (R470, R471) -/

/-- The outgoing channel that a cell of this cycle belongs to. -/
def Device.cellOut (d : Device) (l pos : Nat) : Option (Nat × OutChan) :=
  d.aisles.outs.findSome? (fun kv => kv.2.bind (fun c =>
    if c.link = l ∧ (pos, d.arcade.wheel) ∈ c.cells then some (kv.1, c) else none))

/-- The incoming channel whose credits a CRED bit of this cycle returns. -/
def Device.cellIn (d : Device) (l pos : Nat) : Option (Nat × InChan) :=
  d.aisles.ins.findSome? (fun kv => kv.2.bind (fun c =>
    if c.link = l ∧ (pos, d.arcade.wheel) ∈ c.cells then some (kv.1, c) else none))

/-- Put a cell, empty or not, into this cycle's flit. -/
def Device.stageCell (d : Device) (l pos : Nat) (w : Option BWord) : Device :=
  d.setLink l { d.link l with txCells := KMap.put (d.link l).txCells pos w }

/-- One cell of an outgoing channel. -/
def Device.sendCell (d : Device) (l pos k : Nat) (c : OutChan) : Device :=
  match c.queue with
  | [] => d.stageCell l pos none
  | w :: rest =>
    if c.credit = 0 then (d.count32 AIS l 0x038).stageCell l pos none
    else
      let d1 := { d with aisles := { d.aisles with outs := KMap.put d.aisles.outs k (some { c with queue := rest, credit := c.credit - 1 }) } }
      (if c.porter then d1 else d1.creditBack (.edge c.edge)).stageCell l pos (some w)

/-- The CRED bit of one position returns a credit that its incoming channel owes. -/
def Device.sendCredit (d : Device) (l pos : Nat) : Device :=
  match d.cellIn l pos with
  | some kc =>
    if kc.2.owed = 0 ∨ pos ∈ (d.link l).txCred then d
    else
      let d1 := { d with aisles := { d.aisles with ins := KMap.put d.aisles.ins kc.1 (some { kc.2 with owed := kc.2.owed - 1 }) } }
      d1.setLink l { d1.link l with txCred := (d1.link l).txCred ++ [pos] }
  | none => d

/-- CELL_SEND: the cell and the CRED bit of one position, in an unhushed cycle, once. -/
def Device.cellSend (d : Device) (l pos : Nat) : Device :=
  if d.bell.hushed || !d.linkIsUp l then d
  else
    let d1 := if (d.link l).txCells.any (fun kv => decide (kv.1 = pos)) then d
      else match d.cellOut l pos with
        | some kc => d.sendCell l pos kc.1 kc.2
        | none => d
    d1.sendCredit l pos

def execCellSend (link pos : Nat) (s : State) : Host.Outcome State Fault Refusal :=
  s.act (Instr.wf (.cellSend link pos)) (fun d => d.cellSend link pos)

/-- RECEIVE_QUEUE_DRAIN: the oldest word of a receive queue leaves it, and a credit is owed. -/
def Device.queueDrain (d : Device) (ch : Nat) : Device :=
  match KMap.get d.aisles.ins ch none with
  | none => d
  | some c => match c.queue with
    | [] => d
    | w :: rest =>
      let c1 := { c with queue := rest, owed := c.owed + 1 }
      if c.depot then
        if c.dsize = 0 then d
        else
          let d1 := d.depotWrite ((c.dbase + c.wptr) % 2 ^ 27) (bytesOf w.data) w.spoil
          { d1 with aisles := { d1.aisles with ins := KMap.put d1.aisles.ins ch (some { c1 with wptr := (c.wptr + 8) % c.dsize }) } }
      else if d.bell.hushed || !d.edgeRoom c.edge then d
      else
        let d1 := d.edgePush c.edge w
        { d1 with aisles := { d1.aisles with ins := KMap.put d1.aisles.ins ch (some c1) } }

def execReceiveQueueDrain (chan : Nat) (s : State) : Host.Outcome State Fault Refusal :=
  s.act (Instr.wf (.receiveQueueDrain chan)) (fun d => d.queueDrain chan)

/-! ### Messages (R477, R478) -/

/-- The oldest message of a type that has come on a link. -/
def Device.takeMsg (d : Device) (l type : Nat) : Option (AisleMsg × Device) :=
  let k := d.link l
  (k.inbox.find? (fun m => decide (m.type = type))).map (fun m =>
    (m, d.setLink l { k with inbox := dropFirst (fun x => decide (x.type = type)) k.inbox }))

/-- Take the message and do something with it. -/
def Device.withMsg (d : Device) (l type : Nat) (f : Device → AisleMsg → Device) : Device :=
  match d.takeMsg l type with
  | some x => f x.2 x.1
  | none => d

/-- Has a flooded message come before, or from this chip itself? -/
def Device.seenMsg (d : Device) (m : AisleMsg) : Bool :=
  decide (m.origin = d.chipIndex) || decide ((m.origin, m.type, m.number) ∈ d.aisles.seen)

/-- Remember a flooded message; numbers are 4 bits, so the last 8 of an origin and type are kept. -/
def Device.noteMsg (d : Device) (m : AisleMsg) : Device :=
  let mine := (d.aisles.seen.filter (fun x => decide (x.1 = m.origin ∧ x.2.1 = m.type))).reverse.take 7
  let others := d.aisles.seen.filter (fun x => !decide (x.1 = m.origin ∧ x.2.1 = m.type))
  { d with aisles := { d.aisles with seen := others ++ mine.reverse ++ [(m.origin, m.type, m.number)] } }

/-- A flooded message on its first arrival goes on, on every other link that is up, and takes effect (R478). -/
def Device.flooded (d : Device) (l type : Nat) (next : AisleMsg → AisleMsg) (f : Device → AisleMsg → Device) : Device :=
  d.withMsg l type (fun a m =>
    if a.seenMsg m then a
    else f (((a.upLinks.filter (fun x => decide (x ≠ l))).foldl (fun b x => b.pushCtl x (next m)) a).noteMsg m) m)

/-- HOPS of a forwarded message (R478). -/
def AisleMsg.hop (m : AisleMsg) : AisleMsg := { m with c := m.c + 1 }

/-! ### The hush of other chips (R232, R479) -/

/-- Does a request of another chip hush cycle `x` here? -/
def Device.remoteAt (d : Device) (x : Nat) : Bool :=
  d.aisles.remote.any (fun r => decide (r.from_ ≤ x) && (match r.to_ with | some t => decide (x < t) | none => true))

/-- Source 6 holds its request from 3 cycles before a remote hush to 3 cycles before its end; a message that comes later than that changes what
the delay of R231 already holds. -/
def Device.syncRemote (d : Device) : Device :=
  let live := d.aisles.remote.filter (fun r => match r.to_ with | some t => decide (d.now < t) | none => true)
  let d1 := { d with aisles := { d.aisles with remote := live } }
  let delay := (d.bell.delay.zipIdx).map (fun li => if d1.remoteAt (d.now + 2 - li.2) then insertNew 6 li.1 else dropAll 6 li.1)
  let d2 := { d1 with bell := { d1.bell with delay := delay } }
  if d1.remoteAt (d.now + 3) then d2.hushRequest 6 else d2.hushDrop 6

/-- The local cycle that a STAMP names, on the market's bell-aligned timebase. -/
def Device.stampCycle (d : Device) (bell cycle : Nat) : Int :=
  let start : Int := (d.now : Int) - d.rf BEL 0 0x128 0 24
  if bell = d.bellCount % 256 then start + cycle
  else if bell = (d.bellCount + 1) % 256 then start + d.rf BEL 0 0x12C 0 24 + cycle
  else start - d.bell.prevLen + cycle

/-- HUSH_LATE (R479): a message has come `late` cycles after its cycle. -/
def Device.hushLate (d : Device) (origin late : Nat) : Device :=
  ((d.count16 AIS 8 0x030).raise AIS 8 2).log 0xB204 AIS 8 0 (origin + late % 65536 * 2 ^ 32)

/-- A remote request starts: from its cycle, or from the cycle after its arrival when that has passed. -/
def Device.remoteStart (d : Device) (m : AisleMsg) : Device :=
  let stamp := d.stampCycle m.a m.b
  let due := stamp + 3 + 32 * m.c
  let late := decide (due < d.now)
  let d1 := if late then d.hushLate m.origin ((d.now : Int) + 1 - due).toNat else d
  let hush : RemoteHush := ⟨m.origin, stamp, if late then d.now + 1 else due.toNat, none⟩
  { d1 with aisles := { d1.aisles with remote := d1.aisles.remote ++ [hush] } }.syncRemote

/-- A remote request ends, after its full length; an end that comes after that takes effect in the cycle after its arrival. -/
def Device.remoteEnd (d : Device) (m : AisleMsg) : Device :=
  let stamp := d.stampCycle m.a m.b
  match (d.aisles.remote.reverse).find? (fun r => decide (r.origin = m.origin) && r.to_.isNone) with
  | none => d
  | some r =>
    let due := r.from_ + (stamp - r.stamp).toNat
    let late := decide (due < d.now)
    let d1 := if late then d.hushLate m.origin (d.now + 1 - due) else d
    let to_ := if late then d.now + 1 else due
    { d1 with aisles := { d1.aisles with
        remote := d1.aisles.remote.map (fun (x : RemoteHush) => if x = r then { x with to_ := some to_ } else x) } }.syncRemote

def execHushStart (link : Nat) (s : State) : Host.Outcome State Fault Refusal :=
  s.act (Instr.wf (.hushStart link)) (fun d => d.flooded link 1 AisleMsg.hop (fun a m => a.remoteStart m))

def execHushEnd (link : Nat) (s : State) : Host.Outcome State Fault Refusal :=
  s.act (Instr.wf (.hushEnd link)) (fun d => d.flooded link 2 AisleMsg.hop (fun a m => a.remoteEnd m))

/-! ### The bell of the master (R481 to R483) -/

/-- MASTER_LAT. -/
def Device.masterLat (d : Device) : Nat := d.rf AIS 8 0x110 0 22

/-- The length of the round in progress on a follower. -/
def Device.setRound (d : Device) (len : Int) : Device := d.setF BEL 0 0x12C 0 24 len.toNat

/-- BELL on a follower: bell 0 rings on arrival; a later one aligns the next bell. -/
def Device.bellCame (d : Device) (m : AisleMsg) : Device :=
  if !d.follows then d
  else if !d.bellsRing then
    if m.a = 0 then
      let d0 := { d with bell := { d.bell with waiting := true, count := 0, acc := 0, firstChecked := 2, grid := none } }
      let d1 := d0.ringBell.setRound ((m.b : Int) - rheDiv d.masterLat 64)
      { d1 with aisles := { d1.aisles with bellSeen := true, missed := false } }
    else d
  else if m.a = d.bell.count % 65536 then
    let err := (d.masterLat : Int) - 64 * d.rf BEL 0 0x128 0 24
    let d1 := (d.setN AIS 8 0x114 (wrapN 16 err)).setRound ((m.b : Int) - clampI (-2) 2 (rheDiv err 64))
    { d1 with aisles := { d1.aisles with bellSeen := true, missed := false } }
  else d

def execBellMessage (link : Nat) (s : State) : Host.Outcome State Fault Refusal :=
  s.act (Instr.wf (.bellMessage link)) (fun d => d.flooded link 3 id (fun a m => a.bellCame m))

/-- BELL_MISS at the guard cycle; the second in a row is MASTER_LOST (R483). -/
def Device.bellMiss (d : Device) : Device :=
  if !d.follows || !d.bellsRing || d.aisles.bellSeen then d
  else
    let d1 := ((d.count16 AIS 8 0x034).raise AIS 8 0).log 0xB205 AIS 8 0 (d.bell.count % 2 ^ 24)
    let d2 := if d.aisles.missed then ((d1.setB AIS 8 0x010 0 true).raise AIS 8 1).log 0xB206 AIS 8 0 0 else d1
    { d2 with aisles := { d2.aisles with missed := true } }

def execBellMiss (s : State) : Host.Outcome State Fault Refusal := s.act (Instr.wf .bellMiss) Device.bellMiss

/-! ### Reports and decisions (R480) -/

/-- UP_READY: remembered by link, and passed on once everything behind this chip is ready. -/
def Device.upReady (d : Device) (l : Nat) : Device :=
  d.withMsg l 4 (fun a m =>
    let a1 := { a with aisles := { a.aisles with upSeen := insertNew (m.a, l) a.aisles.upSeen } }
    (a1.relayReady m.a).startMarket)

def execUpReady (link : Nat) (s : State) : Host.Outcome State Fault Refusal :=
  s.act (Instr.wf (.upReady link)) (fun d => d.upReady link)

/-- UP_HALT: the master halts at the next decision; the others pass it on (R249, R478). -/
def Device.upHalt (d : Device) (l : Nat) : Device :=
  d.withMsg l 5 (fun a m =>
    if !a.follows then { a with bell := { a.bell with halting := true } }
    else a.pushCtl (a.rf AIS 8 0x010 4 3) m)

def execUpHalt (link : Nat) (s : State) : Host.Outcome State Fault Refusal :=
  s.act (Instr.wf (.upHalt link)) (fun d => d.upHalt link)

/-- A decision of the master; one that comes at or after its bell is CMD_LATE (R480). -/
def Device.decided (d : Device) (m : AisleMsg) : Device :=
  if (m.b + 2 ^ 24 - d.nextBell % 2 ^ 24) % 2 ^ 24 < 2 ^ 23 then
    { d with bell := { d.bell with decided := insertNew (m.a, m.b) d.bell.decided } }
  else ((d.raise AIS 8 4).log 0xB208 AIS 8 0 (m.a + m.b * 2 ^ 16)).reportHalt 3

def execDecideMsg (link : Nat) (s : State) : Host.Outcome State Fault Refusal :=
  s.act (Instr.wf (.decideMsg link)) (fun d => d.flooded link 6 id (fun a m => a.decided m))

/-! ### Training and discovery (R484, R485, R487) -/

/-- Identity digest as DISCOVER carries it: the low 32 bits of the SHA-512 of the identity public key (assumption 61). -/
def Device.digest32 (d : Device) : Nat := leNat ((sha d.idPub).take 4)

/-- The latency of one hop after training, in cycles (R484). -/
def hopLatency : Nat := 32

/-- DUP_CHIP. -/
def Device.dupChip (d : Device) (chip : Nat) : Device := (d.raise AIS 8 3).log 0xB207 AIS 8 0 chip

/-- A DISCOVER of another chip. -/
def Device.discovered (d : Device) (l : Nat) (m : AisleMsg) : Device :=
  let lats := (d.aisles.lats.filter (fun x => !decide (x.1 = l ∧ x.2.1 = m.origin))) ++ [(l, m.origin, 64 * (m.b + hopLatency))]
  let known := d.aisles.digests.find? (fun x => decide (x.1 = m.origin))
  let digests := if known.isSome then d.aisles.digests else d.aisles.digests ++ [(m.origin, m.a)]
  let d1 := { d with aisles := { d.aisles with lats := lats, digests := digests } }.setN AIS 8 0x10C (digests.length + 1)
  let d2 := if known.isSome ∧ known ≠ some (m.origin, m.a) then d1.dupChip m.origin else d1
  let master := (d.loader.running.bind (fun i => i.market d.chipIndex)).map (fun x => x.2.master)
  if d.rb AIS 8 0x010 7 && decide (d.rf AIS 8 0x010 4 3 = l) && decide (master = some m.origin) then d2.setN AIS 8 0x110 (64 * (m.b + hopLatency))
  else d2

/-- DISCOVER: this chip's own index with another digest is a duplicate too. -/
def Device.discover (d : Device) (l : Nat) : Device :=
  match ((d.link l).inbox.find? (fun m => decide (m.type = 7))) with
  | none => d
  | some m =>
    let d1 := d.flooded l 7 (fun x => { x with b := x.b + hopLatency }) (fun a x => a.discovered l x)
    if m.origin = d.chipIndex ∧ m.a ≠ d.digest32 then d1.dupChip m.origin else d1

def execDiscover (link : Nat) (s : State) : Host.Outcome State Fault Refusal :=
  s.act (Instr.wf (.discover link)) (fun d => d.discover link)

/-- EQ_REQ: a transmitter preset for one lane, from the next bell (R487). -/
def Device.eqReq (d : Device) (l : Nat) : Device :=
  d.withMsg l 8 (fun a m => a.setLink l { a.link l with preset := (a.link l).preset ++ [(m.a, m.b)] })

def execEqReq (link : Nat) (s : State) : Host.Outcome State Fault Refusal :=
  s.act (Instr.wf (.eqReq link)) (fun d => d.eqReq link)

/-- CTRL.EN of a link. From 0 to 1 the link trains, but for one that has gone down while the running image uses it (R476, R484); at 0 it is off,
and no longer waits for a replay. -/
def Device.linkEnable (d : Device) (l : Nat) (on : Bool) : Device :=
  let was := d.rb AIS l 0x008 0
  let d1 := d.setB AIS l 0x008 0 on
  let k := d.link l
  if !on then (((d1.dropQueues l).setLink l { down := k.down }).setF AIS l 0x010 0 3 0).retryEnds
  else if was then d1
  else if d.rb AIS l 0x010 8 && k.down then d1.setF AIS l 0x010 0 3 3
  else d1.trainLink l

/-- LINK_TRAIN: CTRL.EN goes to 1. -/
def execLinkTrain (link : Nat) (s : State) : Host.Outcome State Fault Refusal :=
  s.act (Instr.wf (.linkTrain link)) (fun d => d.linkEnable link true)

/-- Training has found a partner of the same market. -/
def Device.linkTrained (d : Device) (l partner plink rev : Nat) (digest : Word) (raw : Nat) (margins : List Nat) : Device :=
  let who := partner % 2 ^ 15 + plink % 8 * 2 ^ 16 + rev % 16 * 2 ^ 20 + 2 ^ 31
  let ms := (List.range 5).foldl (fun a i => a + margins.getD i 0 % 32 * 2 ^ (5 * i)) 0
  let d1 := (((d.setF AIS l 0x010 0 3 2).setF AIS l 0x010 4 3 0).setN AIS l 0x108 who).setN AIS l 0x10C raw
  let d2 := ((d1.setN AIS l 0x110 ms).setLink l { lastFlit := d.now, partnerDigest := digest }).raise AIS l 0
  let d3 := d2.log 0xB201 AIS l 0 (l + partner % 2 ^ 15 * 2 ^ 16)
  d3.sendNew d3.upLinks 7 d.digest32 0 0

/-- LINK_UP: the end of training (R484, R485): a raw latency above 32 cycles is TOO_LONG, a partner of another MARKET_ID is FOREIGN. -/
def Device.linkUp (d : Device) (l : Nat) (res : TrainResult) : Device :=
  if d.rf AIS l 0x010 0 3 ≠ 1 then d
  else match res with
    | .up partner plink rev market digest raw margins =>
      if 64 * hopLatency < raw then d.linkFails l 2
      else if market ≠ d.aisles.market then d.linkFails l 3
      else d.linkTrained l partner plink rev digest raw margins
    | .noLock => d.linkFails l 1
    | .tooLong => d.linkFails l 2

def execLinkUp (link : Nat) (res : TrainResult) (s : State) : Host.Outcome State Fault Refusal :=
  s.act (Instr.wf (.linkUp link res)) (fun d => d.linkUp link res)

end Sys2Proof.Machine
end

