-- ==== Sys2Proof/Machine/Fabric.lean ====
section
/-! DEFINITION. The Trestle: set-reset net and configuration (R533, R536), banks (R534, R538 to R540), USER_IRQ (R531) and stream ports
(R541, R544 to R546). What the user logic computes is the configuration's own; it reaches the device through the commands of this file. -/

namespace Sys2Proof.Machine

/-! ### Net and configuration -/

/-- Is the global set-reset net asserted (R533)? -/
def Device.gsr (d : Device) : Bool := d.rb TRS 0 0x010 1

/-- GSR_FORCE: CTRL.GSR_FORCE changes. -/
def Device.gsrForce (d : Device) (on : Bool) : Device := (d.setB TRS 0 0x008 0 on).gsrUpdate

def execGsrForce (on : Bool) (s : State) : Host.Outcome State Fault Refusal :=
  s.act (Instr.wf (.gsrForce on)) (fun d => d.gsrForce on)

/-- Are a bank's pins high-impedance, their inputs 0 to the fabric (R534, R540)? -/
def Device.pinsHeld (d : Device) (bank : Nat) : Bool :=
  d.gsr || d.rb TRS 0 0x010 (8 + bank) || decide (d.rf TRS 0 (0x120 + 4 * bank) 0 4 = 0)

/-- Do held pins have their weak pull-up (R534)? -/
def Device.pinsPulled (d : Device) : Bool := d.rb TRS 0 0x010 3

/-- TRESTLE_STREAM_WRITTEN: loader porter 0 has written the stream; the load goes on if it waited for that (R536). -/
def Device.streamWritten (d : Device) : Device :=
  if !d.trestle.reconfiguring || decide (d.loadState ≠ 3) then d
  else
    let d1 := { d with trestle := { d.trestle with written := true } }
    if d1.loader.wroteAll then d1.allWritten else d1

def execTrestleStreamWritten (s : State) : Host.Outcome State Fault Refusal :=
  s.act (Instr.wf .trestleStreamWritten) Device.streamWritten

/-- CONFIG_DONE, after the completion bell (R536, R549). -/
def Device.configDone (d : Device) : Device :=
  match d.trestle.running with
  | none => d
  | some t =>
    if !d.trestle.doneDue then d
    else ({ d with trestle := { d.trestle with doneDue := false } }.raise TRS 0 10).log 0xB403 TRS 0 0
      (d.rf TRS 0 0x010 2 1 + t.cells % 65536 * 2 ^ 16)

def execConfigDone (s : State) : Host.Outcome State Fault Refusal := s.act (Instr.wf .configDone) Device.configDone

/-- USER_IRQ: a rising edge of a line (R531). -/
def execUserIrq (line : Nat) (s : State) : Host.Outcome State Fault Refusal :=
  s.act (Instr.wf (.userIrq line)) (fun d => d.raise TRS 0 line)

/-- What the market signals show the fabric in a cycle, hushed or not (R531). -/
structure MarketSignals where
  bell : Bool
  bellCount : Nat
  belCycle : Nat
  hushed : Bool
  ptpNs : Nat
  gen : BitVec 2
  halted : Bool
  deriving DecidableEq, Repr

/-- The market signals of this cycle; BELL is 1 in a bell cycle, in which BEL_CYCLE is 0 (R217). -/
def Device.marketSignals (d : Device) : MarketSignals :=
  { bell := d.bellsRing && decide (d.rf BEL 0 0x128 0 24 = 0), bellCount := d.bellCount % 65536, belCycle := d.rf BEL 0 0x128 0 24
    hushed := d.bell.hushed, ptpNs := d.gate.ptpNs, gen := d.loader.gen, halted := d.marketHalted }

/-! ### Banks -/

/-- Safe state of a bank: STATUS.BANK_SAFE and BANK_STD.SAFE. -/
def Device.setSafe (d : Device) (b : Nat) (on : Bool) : Device := (d.setB TRS 0 0x010 (8 + b) on).setB TRS 0 (0x120 + 4 * b) 8 on

/-- Does the latest reading of a bank lie in the band of its standard? -/
def Device.bankGood (d : Device) (b : Nat) : Bool := bankInBand (d.rf TRS 0 (0x120 + 4 * b) 0 4) (d.rf TRS 0 (0x100 + 4 * b) 0 8)

/-- BANK_VCCIO_SAMPLE: the fourth reading in a row outside the band puts a configured bank in safe state (R539, R540). -/
def Device.bankSample (d : Device) (b : Nat) (reading : Byte) : Device :=
  let d1 := d.setN TRS 0 (0x100 + 4 * b) (reading.toNat + 256)
  let bad := d1.rb TRS 0 0x010 0 && !d1.bankGood b
  let n := if bad then d1.trestle.outs.getD b 0 + 1 else 0
  let d2 := { d1 with trestle := { d1.trestle with outs := upd d1.trestle.outs b (fun _ => n) } }
  if 4 ≤ n ∧ !d2.rb TRS 0 0x010 (8 + b) then ((d2.setSafe b true).raise TRS 0 8).log 0xB401 TRS 0 0 (b + reading.toNat * 2 ^ 8) else d2

def execBankVccioSample (bank : Nat) (reading : Byte) (s : State) : Host.Outcome State Fault Refusal :=
  s.act (Instr.wf (.bankVccioSample bank reading)) (fun d => d.bankSample bank reading)

/-- BANK_RELEASE: a bank whose reading lies in its band leaves safe state (R540). -/
def Device.bankRelease (d : Device) (banks : BitVec 6) : Device :=
  (List.range 6).foldl (fun a b =>
    if banks.getLsbD b && a.rb TRS 0 0x010 (8 + b) && a.bankGood b then
      { a with trestle := { a.trestle with outs := upd a.trestle.outs b (fun _ => 0) } }.setSafe b false
    else a) d

def execBankRelease (banks : BitVec 6) (s : State) : Host.Outcome State Fault Refusal :=
  s.act (Instr.wf (.bankRelease banks)) (fun d => d.bankRelease banks)

/-! ### Stream ports -/

/-- A port has passed its word of this cycle. -/
def Device.portMoved (d : Device) (tp : Nat) : Device := { d with trestle := { d.trestle with movedNow := d.trestle.movedNow ++ [tp] } }

/-- User logic takes the oldest word of a port; EDGE_IN then returns a credit, and gives no word in a hushed cycle (R205, R531, R541). -/
def Device.portTake (d : Device) (tp : Nat) (t : TPort) : Device :=
  match t.words with
  | [] => d
  | w :: rest =>
    if d.bell.hushed && decide (t.kind = 2) then d
    else
    let d0 := d.portMoved tp
    let d1 := { d0 with trestle := { d0.trestle with ports := upd d.trestle.ports tp (fun x => { x with words := rest }) } }
    (if t.kind = 2 then d1.creditBack (.edge t.edge) else d1).emit (.userWord tp w)

/-- Between a load bell and the completion bell EDGE_OUT takes no word from user logic (R545). -/
def Device.edgeOutStopped (d : Device) : Bool := decide (d.loadState = 3 ∨ d.loadState = 4)

/-- User logic gives a word to EDGE_OUT or EGRESS_OUT: stamped with GEN, sealed with PAR (R544). -/
def Device.portGive (d : Device) (tp : Nat) (t : TPort) (w : BWord) : Device :=
  let w1 : BWord := { w with gen := d.loader.gen }
  if d.bell.hushed then d
  else if t.kind = 3 then
    (if d.edgeOutStopped || !d.edgeRoom t.edge then d else (d.portMoved tp).edgePush t.edge w1.sealed)
  else if t.kind = 4 ∧ t.free ≠ 0 then
    let d1 := d.portMoved tp
    { d1 with trestle := { d1.trestle with ports := upd d.trestle.ports tp (fun x => { x with free := x.free - 1 }) } }.egressArrive t.edge w1.sealed
  else d

/-- TRESTLE_PORT_WORD: one word passes between a port and the user logic, which the asserted net holds still. -/
def Device.portWord (d : Device) (tp : Nat) (word : Option BWord) : Device :=
  match d.trestle.ports[tp]? with
  | none => d
  | some t =>
    if d.gsr || decide (tp ∈ d.trestle.movedNow) then d
    else match word with
      | some w => d.portGive tp t w
      | none => if t.kind = 1 ∨ t.kind = 2 ∨ t.kind = 6 then d.portTake tp t else d

def execTrestlePortWord (tp : Nat) (word : Option BWord) (s : State) : Host.Outcome State Fault Refusal :=
  s.act (Instr.wf (.trestlePortWord tp word)) (fun d => d.portWord tp word)

/-- The frame that a run of words holds: LEN, then its bytes, END on the last word only (R546). -/
def frameOf (words : List BWord) : Option (List Byte) :=
  match words with
  | [] => none
  | h :: rest =>
    let len := fld h.data.toNat 0 11
    let n := rest.length
    if 14 ≤ len ∧ len ≤ 1514 ∧ n = (len + 7) / 8 ∧ !h.fin ∧ ((rest.zipIdx).all (fun wi => wi.1.fin == decide (wi.2 + 1 = n)))
    then some ((rest.flatMap (fun w => bytesOf w.data)).take len) else none

/-- CRIER_TX_FRAME: a frame of user logic goes to its segment's queue; one whose words disagree with LEN is discarded. -/
def Device.crierTxFrame (d : Device) (tp : Nat) (words : List BWord) : Device :=
  match d.trestle.ports[tp]? with
  | none => d
  | some t =>
    if t.kind ≠ 5 || d.gsr then d
    else match frameOf words with
      | some bytes => { d with crier := { d.crier with handed := d.crier.handed ++ [.frame t.seg bytes] } }
      | none => d.tpDiscard tp words.length

def execCrierTxFrame (tp : Nat) (words : List BWord) (s : State) : Host.Outcome State Fault Refusal :=
  s.act (Instr.wf (.crierTxFrame tp words)) (fun d => d.crierTxFrame tp words)

end Sys2Proof.Machine
end

