-- ==== Sys2Proof/Machine/HostSide.lean ====
section
/-! DEFINITION. The host interface: window selection (R501), ring commands and doorbells (R509 to R511, R517, R518), the HRB pin (R507,
R508), host reset (R499) and the PCI Express link (R526). -/

namespace Sys2Proof.Machine

/-- WIN_SEL_WRITE. -/
def execWinSelWrite (val : Word) (s : State) : Host.Outcome State Fault Refusal :=
  s.act (Instr.wf (.winSelWrite val)) (fun d => d.winSel val)

/-! ### Ring commands (R511) -/

/-- RING_SEL. -/
def Device.ringSel (d : Device) : Nat := d.rf HST 0 0x110 0 12

/-- RING_STAT.RESULT. -/
def Device.ringResult (d : Device) (v : Nat) : Device := d.setF HST 0 0x118 0 3 v

/-- RING_WRITE: refused on an enabled ring and with a size out of range. -/
def Device.ringWrite (d : Device) : Device :=
  let r := d.ring d.ringSel
  let size := d.rf HST 0 0x128 0 5
  if r.enabled then d.ringResult 1
  else if size < 6 ∨ 16 < size then d.ringResult 2
  else
    (d.setRing d.ringSel { r with
      addr := d.rf HST 0 0x120 12 20 * 4096 + d.regN HST 0 0x124 * 2 ^ 32, size := size, vector := d.rf HST 0 0x128 16 11,
      coalCnt := d.rf HST 0 0x12C 0 8, coalUs := d.rf HST 0 0x12C 8 16 }).ringResult 0

def execRingWrite (s : State) : Host.Outcome State Fault Refusal := s.act (Instr.wf .ringWrite) Device.ringWrite

/-- RING_ENABLE: PI and CI start at 0. -/
def Device.ringEnable (d : Device) : Device :=
  (d.setRing d.ringSel { d.ring d.ringSel with
    enabled := true, pi := 0, ci := 0, ciWas := 0, ciAt := none, unsignalled := 0, drops := 0, dropLogged := false }).ringResult 0

def execRingEnable (s : State) : Host.Outcome State Fault Refusal := s.act (Instr.wf .ringEnable) Device.ringEnable

/-- RING_DISABLE. -/
def Device.ringDisable (d : Device) : Device := (d.setRing d.ringSel { d.ring d.ringSel with enabled := false }).ringResult 0

def execRingDisable (s : State) : Host.Outcome State Fault Refusal := s.act (Instr.wf .ringDisable) Device.ringDisable

/-- RING_COALESCE_TIMEOUT: COAL_US, 200 cycles a microsecond, have passed since the first verdict not yet signalled (R518). -/
def Device.coalesceTimeout (d : Device) (n : Nat) : Device :=
  let r := d.ring n
  if r.enabled && decide (r.coalUs ≠ 0) && decide (r.unsignalled ≠ 0) && decide (r.firstAt + 200 * r.coalUs ≤ d.now) then d.ringSignal n else d

def execRingCoalesceTimeout (ring : Nat) (s : State) : Host.Outcome State Fault Refusal :=
  s.act (Instr.wf (.ringCoalesceTimeout ring)) (fun d => d.coalesceTimeout ring)

/-! ### Doorbells (R509, R517) -/

/-- A new CI is accepted unless it runs ahead of PI or back; a disabled ring ignores it. -/
def Device.applyDoorbell (d : Device) (n : Nat) (val : Word) : Device :=
  let r := d.ring n
  if !r.enabled then d
  else if (val.toNat + 2 ^ 32 - r.ci) % 2 ^ 32 ≤ (r.pi + 2 ^ 32 - r.ci) % 2 ^ 32 then
    d.setRing n { r with ci := val.toNat, ciWas := if r.ciAt = some d.now then r.ciWas else r.ci, ciAt := some d.now }
  else ((d.count32 HST 0 0x038).raise HST 0 1).log 0xB301 HST 0 0 (n + val.toNat * 2 ^ 32)

/-- DOORBELL_WRITE: while HRB is low for busy the latest value is kept; during boot nothing counts it (R608). -/
def Device.doorbell (d : Device) (off : Nat) (val : Word) : Device :=
  if off % 256 ≠ 0 then d
  else if d.rb HST 0 0x010 0 then
    let d1 := d.setRing (off / 256) { d.ring (off / 256) with parked := some val }
    if d.boot.booting then d1 else d1.count32 HST 0 0x034
  else d.applyDoorbell (off / 256) val

def execDoorbellWrite (off : Nat) (val : Word) (s : State) : Host.Outcome State Fault Refusal :=
  s.act (Instr.wf (.doorbellWrite off val)) (fun d => d.doorbell off val)

/-- A kept doorbell value is applied. -/
def Device.unpark (d : Device) (n : Nat) : Device :=
  match (d.ring n).parked with
  | some v => (d.setRing n { d.ring n with parked := none }).applyDoorbell n v
  | none => d

/-- PARKED_DOORBELLS_APPLY: once HRB is no longer low for busy. -/
def Device.parkedApply (d : Device) : Device :=
  if d.rb HST 0 0x010 0 then d else (d.host.rings.map (fun kv => kv.1)).foldl (fun a n => a.unpark n) d

def execParkedDoorbellsApply (s : State) : Host.Outcome State Fault Refusal :=
  s.act (Instr.wf .parkedDoorbellsApply) Device.parkedApply

/-! ### HRB (R507, R508) -/

/-- The pin takes a level. -/
def Device.setHrb (d : Device) (high : Bool) : Device :=
  if d.host.hrbHigh = high then d
  else { d with host := { d.host with hrbHigh := high, highFor := 0 } }.emit (.hrb high)

/-- HRB_BUSY_BEGIN: 4 cycles after the first cause; a pulse under way goes on as busy, and its attention waits. -/
def Device.busyBegin (d : Device) : Device :=
  if d.rb HST 0 0x010 0 || decide (d.busySrc = 0) then d
  else
    let d1 := (d.setB HST 0 0x010 0 true).setHrb false
    { d1 with host := { d1.host with attn := d1.host.attn || decide (d1.host.pulse ≠ 0), pulse := 0, busyAt := d.now } }

def execHrbBusyBegin (s : State) : Host.Outcome State Fault Refusal := s.act (Instr.wf .hrbBusyBegin) Device.busyBegin

/-- HRB_BUSY_END: 4 cycles after the last cause, and 2,000 cycles after HRB went low for busy at the earliest (R507). -/
def Device.busyEnd (d : Device) : Device :=
  if !d.rb HST 0 0x010 0 || decide (d.busySrc ≠ 0) || decide (d.now < d.host.busyAt + 2000) then d
  else
    let d1 := ((d.setB HST 0 0x010 0 false).setHrb true).raise HST 0 6
    { d1 with host := { d1.host with attn := d1.host.attn || (d1.rb HST 0 0x008 0 && d1.sumType != 0) } }

def execHrbBusyEnd (s : State) : Host.Outcome State Fault Refusal := s.act (Instr.wf .hrbBusyEnd) Device.busyEnd

/-- ATTENTION_PULSE: a low of 200 cycles, after at least 800 cycles high. -/
def Device.attentionPulse (d : Device) : Device :=
  if d.host.attn && d.host.hrbHigh && !d.rb HST 0 0x010 0 && decide (800 ≤ d.host.highFor) then
    let d1 := d.setHrb false
    { d1 with host := { d1.host with attn := false, pulse := 200 } }
  else d

def execAttentionPulse (s : State) : Host.Outcome State Fault Refusal := s.act (Instr.wf .attentionPulse) Device.attentionPulse

/-! ### Resets of the host interface and the link -/

/-- HOST_RESET: the HST pages return to their reset values, every ring is disabled, the MSI-X table is cleared (R499). What STATUS shows is
live: BUSY, and the link's speed and width unless the link is lost. -/
def Device.hostReset (d : Device) (kind : Nat) : Device :=
  let status := if kind = 2 then d.regN HST 0 0x010 % 256 else d.regN HST 0 0x010
  let d1 := { d with
    regs := d.regs.filter (fun kv => !decide (kv.1 / 4096 / 8192 = HST))
    twins := d.twins.filter (fun kv => !decide (kv.1 / 4096 / 8192 = HST))
    fresh := d.fresh.filter (fun kv => !decide (kv.1 / 4096 / 8192 = HST))
    host := { d.host with rings := d.host.rings.map (fun (kv : Nat × Ring) => (kv.1, { kv.2 with enabled := false, parked := none })),
                          msix := [], pba := [], attn := false } }
  ((d1.setN HST 0 0x010 status).raise HST 0 5).log 0xB304 HST 0 0 kind

def execHostReset (kind : Nat) (s : State) : Host.Outcome State Fault Refusal :=
  s.act (Instr.wf (.hostReset kind)) (fun d => d.hostReset kind)

/-- PCIE_LINK: the link has trained to a speed and width, or is down. -/
def Device.pcieLink (d : Device) (speed width : Nat) : Device :=
  ((d.setF HST 0 0x010 8 4 speed).setF HST 0 0x010 12 4 width).log 0xB305 HST 0 0 (speed + width * 16)

def execPcieLink (speed width : Nat) (s : State) : Host.Outcome State Fault Refusal :=
  s.act (Instr.wf (.pcieLink speed width)) (fun d => d.pcieLink speed width)

end Sys2Proof.Machine
end

