-- ==== Sys2Proof/Machine/Steward.lean ====
section
/-! DEFINITION. The Steward: supplies and droop (R574 to R577), temperature and throttling (R578 to R583), the PMBus master (R584, R585). -/

namespace Sys2Proof.Machine

/-! ### Rails (R574 to R577) -/

def Device.rail (d : Device) (i : Nat) : Rail := d.steward.rails.getD i {}
/-- The rail list with its sixteen entries. -/
def Steward.allRails (s : Steward) : List Rail := (List.range 16).map (fun i => s.rails.getD i {})
def Device.setRail (d : Device) (i : Nat) (r : Rail) : Device :=
  { d with steward := { d.steward with rails := upd d.steward.allRails i (fun _ => r) } }

/-- RAIL_SAMPLE: the second reading in a row outside UV and OV is a supply fault and halts the market. -/
def Device.railSample (d : Device) (i : Nat) (reading : BitVec 10) : Device :=
  let v := reading.toNat
  let above := decide (d.rf STW 0 (0x180 + 4 * i) 16 10 < v)
  let out := above || decide (v < d.rf STW 0 (0x180 + 4 * i) 0 10)
  let n := if out then (d.rail i).outs + 1 else 0
  let d1 := (d.setN STW 0 (0x100 + 4 * i) (v + 2 ^ 16)).setRail i { d.rail i with outs := n }
  if n = 2 then ((d1.raise STW 0 2).log 0xB602 STW 0 0 (i + v * 2 ^ 16 + b2n above * 2 ^ 31)).reportHalt 3 else d1

def execRailSample (rail : Nat) (reading : BitVec 10) (s : State) : Host.Outcome State Fault Refusal :=
  s.act (Instr.wf (.railSample rail reading)) (fun d => d.railSample rail reading)

/-- Source 3 follows the rails that request it; so does STATUS.DROOPING. -/
def Device.droopSync (d : Device) : Device :=
  if d.steward.rails.any (fun r => r.requesting) then (d.hushRequest 3).setB STW 0 0x010 3 true
  else (d.hushDrop 3).setB STW 0 0x010 3 false

/-- DROOP_DETECT: the rail is below DROOP, and its request begins with the next cycle. A rail whose request has lasted too long requests again after 64 cycles at or above DROOP + 8 mV. -/
def Device.droopDetect (d : Device) (i : Nat) : Device :=
  let r := d.rail i
  let rested := match r.goodSince with | some g => decide (g + 64 ≤ d.now) | none => false
  if !d.rb STW 0 0x008 1 || r.requesting || r.due then d
  else if r.blocked && !rested then d.setRail i { r with goodSince := none }
  else d.setRail i { r with due := true, blocked := false, goodSince := none }

/-- The cycle after: the rail's request begins. -/
def Device.droopBegin (d : Device) (i : Nat) : Device :=
  ((d.setRail i { d.rail i with due := false, requesting := true, since := d.now }).count32 STW 0 0x030).droopSync

def execDroopDetect (rail : Nat) (s : State) : Host.Outcome State Fault Refusal :=
  s.act (Instr.wf (.droopDetect rail)) (fun d => d.droopDetect rail)

/-- DROOP_RECOVER: the rail is at or above DROOP + 8 mV. -/
def Device.droopRecover (d : Device) (i : Nat) : Device :=
  let r := d.rail i
  if r.requesting then (d.setRail i { r with requesting := false }).droopSync
  else if r.blocked && r.goodSince.isNone then d.setRail i { r with goodSince := some d.now } else d

def execDroopRecover (rail : Nat) (s : State) : Host.Outcome State Fault Refusal :=
  s.act (Instr.wf (.droopRecover rail)) (fun d => d.droopRecover rail)

/-- DROOP_LONG: a request reaches 2,000 cycles. -/
def Device.droopLong (d : Device) (i : Nat) : Device :=
  let r := d.rail i
  if r.requesting && decide (r.since + 2000 ≤ d.now) then
    ((d.setRail i { r with requesting := false, blocked := true, goodSince := none }).droopSync.raise STW 0 1).log 0xB601 STW 0 0 i
  else d

def execDroopLong (rail : Nat) (s : State) : Host.Outcome State Fault Refusal :=
  s.act (Instr.wf (.droopLong rail)) (fun d => d.droopLong rail)

/-- CTRL.DROOP_EN goes to 0: no rail requests source 3 (R599). -/
def Device.droopOff (d : Device) : Device :=
  { d with steward := { d.steward with rails := d.steward.rails.map (fun (r : Rail) => { r with requesting := false, due := false }) } }.droopSync

/-! ### Temperature and throttling (R578 to R583) -/

/-- A threshold of THR_T in units of 0.25 °C. -/
def Device.threshold (d : Device) (k : Nat) : Int := 4 * d.rf STW 0 0x264 (8 * k) 8

/-- The level that a temperature calls for (R579). -/
def Device.levelFor (d : Device) (t : Int) : Nat := ((List.range 3).filter (fun k => decide (d.threshold k ≤ t))).length

/-- STATUS.LEVEL. -/
def Device.level (d : Device) : Nat := d.rf STW 0 0x010 0 2

/-- A new level: it acts from the next throttle period, level 3 from the next cycle (R580). -/
def Device.newLevel (d : Device) (l : Nat) (tmax : Nat) : Device :=
  let d1 := ((d.setF STW 0 0x010 0 2 l).raise STW 0 0).log 0xB603 STW 0 0 (l + tmax * 2 ^ 16)
  if l = 3 then { d1 with steward := { d1.steward with critDue := true } } else d1

/-- Level 3 acts: a market halt, and its duty for what is left of the throttle period (R579 to R581, R583). -/
def Device.critBegin (d : Device) : Device :=
  if !d.steward.critDue then d
  else
    let on := d.rb STW 0 0x008 0 && decide (d.now < d.steward.periodAt + 896)
    let d1 := ({ d with steward := { d.steward with critDue := false, level := 3, throttling := d.steward.throttling || on } }.raise STW 0 3).reportHalt 3
    if on then d1.hushRequest 2 else d1

/-- THERMAL_TRIP: THERMTRIP_N low, stalls closed, decoder engines stopped, until PERST# (R582). -/
def Device.thermalTrip (d : Device) (sensor reading : Nat) : Device :=
  if d.boot.tripped then d
  else
    let d1 := { d with boot := { d.boot with tripped := true }, gate := { d.gate with stopped := true } }
    ((d1.setB STW 0 0x010 2 true).emit (.thermtrip true)).log 0xB604 STW 0 0 (sensor + reading * 2 ^ 16)

/-- The highest reading and its sensor, the lowest-numbered of equals. -/
def hottest (l : List Int) : Int × Nat :=
  (l.zipIdx).foldl (fun m ti => if m.1 < ti.1 then ti else m) (l.headD 0, 0)

/-- THERMAL_SAMPLE: 24 readings. -/
def Device.thermalSample (d : Device) (temps : List Int) : Device :=
  let m := hottest temps
  let code := wrapN 12 m.1
  let d1 := (temps.zipIdx).foldl (fun a ti => a.setN STW 0 (0x200 + 4 * ti.2) (wrapN 12 ti.1 + 2 ^ 16)) d
  let d2 := d1.setN STW 0 0x260 (code + m.2 * 2 ^ 16)
  let up := d2.levelFor m.1
  let low := decide (d2.level ≠ 0 ∧ m.1 < d2.threshold (d2.level - 1) - 4 * d2.rf STW 0 0x270 0 4)
  let n := if low then d2.steward.below + 1 else 0
  let d3 := { d2 with steward := { d2.steward with below := if n = 10 then 0 else n } }
  let d4 := if d3.level < up then d3.newLevel up code else if n = 10 then d3.newLevel (d3.level - 1) code else d3
  if d.threshold 3 ≤ m.1 then { d4 with steward := { d4.steward with tripDue := some (m.2, code) } } else d4

def execThermalSample (temps : List Int) (s : State) : Host.Outcome State Fault Refusal :=
  s.act (Instr.wf (.thermalSample temps)) (fun d => d.thermalSample temps)

/-- What the cycle before has left the Steward to do in this one: droop requests, level 3 and the trip. -/
def Device.stewardTick (d : Device) : Device :=
  let d1 := ((List.range 16).filter (fun i => (d.rail i).due)).foldl (fun a i => a.droopBegin i) d
  let d2 := d1.critBegin
  match d2.steward.tripDue with
  | some x => { d2 with steward := { d2.steward with tripDue := none } }.thermalTrip x.1 x.2
  | none => d2

/-- Cycles requested of a throttle period at a level; a duty above 896 is read as 896 (R579, R599). -/
def Device.duty (d : Device) (l : Nat) : Nat :=
  match l with
  | 0 => 0
  | 1 => min 896 (d.rf STW 0 0x268 0 10)
  | 2 => min 896 (d.rf STW 0 0x268 16 10)
  | _ => 896

/-- Source 2 drops. -/
def Device.throttleEnd (d : Device) : Device :=
  if d.steward.throttling then { d with steward := { d.steward with throttling := false } }.hushDrop 2 else d

/-- THROTTLE_PERIOD_START: the level comes into force; source 2 asks, unless THR_EN is 0 or level 1 has spent its budget (R581, R583). -/
def Device.throttlePeriod (d : Device) : Device :=
  let l := d.level
  let spent := decide (l = 1) && (d.steward.spent || decide (d.rf STW 0 0x26C 0 24 ≤ d.steward.budget))
  let d1 := { d with steward := { d.steward with level := l, periodAt := d.now } }
  if decide (d.duty l = 0) || !d.rb STW 0 0x008 0 || spent then d1.throttleEnd
  else { d1 with steward := { d1.steward with throttling := true } }.hushRequest 2

def execThrottlePeriodStart (s : State) : Host.Outcome State Fault Refusal :=
  s.act (Instr.wf .throttlePeriodStart) Device.throttlePeriod

/-- THROTTLE_REQUEST_END: the duty's cycles have been requested. -/
def execThrottleRequestEnd (s : State) : Host.Outcome State Fault Refusal :=
  s.act (Instr.wf .throttleRequestEnd) Device.throttleEnd

/-- A cycle of the throttle: THR_CYCLES counts it, and level 1 is cut at THR_BUDGET (R581). -/
def Device.throttleCycle (d : Device) : Device :=
  if !d.steward.throttling then d
  else
    let n := d.steward.budget + 1
    let d1 := { d with steward := { d.steward with budget := n } }.count32 STW 0 0x034
    if d1.steward.level = 1 ∧ d1.rf STW 0 0x26C 0 24 ≤ n then
      { d1 with steward := { d1.steward with spent := true } }.throttleEnd
    else d1

/-! ### PMBus (R584, R585) -/

/-- Bytes 0 to 7 of PMB_DATA. -/
def Device.pmbData (d : Device) (n : Nat) : List Byte :=
  (leBytes 4 (d.regN STW 0 0x284) ++ leBytes 4 (d.regN STW 0 0x288)).take n

/-- A write to PMB_CMD: a transaction starts; during one, the write is ignored and counted. A master that is not enabled starts none. -/
def Device.pmbStart (d : Device) (kind send recv : Nat) (addr : BitVec 7) (code : Byte) (pec : Bool) : Device :=
  if d.rb STW 0 0x010 4 then d.count32 STW 0 0x038
  else if !d.rb STW 0 0x28C 1 then d
  else
    let d1 := { d with steward := { d.steward with pmb := ⟨recv, addr.toNat, code.toNat⟩ } }
    (d1.setB STW 0 0x010 4 true).emit (.pmbus addr.toNat code.toNat kind pec (d.pmbData send))

def execPmbSendByte (addr : BitVec 7) (code : Byte) (pec : Bool) (s : State) : Host.Outcome State Fault Refusal :=
  s.act (Instr.wf (.pmbSendByte addr code pec)) (fun d => d.pmbStart 0 0 0 addr code pec)
def execPmbWriteByte (addr : BitVec 7) (code : Byte) (pec : Bool) (s : State) : Host.Outcome State Fault Refusal :=
  s.act (Instr.wf (.pmbWriteByte addr code pec)) (fun d => d.pmbStart 1 1 0 addr code pec)
def execPmbWriteWord (addr : BitVec 7) (code : Byte) (pec : Bool) (s : State) : Host.Outcome State Fault Refusal :=
  s.act (Instr.wf (.pmbWriteWord addr code pec)) (fun d => d.pmbStart 2 2 0 addr code pec)
def execPmbReadByte (addr : BitVec 7) (code : Byte) (pec : Bool) (s : State) : Host.Outcome State Fault Refusal :=
  s.act (Instr.wf (.pmbReadByte addr code pec)) (fun d => d.pmbStart 3 0 1 addr code pec)
def execPmbReadWord (addr : BitVec 7) (code : Byte) (pec : Bool) (s : State) : Host.Outcome State Fault Refusal :=
  s.act (Instr.wf (.pmbReadWord addr code pec)) (fun d => d.pmbStart 4 0 2 addr code pec)
def execPmbBlockRead (addr : BitVec 7) (code : Byte) (pec : Bool) (len : Nat) (s : State) : Host.Outcome State Fault Refusal :=
  s.act (Instr.wf (.pmbBlockRead addr code pec len)) (fun d => d.pmbStart 5 0 len addr code pec)

/-- PMB_DONE: the transaction ends; what it read stands in PMB_DATA from byte 0 on. -/
def Device.pmbDone (d : Device) (res : PmbResult) : Device :=
  if !d.rb STW 0 0x010 4 then d
  else
    let p := d.steward.pmb
    let d1 := d.setB STW 0 0x010 4 false
    match res with
    | .done bytes =>
      let got := bytes.take p.len
      let all := got ++ (d.pmbData 8).drop got.length
      ((d1.setN STW 0 0x284 (leNat (all.take 4))).setN STW 0 0x288 (leNat (all.drop 4))).raise STW 0 4
    | .nak => (d1.raise STW 0 5).log 0xB605 STW 0 0 (p.addr + p.code * 2 ^ 8)

def execPmbDone (res : PmbResult) (s : State) : Host.Outcome State Fault Refusal :=
  s.act (Instr.wf (.pmbDone res)) (fun d => d.pmbDone res)

/-- PMB_ALERT: SMBALERT# is low. -/
def execPmbAlert (s : State) : Host.Outcome State Fault Refusal := s.act (Instr.wf .pmbAlert) (fun d => d.raise STW 0 6)

/-- POLL: the three words of each regulator that POLL_ADDR enables; polling yields to a firmware transaction (R585). -/
def Device.poll (d : Device) (words : List (List (BitVec 16))) : Device :=
  if d.rb STW 0 0x010 4 || !d.rb STW 0 0x28C 1 then d
  else (List.range 8).foldl (fun a j =>
    if a.rb STW 0 (0x2A0 + 4 * j) 7 then
      (List.range 3).foldl (fun b m => b.setN STW 0 (0x2C0 + 16 * j + 4 * m) ((((words.getD j []).getD m 0)).toNat + 2 ^ 16)) a
    else a) d

def execPoll (words : List (List (BitVec 16))) (s : State) : Host.Outcome State Fault Refusal :=
  s.act (Instr.wf (.poll words)) (fun d => d.poll words)

end Sys2Proof.Machine
end

