-- ==== Sys2Proof/Machine/Reserve.lean ====
section
/-! DEFINITION. The Reserve: self-test (R590, R591), candidates by command (R592), wear (R588), the reload after a halt (R595) and the
Reserve record (R594, R596, R597). -/

namespace Sys2Proof.Machine

/-! ### Self-test -/

/-- Does the market use a unit now? A spare or retired stall, the bank out of service and an unmapped decoder engine are not in use (R590). -/
def Device.unitInUse (d : Device) (kind index : Nat) : Bool :=
  match kind with
  | 0 => (d.logOf index).isSome
  | 1 => decide (index ≠ d.actDep.getD 16)
  | 2 => (List.range 32).any (fun l => decide (d.engineOf l = index))
  | _ => true

def allStalls : List (Nat × Nat) := (List.range 6400).map (fun p => (0, p))
def allBanks : List (Nat × Nat) := (List.range 17).map (fun b => (1, b))
def allEngines : List (Nat × Nat) := (List.range 33).map (fun e => (2, e))

/-- The units of an oscillator (R588): ten stalls, an engine or a bank. A link has no self-test. -/
def oscUnits (osc : Nat) : List (Nat × Nat) :=
  if osc < 640 then (List.range 10).map (fun i => (0, osc / 10 * 100 + osc % 10 * 10 + i))
  else if osc < 673 then [(2, osc - 640)]
  else if osc < 690 then [(1, osc - 673)]
  else []

/-- Oscillators on BIST_PENDING. -/
def Device.pendingOscs (d : Device) : List Nat := (List.range 698).filter (fun o => d.rb RSV 0 (0x120 + 4 * (o / 32)) (o % 32))

/-- Units and oscillators of a scope: 0 pending, 1 spares, 2 Square, 3 Depot, 4 decoders, 5 all; none for a reserved one. -/
def Device.scopeUnits (d : Device) (scope : Nat) : Option (List (Nat × Nat) × List Nat) :=
  match scope with
  | 0 => some (d.pendingOscs.flatMap oscUnits, d.pendingOscs)
  | 1 => some ((allStalls ++ allBanks ++ allEngines).filter (fun u => !d.unitInUse u.1 u.2), [])
  | 2 => some (allStalls, List.range 640)
  | 3 => some (allBanks, (List.range 17).map (fun b => 673 + b))
  | 4 => some (allEngines, (List.range 33).map (fun e => 640 + e))
  | 5 => some (allStalls ++ allBanks ++ allEngines, List.range 698)
  | _ => none

/-- RSV_RESULT. -/
def Device.rsvResult (d : Device) (v : Nat) : Device := d.setN RSV 0 0x108 v

/-- A command while a test runs is refused with RESULT 1. -/
def Device.rsvCommand (d : Device) (f : Device → Device) : Device := if d.rb RSV 0 0x010 2 then d.rsvResult 1 else f d

/-- BIST: units in use are tested only while the market stands still; otherwise RESULT 2. -/
def Device.bist (d : Device) (scope : Nat) : Device :=
  d.rsvCommand (fun d =>
    match d.scopeUnits scope with
    | none => d
    | some u =>
      if d.bellsRing && !d.marketHalted && u.1.any (fun x => d.unitInUse x.1 x.2) then d.rsvResult 2
      else { d with reserve := { d.reserve with bistUnits := u.1, bistOscs := u.2 } }.setB RSV 0 0x010 2 true |>.rsvResult 0)

def execBist (scope : BitVec 4) (s : State) : Host.Outcome State Fault Refusal :=
  s.act (Instr.wf (.bist scope)) (fun d => d.bist scope.toNat)

/-- Every stored word of a tested stall is zero with its check bits; what else it held is lost (R591): open values. -/
def Device.wipeStall (d : Device) (p : Nat) : Device :=
  let free := fun i => Config.freeValue (d.frees + i)
  let prog := (List.range 2048).foldl (fun m i => KMap.set m (2048 * p + i) ((free i).setWidth 33) 0) d.prog
  let d1 := { d with
    store := d.store.filter (fun kv => decide (kv.1 / 8192 ≠ p))
    storeSpare := d.storeSpare.filter (fun kv => decide (kv.1 / 8 ≠ p))
    prog := prog }
  let put := fun (a : Device) (x : Nat × Nat × Nat) =>
    (List.range x.2.1).foldl (fun a i => a.setN STL p (x.1 + 4 * i) ((free (x.2.2 + i)).toNat % 2 ^ 32)) a
  let d2 := [(0x500, 64, 2048), (0x200, 128, 2112), (0x100, 1, 2240)].foldl put d1
  let d3 := (List.range 32).foldl (fun a i => a.setN STL p (0x400 + 4 * i) ((free (2241 + i)).toNat % 2 ^ 16)) d2
  let accs : KMap Word := (List.range 512).map (fun i => (i, (free (2273 + i)).setWidth 32))
  let planes : KMap Plane := (List.range 16).map (fun i =>
    (i, { bytes := (List.range 40).flatMap (fun j => bytesOf (free (2785 + 40 * i + j))) }))
  let window : KMap Byte := (List.range 256).map (fun i => (i, (free (3425 + i)).setWidth 8))
  let tiles : KMap (BitVec 10) := (List.range 512).map (fun i => (i, (free (3681 + i)).setWidth 10))
  let d4 := { d3 with frees := d.frees + 4193 }
  (d4.storeFillFlip p (fun _ => 0)).updStall p (fun s =>
    { s.emptied.quiet with accs := accs, planes := planes, latch := [], window := window, tb := tiles })

/-- Every word of a tested bank is zero. -/
def Device.wipeBank (d : Device) (b : Nat) : Device :=
  { d with depot := { d.depot with
      mem := d.depot.mem.filter (fun kv => decide (kv.1 / 1048576 ≠ b))
      spares := d.depot.spares.filter (fun kv => decide (kv.1 / 256 ≠ b)) } }.depotFillFlip b (fun _ _ => 0)

/-- What a test leaves of a unit. -/
def Device.wipe (d : Device) (u : Nat × Nat) : Device :=
  let d1 := if u.1 = 0 then d.wipeStall u.2 else if u.1 = 1 then d.wipeBank u.2 else d
  if d.unitInUse u.1 u.2 then { d1 with reserve := { d1.reserve with bistLost := true } } else d1

/-- Row repairs for a failing stall: no bank of it may pass its two redundant rows (R105, R591). -/
def Device.rowRepairs (d : Device) (u : BistUnit) : Option (List (Nat × Nat × Nat)) :=
  let rows := u.failRows.foldl (fun l br => insertNew (u.index, br.1, br.2) l) d.reserve.pendRows
  if u.kind = 0 ∧ !u.otherFail ∧ (List.range 8).all (fun b =>
      decide ((rows.filter (fun r => decide (r.1 = u.index ∧ r.2.1 = b))).length ≤ 2)) then some rows
  else none

/-- The wire that a group of a lane output has on its spare: in the map in force, or in the pending one. -/
def Device.steered (d : Device) (p o g : Nat) : Option Nat :=
  let w := d.rf ARC p (0x180 + 8 * o) (5 * g) 5
  if w ≠ 31 then some (16 * g + w)
  else (d.reserve.pendWires.find? (fun x => decide (x.1 = p ∧ x.2.1 = o ∧ x.2.2 / 16 = g))).map (fun x => x.2.2)

/-- Failing lane wires go onto the spares of their groups; a group has one (R196, R586). -/
def Device.wireRepairs (d : Device) (u : BistUnit) : Option (List (Nat × Nat × Nat)) :=
  u.failWires.foldl (fun (m : Option (List (Nat × Nat × Nat))) ow => match m with
    | none => none
    | some l =>
      let mine := l.find? (fun x => decide (x.1 = u.index ∧ x.2.1 = ow.1 ∧ x.2.2 / 16 = ow.2 / 16))
      match (d.steered u.index ow.1 (ow.2 / 16)).orElse (fun _ => mine.map (fun x => x.2.2)) with
      | some w => if w = ow.2 then some l else none
      | none => if ow.1 < 4 ∧ ow.2 < 72 then some (l ++ [(u.index, ow.1, ow.2)]) else none) (some d.reserve.pendWires)

/-- A failing unit: row repairs and steered wires, or a candidate with cause 0. -/
def Device.bistFail (d : Device) (u : BistUnit) : Device :=
  let d1 := ((d.raise RSV 0 2).count16 RSV 0 0x034).log 0xB703 RSV 0 0 (u.kind + u.index * 16)
  match d.rowRepairs u, d.wireRepairs u with
  | some rows, some wires =>
    let d2 := { d1 with reserve := { d1.reserve with pendRows := rows, pendWires := wires }.seal }
    d2.setB RSV 0 0x010 0 d2.mapDiffers
  | _, _ => d1.candidate ⟨u.kind, u.index⟩ 0

/-- BIST_DONE. -/
def Device.bistDone (d : Device) (units : List BistUnit) : Device :=
  if !d.rb RSV 0 0x010 2 then d
  else
    let d1 := d.reserve.bistUnits.foldl (fun a u => a.wipe u) d
    let d2 := (units.filter (fun u => decide ((u.kind, u.index) ∈ d.reserve.bistUnits) && (u.otherFail || !u.failRows.isEmpty || !u.failWires.isEmpty))).foldl
      (fun a u => a.bistFail u) d1
    let d3 := d.reserve.bistOscs.foldl (fun a o => a.setB RSV 0 (0x120 + 4 * (o / 32)) (o % 32) false) d2
    ({ d3 with reserve := { d3.reserve with bistUnits := [], bistOscs := [] } }.setB RSV 0 0x010 2 false).raise RSV 0 1

def execBistDone (units : List BistUnit) (s : State) : Host.Outcome State Fault Refusal :=
  s.act (Instr.wf (.bistDone units)) (fun d => d.bistDone units)

/-! ### Candidates by command (R592) -/

/-- RSV_UNIT. -/
def Device.rsvUnit (d : Device) : Cand := ⟨d.rf RSV 0 0x104 0 4, d.rf RSV 0 0x104 4 13⟩

/-- ADD. The cause that the Ledger names for a command the manual does not state; a unit that the chip does not have is no candidate. -/
def Device.addCand (d : Device) : Device :=
  d.rsvCommand (fun d => (if d.rsvUnit.onChip then d.useFree.candidate d.rsvUnit (d.free.toNat % 16) else d).rsvResult 0)

def execAdd (s : State) : Host.Outcome State Fault Refusal := s.act (Instr.wf .add) Device.addCand

/-- DROP. -/
def Device.dropCand (d : Device) : Device :=
  d.rsvCommand (fun d =>
    (({ d with reserve := { d.reserve with cands := dropAll d.rsvUnit d.reserve.cands } }).rebuildMap).rsvResult 0)

def execDrop (s : State) : Host.Outcome State Fault Refusal := s.act (Instr.wf .drop) Device.dropCand

/-! ### Wear (R588) -/

/-- WEAR_COUNT: the corrected count of an oscillator; the first one ever taken is its baseline. -/
def Device.wearCount (d : Device) (osc : Nat) (count : Nat) : Device :=
  if !d.rb RSV 0 0x008 1 then d
  else match KMap.get d.reserve.baselines osc 0 with
    | 0 => { d with reserve := { d.reserve with baselines := KMap.put d.reserve.baselines osc (count + 1), newBase := true } }
    | b + 1 =>
      if d.rf RSV 0 0x10C 8 10 * b ≤ (b - count) * 1024 ∧ count ≤ b ∧ b ≠ 0 then
        ((d.raise RSV 0 3).log 0xB702 RSV 0 0 (osc + (b - count) * 1024 / b % 1024 * 2 ^ 16)).bistPending osc
      else d

def execWearCount (osc : Nat) (count : BitVec 16) (s : State) : Host.Outcome State Fault Refusal :=
  s.act (Instr.wf (.wearCount osc count)) (fun d => d.wearCount osc count.toNat)

/-! ### The reload (R595) -/

/-- RESERVE_RELOAD: after a halt, with AUTO_RELOAD and a pending map, the running image is loaded again; the halt bell is the load bell. -/
def Device.reserveReload (d : Device) : Device :=
  if d.marketHalted && d.rb RSV 0 0x008 0 && d.rb RSV 0 0x010 0 && d.loader.running.isSome && decide (d.loadState = 0) then
    let d1 := ((d.startLoad true).setN CLK 0 0x11C (d.bellCount % 2 ^ 32)).raise CLK 0 3
    { d1 with loader := { d1.loader with reload := true, loadBell := d.bell.count } }.setB RSV 0 0x010 1 true
  else d

def execReserveReload (s : State) : Host.Outcome State Fault Refusal := s.act (Instr.wf .reserveReload) Device.reserveReload

/-! ### The Reserve record (R596) -/

/-- One entry. How FIELD holds its parts the manual does not state: in order from its low bit (assumption 63). -/
def recEntry (kind index field : Nat) : List Byte := leBytes 4 (kind + index % 2 ^ 13 * 16 + field % 2 ^ 15 * 2 ^ 17)

/-- Entries for steered wires: output, group and wire. -/
def Device.wireEntries (d : Device) : List (List Byte) :=
  (List.range 6400).flatMap (fun p => (List.range 4).flatMap (fun o => (List.range 5).filterMap (fun g =>
    let w := d.rf ARC p (0x180 + 8 * o) (5 * g) 5
    if w = 31 then none else some (recEntry 0 p (o + g * 4 + w * 32)))))

/-- Entries for row repairs: bank, row and redundant row. -/
def Device.rowEntries (d : Device) : List (List Byte) :=
  (d.reserve.actRows.zipIdx).map (fun ri =>
    let before := (d.reserve.actRows.take ri.2).filter (fun x => decide (x.1 = ri.1.1 ∧ x.2.1 = ri.1.2.1))
    recEntry 1 ri.1.1 (ri.1.2.1 + ri.1.2.2 * 8 + before.length * 1024))

/-- Entries for remapped words in force: the word address, of which FIELD holds 15 bits. -/
def Device.remapEntries (d : Device) : List (List Byte) :=
  d.stalls.flatMap (fun kv => (kv.2.remaps.filter (fun r => r.active)).map (fun r => recEntry 2 kv.1 r.addr))
    ++ d.depot.remaps.flatMap (fun kv => (kv.2.filter (fun r => r.active)).map (fun r => recEntry 3 kv.1 r.addr))

/-- The unit that an entry is about: a stall, or a Depot bank. -/
def entryUnit (b : List Byte) : Cand := ⟨if fld (leNat b) 0 4 = 3 then 1 else 0, fld (leNat b) 4 13⟩

/-- Entries that fit the 8 KiB of the record. -/
def recordRoom : Nat := (8192 - 512 - 2440) / 4

/-- The body of the record. -/
def Device.recordBody (d : Device) (entries : List (List Byte)) : List Byte :=
  padTo 1040 d.mapBytes ++ (List.range 698).flatMap (fun i => leBytes 2 (KMap.get d.reserve.baselines i 0 - 1))
    ++ leBytes 4 entries.length ++ entries.flatten

/-- The record: its header is signed with the identity key, its SVN one above the record it replaces. -/
def Device.recordBytes (d : Device) (body : List Byte) : List Byte :=
  let head := leBytes 4 0x4B5A4D57 ++ leBytes 2 1 ++ leBytes 2 5 ++ leBytes 4 body.length ++ leBytes 4 0
    ++ leBytes 4 (d.reserve.recordSvn + 1) ++ [3, 0, 0, 0] ++ leBytes 8 0 ++ sha body ++ List.replicate 284 0
  head ++ padTo 132 (Config.ecdsaSign d.warden.signs d.idScalar (sha head)) ++ body

/-- RESERVE_RECORD_WRITE: after a full load that changed the maps or took new baselines (R588, R594); a failed flash write is RECORD_FAIL (R597). -/
def Device.recordWrite (d : Device) (ok : Bool) : Device :=
  if !(d.loader.reserveDue || d.reserve.baseDue) || d.warden.resignDue then d
  else
    let d1 := { d with loader := { d.loader with reserveDue := false }, reserve := { d.reserve with baseDue := false } }
    if d.idFail then d1.wrdFault 0x9009
    else if !ok then d1.raise RSV 0 4
    else
      let all := d.wireEntries ++ d.rowEntries ++ d.remapEntries
      let cut := all.length - recordRoom
      let body := d.recordBody (all.take recordRoom)
      let d2 := d1.emit (.flashWrite 0x2000 (d.recordBytes body))
      let svn := d.reserve.recordSvn + 1
      let d3 := { d2 with reserve := { d2.reserve with recordSvn := svn, cut := (all.drop recordRoom).map entryUnit }, warden := { d2.warden with signs := d2.warden.signs + 1 } }
      let d4 := if d3.rb WRD 0 0x010 2 then d3.raiseFloor 3 svn else d3
      if cut = 0 then d4 else d4.log 0xB706 RSV 0 0 (cut % 65536)

def execReserveRecordWrite (ok : Bool) (s : State) : Host.Outcome State Fault Refusal :=
  s.act (Instr.wf (.reserveRecordWrite ok)) (fun d => d.recordWrite ok)

/-- What a verified record puts in force at boot (R596): masks, decoder, Depot and lane maps, baselines, entries. -/
def Device.readEntry (d : Device) (b : List Byte) : Device :=
  let v := leNat b
  let index := fld v 4 13
  let field := fld v 17 15
  match fld v 0 4 with
  | 0 => if index < 6400 then d.setF ARC index (0x180 + 8 * (field % 4)) (5 * (field / 4 % 8)) 5 (field / 32 % 32) else d
  | 1 =>
    let row := (index, field % 8, field / 8 % 128)
    { d with reserve := { d.reserve with actRows := insertNew row d.reserve.actRows, pendRows := insertNew row d.reserve.pendRows }.seal }
  | 2 => match freeSpare 8 (d.stall index).remaps with
    | some s => d.updStall index (fun t => { t with remaps := t.remaps ++ [(newRemap (field % 8192) s).activate] })
    | none => d
  | 3 =>
    let rs := KMap.get d.depot.remaps index []
    let word := field + fld d.free.toNat 0 2 * 2 ^ 15
    match freeSpare 32 rs with
    | some s => { d.useFree with depot := { d.depot with remaps := KMap.put d.depot.remaps index (rs ++ [(newRemap word s).activate]) } }
    | none => d
  | _ => d

/-- A Reserve record that has passed verification. Units whose entries it had no room for are candidates again (R596). -/
def Device.adoptRecord (d : Device) (svn : Nat) (body : List Byte) : Device :=
  let at_ := fun lo n => leNat ((body.drop lo).take n)
  let d1 := (List.range 256).foldl (fun a i =>
    (a.setMap (0x400 + 4 * i) (BitVec.ofNat 32 (at_ (4 * i) 4))).setMap (0x800 + 4 * i) (BitVec.ofNat 32 (at_ (4 * i) 4))) d
  let d2 := (d1.setMap 0x110 (BitVec.ofNat 32 (at_ 1024 1 % 64 + at_ 1025 1 % 64 * 256))).setMap 0x114 (BitVec.ofNat 32 (at_ 1026 1 % 32))
  let d3 := (List.range 8).foldl (fun a l => a.setN AIS l 0x100 (at_ (1027 + l) 1 % 8)) d2
  let bases := (List.range 698).foldl (fun m i => if at_ (1040 + 2 * i) 2 = 0 then m else KMap.put m i (at_ (1040 + 2 * i) 2 + 1))
    d3.reserve.baselines
  let d4 := { d3 with reserve := { d3.reserve with baselines := bases, recordSvn := svn, pendDec := d3.actDec, pendDep := d3.actDep }.seal }
  let d5 := (List.range (min (at_ 2436 4) recordRoom)).foldl (fun a k => a.readEntry ((body.drop (2440 + 4 * k)).take 4)) d4
  let d6 := d.reserve.cut.foldl (fun a c => a.useFree.candidate c (a.free.toNat % 16)) d5
  (d6.rebuildMap).setB RSV 0 0x010 3 true

end Sys2Proof.Machine
end

