-- ==== Sys2Proof/Machine/Boot.lean ====
section
/-! DEFINITION. Reset (R604, R607, R608), straps (R606), the boot ROM and boot firmware (R605, R611 to R613), the watchdog (R609), stock mode
(R614 to R616) and boundary scan (R632, R634). -/

namespace Sys2Proof.Machine

/-! ### Resets (R607) -/

/-- Does an instruction take pins (R632)? -/
def takesPins (code : Byte) : Bool := decide (code = 0 ∨ code = 3 ∨ code = 4 ∨ code = 5 ∨ code = 6)

/-- The device after a reset: what the flash holds (the counters, and what its Reserve record left out), the TAP and what has left the chip are no part of it. PREV_TRIP is as given. -/
def Device.afterReset (d : Device) (cause : Nat) (prevTrip : Bool) : Device :=
  let d1 : Device := { frees := d.frees, outbox := d.outbox, jtag := d.jtag, warden := { counters := d.warden.counters }, reserve := { cut := d.reserve.cut } }
  let d2 := if d.host.hrbHigh then d1.emit (.hrb false) else d1
  (d2.setF CLK 0 0x180 0 3 cause).setB CLK 0 0x180 3 prevTrip

/-- PREV_TRIP as a reset keeps it: a thermal trip preceded it. -/
def Device.tripKept (d : Device) : Bool := d.boot.tripped || d.rb CLK 0 0x180 3

/-- A thermal trip ends: THERMTRIP_N goes high. -/
def Device.tripEnds (d old : Device) : Device := if old.boot.tripped then d.emit (.thermtrip false) else d

/-- POWER_ON_RESET: everything, the TAP and PREV_TRIP included. PERST# is low. -/
def Device.powerOn (d : Device) : Device := { (d.afterReset 0 false).tripEnds d with jtag := {} }

def execPowerOnReset (s : State) : Host.Outcome State Fault Refusal := s.actAlways (Instr.wf .powerOnReset) Device.powerOn

/-- PERST_ASSERT: PERST# goes low. -/
def Device.perstAssert (d : Device) : Device := (d.afterReset 1 d.tripKept).tripEnds d

def execPerstAssert (s : State) : Host.Outcome State Fault Refusal := s.actAlways (Instr.wf .perstAssert) Device.perstAssert

/-- The straps are latched, and the device leaves reset (R606). FLASH_MODE 3 is read as 0. -/
def Device.leaveReset (d : Device) : Device :=
  let s := d.boot.pinStraps
  let mode := if s.flashMode = 3 then 0 else s.flashMode.toNat
  let v := b2n s.pullCfg + 2 * b2n s.enroll + 4 * mode + 16 * b2n s.refclkSel + 32 * b2n s.stockForce
  let d1 := ((d.setN CLK 0 0x184 v).setB TRS 0 0x010 3 s.pullCfg).setB WRD 0 0x010 3 s.enroll
  { d1 with boot := { d1.boot with held := false } }

/-- PERST_RELEASE: PERST# rises. While an instruction that takes pins is in force the device stays in reset (R634). -/
def Device.perstRelease (d : Device) (straps : Straps) : Device :=
  if d.boot.perstHigh then d
  else
    let d1 := { d with boot := { d.boot with perstHigh := true, pinStraps := straps } }
    if takesPins d.jtag.ir then d1 else d1.leaveReset

def execPerstRelease (straps : Straps) (s : State) : Host.Outcome State Fault Refusal :=
  s.actAlways (Instr.wf (.perstRelease straps)) (fun d => d.perstRelease straps)

/-- A chip reset keeps the PCI Express link and the MSI-X table, the latched straps and a thermal trip (R582, R606, R607). -/
def Device.chipReset (d : Device) : Device :=
  let d1 := d.afterReset 2 (d.rb CLK 0 0x180 3)
  let d2 := { d1 with
    host := { d1.host with msix := d.host.msix, pba := d.host.pba }
    gate := { d1.gate with stopped := d.boot.tripped }
    boot := { d1.boot with perstHigh := true, pinStraps := d.boot.pinStraps, tripped := d.boot.tripped } }
  let d3 := d2.leaveReset
  (((d3.setF HST 0 0x010 8 4 (d.rf HST 0 0x010 8 4)).setF HST 0 0x010 12 4 (d.rf HST 0 0x010 12 4)).setB STW 0 0x010 2 d.boot.tripped)

/-- WATCHDOG_EXPIRE: the count has reached WDOG.MS (R609). -/
def Device.watchdogExpire (d : Device) : Device :=
  if d.rf CLK 0 0x188 0 16 ≠ 0 ∧ d.rf CLK 0 0x188 0 16 ≤ d.boot.wdog then d.chipReset else d

def execWatchdogExpire (s : State) : Host.Outcome State Fault Refusal := s.act (Instr.wf .watchdogExpire) Device.watchdogExpire

/-- WDOG_KICK: only the key 0x5A3C restarts the count. -/
def Device.wdogKick (d : Device) (key : BitVec 16) : Device :=
  if key = 0x5A3C then { d with boot := { d.boot with wdog := 0, wdogCycles := 0 } } else d

def execWdogKick (key : BitVec 16) (s : State) : Host.Outcome State Fault Refusal :=
  s.act (Instr.wf (.wdogKick key)) (fun d => d.wdogKick key)

/-! ### The boot ROM (R552, R567, R611) -/

/-- Verification of a firmware slot; an empty flash fails step 1. -/
def Device.slotFault (d : Device) (o : Option SignedObject) : Option Nat :=
  match o with
  | none => some 0x9001
  | some x => d.verifies x 1 (192 * 1024) true

/-- A slot that fails is recorded. -/
def Device.noteSlot (d : Device) (f : Option Nat) : Device := match f with | some c => d.verifyFail.wrdFault c | none => d

/-- The ROM is to run stock mode, for a reason of STOCK_WHY. -/
def Device.romStock (d : Device) (why : Nat) : Device := { d with boot := { d.boot with stockDue := true } }.setF CLK 0 0x180 6 2 why

/-- The body of the chosen slot is copied into Clerk SRAM and runs. -/
def Device.runFirmware (d : Device) (slot : Nat) (o : SignedObject) : Device :=
  let words := (List.range ((o.content.length + 3) / 4)).foldl (fun (m : KMap (BitVec 39)) i =>
    KMap.set m i (BitVec.ofNat 39 (leNat ((o.content.drop (4 * i)).take 4))) 0) []
  { d with
    clerk := words
    boot := { d.boot with firmware := true }
    warden := { d.warden with fwSvn := o.svn, fwDigest := o.part 32 64 } }.setF CLK 0 0x180 4 1 slot

/-- Which slot runs: of those that are verified, and whose copy matches its digest, the one with the higher SVN, slot A when equal (R567, R611). -/
def Device.chooseSlot (d : Device) (inp : BootInputs) : Device :=
  let fa := d.slotFault inp.slotA
  let fb := d.slotFault inp.slotB
  let d1 := (d.noteSlot fa).noteSlot fb
  let a := if fa.isNone && inp.copyOk.1 then inp.slotA else none
  let b := if fb.isNone && inp.copyOk.2 then inp.slotB else none
  match a, b with
  | some x, some y => if x.svn < y.svn then d1.runFirmware 1 y else d1.runFirmware 0 x
  | some x, none => d1.runFirmware 0 x
  | none, some y => d1.runFirmware 1 y
  | none, none => (d1.romStock 0).log 0xB501 WRD 0 0 (fa.getD 0 + fb.getD 0 * 2 ^ 16)

/-- PLL_LOCK_BOOT: the PLLs have locked and the boot ROM runs. While a rail is low it waits (R605). -/
def Device.pllLock (d : Device) (inp : BootInputs) : Device :=
  if d.boot.romDone || d.rb CLK 0 0x180 9 || inp.railsLow then d
  else
    let d1 := { d with
      clerk := []
      boot := { d.boot with romDone := true }
      warden := { d.warden with secret := if inp.pufOk then inp.deviceSecret else [], rpmcOk := inp.rpmcAuth } }
    let d2 := ((d1.setB WRD 0 0x010 0 (!inp.pufOk)).setB WRD 0 0x010 2 inp.rpmc).showFloors
    if d2.rb CLK 0 0x184 5 then d2.romStock 2
    else if !inp.pufOk then d2.romStock 1
    else d2.chooseSlot inp

def execPllLockBoot (inp : BootInputs) (s : State) : Host.Outcome State Fault Refusal :=
  s.act (Instr.wf (.pllLockBoot inp)) (fun d => d.pllLock inp)

/-- SUPPLY_HOLD: a rail is still low after 10 ms. The event names the lowest rail whose reading is below UV (R605). -/
def Device.supplyHold (d : Device) : Device :=
  if d.boot.romDone then d
  else
    let low := (List.range 16).find? (fun i => d.rb STW 0 (0x100 + 4 * i) 16
      && decide (d.rf STW 0 (0x100 + 4 * i) 0 10 < d.rf STW 0 (0x180 + 4 * i) 0 10))
    let detail := match low with
      | some i => i + d.rf STW 0 (0x100 + 4 * i) 0 10 * 2 ^ 16
      | none => d.free.toNat % 2 ^ 26
    (d.useFree.setB CLK 0 0x180 9 true).log 0xB602 STW 0 0 detail

def execSupplyHold (s : State) : Host.Outcome State Fault Refusal := s.act (Instr.wf .supplyHold) Device.supplyHold

/-! ### Boot firmware (R612, R613) -/

/-- Every Depot word, spare bank included, and every stall store word is zero. -/
def Device.zeroMemories (d : Device) : Device :=
  { d with
    depot := { d.depot with mem := [], spares := [] }
    store := []
    storeSpare := []
    boot := { d.boot with zeroed := true } }

/-- The owner record in the flash; one that fails leaves the device unowned. -/
def Device.bootOwner (d : Device) (o : Option SignedObject) : Device :=
  match o with
  | none => d
  | some x => match d.verifies x 3 3584 true with
    | some c => d.verifyFail.wrdFault c
    | none => { d with warden := { d.warden with owner := some (ownerOf x) } }.showFloors

/-- The Reserve record; one that fails is ignored, and RESERVE_BAD is written (R567, R597). -/
def Device.bootReserve (d : Device) (o : Option SignedObject) : Device :=
  match o with
  | none => d
  | some x => match d.verifies x 5 (8192 - 512) true with
    | some c => (d.verifyFail.wrdFault c).log 0xB502 WRD 0 0 c
    | none =>
      let d1 := d.adoptRecord x.svn x.content
      if d1.rb WRD 0 0x010 2 then d1.raiseFloor 3 x.svn else d1

/-- BOOT_FIRMWARE_START: the memories are zeroed, the Ledger ring is allocated where firmware chooses, cause BOOT ends, and the records
are verified. -/
def Device.firmwareStart (d : Device) (owner reserve : Option SignedObject) : Device :=
  if !d.boot.firmware || d.boot.zeroed then d
  else
    let f := d.free.toNat
    let d1 := ((d.zeroMemories.setN LDG 0 0x100 (f % 2048 * 2 ^ 16)).setN LDG 0 0x104 (8 + f / 2048 % 9)).useFree
    let d2 := { d1 with boot := { d1.boot with booting := false } }
    (d2.bootOwner owner).bootReserve reserve

def execBootFirmwareStart (owner reserve : Option SignedObject) (s : State) : Host.Outcome State Fault Refusal :=
  s.act (Instr.wf (.bootFirmwareStart owner reserve)) (fun d => d.firmwareStart owner reserve)

/-- STOREHOUSE_TRAINED: the fitted capacity is known, and every line is zero. -/
def Device.sthTrained (d : Device) (gib : Nat) : Device :=
  if !d.boot.zeroed || d.boot.sthZeroed then d
  else { d with sth := { d.sth with mem := [] }, boot := { d.boot with sthZeroed := true } }.setF STH 0 0x010 0 1 1 |>.setF STH 0 0x010 16 7 gib

def execStorehouseTrained (gib : Nat) (s : State) : Host.Outcome State Fault Refusal :=
  s.act (Instr.wf (.storehouseTrained gib)) (fun d => d.sthTrained gib)

/-- PREP_DONE: a LOAD that waited for it runs (R613). -/
def Device.prepDone (d : Device) : Device :=
  if !d.boot.sthZeroed || d.rb CLK 0 0x180 8 then d
  else
    let d1 := d.setB CLK 0 0x180 8 true
    match d1.loader.waitPrep with
    | some full => { d1 with loader := { d1.loader with waitPrep := none } }.startLoad full
    | none => d1

def execPrepDone (s : State) : Host.Outcome State Fault Refusal := s.act (Instr.wf .prepDone) Device.prepDone

/-! ### Stock mode (R614 to R616) -/

/-- The registers that stock mode sets: the bell's reset values, PTP discipline, Weighbridge, adaptation, Aisles and Trestle off; the one
chip is its market's master. -/
def Device.stockSettings (d : Device) : Device :=
  let d1 := [0x100, 0x108, 0x110, 0x118].foldl (fun a o => a.setReg BEL 0 o (regReset BEL 0 o)) d
  let d2 := ((d1.setB BEL 0 0x008 1 true).setB BEL 0 0x008 2 false).setN WBR 0 0x008 0
  let d3 := (List.range 8).foldl (fun a l => a.setB AIS l 0x008 0 false) d2
  { d3 with bell := { d3.bell with int := 6666666, frac := 0xAAAB } }

/-- STOCK_MODE_START: the boot ROM's reason, or boot firmware that finds no loadable image. The ROM prepares the memories and the host
interface that no firmware has prepared. -/
def Device.stockStart (d : Device) : Device :=
  let byFirmware := d.boot.firmware && d.rb CLK 0 0x180 8 && d.loader.running.isNone && decide (d.loadState = 0)
  if d.stockMode || !(d.boot.stockDue || byFirmware) then d
  else
    let d1 := if d.boot.zeroed then d else d.zeroMemories
    let d2 := { d1 with boot := { d1.boot with stockDue := false, booting := false } }.setB CLK 0 0x180 5 true
    let d3 := if d.boot.stockDue then d2 else d2.setF CLK 0 0x180 6 2 3
    let d4 := d3.stockSettings.runStart
    (List.range 3).foldl (fun a p => if a.rb GAT 0 0x010 p then a.stockPort p else a) d4

def execStockModeStart (s : State) : Host.Outcome State Fault Refusal := s.act (Instr.wf .stockModeStart) Device.stockStart

/-- DHCP_FALLBACK: 30 s without a lease (R615). -/
def Device.dhcpFallback (d : Device) : Device :=
  if d.stockMode && d.rb GAT 0 0x010 2 then { d with gate := { d.gate with linkLocal := true } } else d

def execDhcpFallback (s : State) : Host.Outcome State Fault Refusal := s.act (Instr.wf .dhcpFallback) Device.dhcpFallback

/-- The record that stock mode admits for a stream (R616). The manual does not state the crop, which is the whole picture here, nor where
the buffers lie. -/
def stockRecordOf (i pt : Nat) : List Word :=
  let codec := if pt = 98 then 1 else 0
  [BitVec.ofNat 32 (codec + 4 * 4 + i / 16 % 32 * 256 + 3000 * 2 ^ 14), BitVec.ofNat 32 (1920 + 1080 * 2 ^ 16), 0,
   BitVec.ofNat 32 (1920 + 1080 * 2 ^ 16), BitVec.ofNat 32 (320 + 192 * 2 ^ 16), (Config.stockBuffer i).setWidth 32, 45]

/-- The flow entry of a stock stream: its group, port 5004, any source, untagged, every port. -/
def stockFlow (i pt : Nat) : List Word :=
  [BitVec.ofNat 32 (1 + i * 8 + 7 * 2 ^ 12 + 2 ^ 29), BitVec.ofNat 32 pt, 0, BitVec.ofNat 32 (5004 * 2 ^ 16), 0, 0, 0, 0,
   BitVec.ofNat 32 (239 * 2 ^ 24 + 255 * 2 ^ 16 + 77 * 2 ^ 8 + i), 0xFFFF, 0, 0]

/-- The normalisation of R59, in both sets. -/
def Device.stockNorm (d : Device) (i : Nat) : Device :=
  let v : DWord := BitVec.ofNat 64 (0x8000 + 254 * 2 ^ 16 + 16 * 2 ^ 32)
  { d with gate := { d.gate with norm := (List.range 6).foldl (fun m k =>
      KMap.set m (2048 * (k / 3) + 4 * i + k % 3) (v, ~~~v) (0, 0)) d.gate.norm } }

/-- STOCK_ADMIT: the first RTP packet of a group whose payload type is 96 or 98. -/
def Device.stockAdmit (d : Device) (i pt : Nat) : Device :=
  let s := { (d.stream i).accept d.now (stockRecordOf i pt) with stock := true }
  if !d.stockMode || !(pt == 96 || pt == 98) || decide (d.admitResult i s ≠ 0) then d
  else
    let d1 := (d.setStream i s).stockNorm i
    { d1 with gate := { d1.gate with flow := KMap.put d1.gate.flow i (stockFlow i pt) } }

def execStockAdmit (stream pt : Nat) (s : State) : Host.Outcome State Fault Refusal :=
  s.act (Instr.wf (.stockAdmit stream pt)) (fun d => d.stockAdmit stream pt)

/-- STOCK_STREAM_IDLE: no packet for 10 s: the stream is dismissed and its flow entry removed. -/
def Device.stockIdle (d : Device) (i : Nat) : Device :=
  if !d.stockMode || !(d.stream i).stock || decide ((d.stream i).state ≠ 1) then d
  else
    let d1 := d.setStream i (d.stream i).dismiss
    { d1 with gate := { d1.gate with flow := KMap.del d1.gate.flow i } }

def execStockStreamIdle (stream : Nat) (s : State) : Host.Outcome State Fault Refusal :=
  s.act (Instr.wf (.stockStreamIdle stream)) (fun d => d.stockIdle stream)

/-! ### Boundary scan (R632, R634) -/

/-- The identification code. -/
def idcode : Word := 0x16144A6F

/-- Does an instruction connect the boundary register between TDI and TDO (R632, R633)? -/
def scansBoundary (code : Byte) : Bool := decide (code = 0 ∨ code = 1 ∨ code = 5 ∨ code = 6)

/-- Another instruction is in force. Shifts under one that connects the boundary register have left there what they please. One that takes pins puts
the register on the balls that it covers, but HIGHZ leaves them open (R632, R633). -/
def Device.setIr (d : Device) (code : Byte) (replaced : Bool) : Device :=
  let d1 := if scansBoundary d.jtag.ir then { d.useFree with jtag := { d.jtag with boundary := Config.scanned d.frees } } else d
  let pins := if takesPins code && decide (code ≠ 3) then some d1.jtag.boundary else none
  { d1 with jtag := { d1.jtag with ir := code, replaced := replaced, pins := pins } }

/-- JTAG_UPDATE_IR: with PERST# high, BYPASS stands in for an instruction that takes pins. An instruction that takes none ends a reset
that such an instruction has held. -/
def Device.updateIr (d : Device) (code : Byte) : Device :=
  let barred := takesPins code && d.boot.perstHigh
  let d1 := d.setIr (if barred then 0xFF else code) barred
  if d1.boot.held && d1.boot.perstHigh then d1.leaveReset else d1

def execJtagUpdateIr (code : Byte) (s : State) : Host.Outcome State Fault Refusal :=
  s.actAlways (Instr.wf (.jtagUpdateIr code)) (fun d => d.updateIr code)

/-- TAP_RESET: IDCODE is selected. -/
def execTapReset (s : State) : Host.Outcome State Fault Refusal :=
  s.actAlways (Instr.wf .tapReset) (fun d => d.setIr 0x02 false)

/-- CAPTURE_IR: bit 2 shows that the instruction before was replaced. -/
def execCaptureIr (s : State) : Host.Outcome State Fault Refusal :=
  s.actAlways (Instr.wf .captureIr) (fun d => { d with jtag := { d.jtag with shift := if d.jtag.replaced then 0x05 else 0x01 } })

end Sys2Proof.Machine
end

