-- ==== Sys2Proof/Machine/Twin.lean ====
section
/-! DEFINITION. Twin registers (R11, R12, R635): the complement write, and what a register does when its value becomes effective. -/

namespace Sys2Proof.Machine

/-- BEL_PERIOD takes effect: the committed pair is copied, unless INT lies out of range (R218, R219). -/
def Device.commitPeriod (d : Device) : Device :=
  let int := d.rf BEL 0 0x100 0 24
  if 65536 ≤ int ∧ int ≤ 16777215 then { d with bell := { d.bell with int := int, frac := d.rf BEL 0 0x108 0 16 } } else d.raise BEL 0 7

/-- CTRL of the BEL page (R221, R230, R253): MASTER, PTP_EN and DL_EN, and then what RUN and SW_HUSH do. -/
def Device.belCtrl (d : Device) (v : Nat) : Device :=
  let was := d.regN BEL 0 0x008
  let d1 := ((d.setB BEL 0 0x008 1 (tb v 1)).setB BEL 0 0x008 2 (tb v 2)).setB BEL 0 0x008 4 (tb v 4)
  let d2 := if tb v 0 = tb was 0 then d1 else if tb v 0 then d1.runStart else d1.runStop
  if tb v 3 = tb was 3 then d2 else d2.swHush (tb v 3)

/-- CTRL of the WBR page: clearing both STATS_EN and NORM_EN discards the current window (R48). -/
def Device.wbrCtrl (d : Device) (v : Nat) : Device :=
  let d1 := d.setN WBR 0 0x008 v
  if d1.windowsOn then d1 else { d1 with wbr := { d1.wbr with window := none } }

/-- CTRL of an AIS link page: EN, and EQ_AUTO (R484, R487). -/
def Device.aisCtrl (d : Device) (l v : Nat) : Device :=
  let d1 := d.setB AIS l 0x008 1 (tb v 1)
  if tb v 0 = d.rb AIS l 0x008 0 then d1 else d1.linkEnable l (tb v 0)

/-- CTRL of a PRT page: GO (R421). -/
def Device.prtCtrl (d : Device) (ch v : Nat) : Device :=
  if tb v 0 && !d.rb PRT ch 0x008 0 then d.porterGo ch else d.setN PRT ch 0x008 v

/-- CTRL of the STW page: THR_EN and DROOP_EN (R583, R599). -/
def Device.stwCtrl (d : Device) (v : Nat) : Device :=
  let d1 := d.setN STW 0 0x008 v
  let d2 := if tb v 0 then d1 else d1.throttleEnd
  if tb v 1 then d2 else d2.droopOff

/-- CTRL of a CRI page: PLCA runs on no segment that is out of use or under CSMA/CD (R452, R465). -/
def Device.criCtrl (d : Device) (g v : Nat) : Device :=
  let d1 := d.setN CRI g 0x008 v
  if tb v 0 && tb v 1 then d1 else (d1.setSeg g { d1.seg g with fellBack := false }).setB CRI g 0x010 0 false

/-- A pending value becomes effective. -/
def Device.twinCommit (d : Device) (b u o : Nat) (v : Word) : Device :=
  match b, o with
  | 0x04, 0x008 => d.belCtrl v.toNat
  | 0x04, 0x100 => (d.setReg BEL 0 0x100 v).commitPeriod
  | 0x06, 0x008 => d.criCtrl u v.toNat
  | 0x09, 0x008 => d.prtCtrl u v.toNat
  | 0x0A, 0x008 => d.aisCtrl u v.toNat
  | 0x0B, 0x008 => d.wbrCtrl v.toNat
  | 0x0F, 0x008 => d.stwCtrl v.toNat
  | 0x11, 0x008 => d.gsrForce (tb v.toNat 0)
  | _, _ => d.setReg b u o v

/-- Values that refuse the pair with INTEG: the slot count (R223), the scrub period (R423) and the spare lane (R492). -/
def twinBad (b u o v : Nat) : Bool :=
  match b, o with
  | 0x04, 0x110 => decide (v = 0 ∨ 512 < v)
  | 0x0C, 0x120 => decide (fld v 8 9 < 2 ∨ 256 < fld v 8 9)
  | 0x0A, 0x100 => decide (u < 8 ∧ 4 ≤ v ∧ v ≤ 6)
  | _, _ => false

/-- Does a word match the complement of the pending value, on the listed bits (R11, R635)? -/
def Device.twinMatches (d : Device) (b u o : Nat) (val : Word) : Bool :=
  decide ((val ^^^ ~~~d.twinPending b u o) &&& BitVec.ofNat 32 (regSpec b u o).mask = 0)

/-- The pending holder holds the effective value again. -/
def Device.twinReload (d : Device) (b u o : Nat) : Device := { d with twins := KMap.set d.twins (regKey b u o) none none }

/-- A write to the complement half at offset `c`: on a match the pending value becomes effective; else the pair is refused, the
holder is reloaded and the block raises INTEG (R11). -/
def Device.twinComplement (d : Device) (b u c : Nat) (val : Word) : Device :=
  let o := c - 4
  if c < 4 ∨ (regSpec b u o).acc ≠ .tw ∨ (regSpec b u c).acc ≠ .none_ then d
  else if !d.twinOpen b u then d
  else if d.twinMatches b u o val && !twinBad b u o (d.twinPending b u o).toNat then
    (d.twinReload b u o).twinCommit b u o (d.twinPending b u o)
  else (d.twinReload b u o).integ b u o

/-- TWIN_COMPLEMENT_WRITE. -/
def execTwinComplementWrite (page : Page) (off : Nat) (val : Word) (s : State) : Host.Outcome State Fault Refusal :=
  s.act (Instr.wf (.twinComplementWrite page off val)) (fun d => d.twinComplement page.block page.unit off val)

end Sys2Proof.Machine
end

