-- ==== Sys2Proof/Machine/Bar.lean ====
section
/-! DEFINITION. Writes at any offset of a page (R8, R9), REGISTER_WRITE, and the host's accesses: BAR0 with the page map, the windows and the
MSI-X table (R496, R497, R500, R501), and BAR2 (R498, R608). -/

namespace Sys2Proof.Machine

/-! ### Commands: registers that trigger an action (R9) -/

/-- WBR_STATS_ACK (R80). -/
def Device.statsAck (d : Device) (v : Nat) : Device :=
  let d1 := if tb v 0 then d.setB WBR 0 0x010 5 false else d
  if tb v 1 then d1.setB WBR 0 0x010 6 false else d1

/-- WBR_SWAP: writing both bits is a DISARM. -/
def Device.swapCmd (d : Device) (v : Nat) : Device := if tb v 1 then d.swapDisarm else if tb v 0 then d.swapArm else d

/-- FLOW_CMD (R431). -/
def Device.flowCmd (d : Device) (v : Nat) : Device :=
  match fld v 0 2 with
  | 0 => d.flowWrite
  | 1 => d.flowRead
  | _ => d

/-- STREAM_CMD (R448). -/
def Device.streamCmd (d : Device) (v : Nat) : Device :=
  match fld v 0 2 with
  | 0 => d.streamRead
  | 1 => d.streamReadClear
  | 2 => d.streamAdmit
  | _ => d.dismiss

/-- LOAD_CMD: with ABORT, a LOAD in the same write is dropped. -/
def Device.loadReg (d : Device) (v : Nat) : Device := if tb v 2 then d.abortLoad else if tb v 0 then d.loadCmd (tb v 1) else d

/-- WRD_CMD (R571). -/
def Device.wrdCmd (d : Device) (v : Nat) : Device :=
  match fld v 0 3 with
  | 0 => d.reportCmd
  | 1 => d.enroll
  | 2 => d.releaseOwner
  | 3 => d.commitSvn (tb v 4)
  | _ => d

/-- PMB_CMD: kinds 6 and 7 and a block read without a LEN of 1 to 8 start nothing. -/
def Device.pmbCmd (d : Device) (v : Nat) : Device :=
  let addr := BitVec.ofNat 7 v
  let code := BitVec.ofNat 8 (fld v 8 8)
  let pec := tb v 19
  match fld v 16 3 with
  | 0 => d.pmbStart 0 0 0 addr code pec
  | 1 => d.pmbStart 1 1 0 addr code pec
  | 2 => d.pmbStart 2 2 0 addr code pec
  | 3 => d.pmbStart 3 0 1 addr code pec
  | 4 => d.pmbStart 4 0 2 addr code pec
  | 5 => if 1 ≤ fld v 20 4 ∧ fld v 20 4 ≤ 8 then d.pmbStart 5 0 (fld v 20 4) addr code pec else d
  | _ => d

/-- RSV_CMD (R601). -/
def Device.rsvCmd (d : Device) (v : Nat) : Device :=
  match fld v 0 3 with
  | 0 => d.bist (fld v 4 4)
  | 1 => d.addCand
  | 2 => d.dropCand
  | _ => d

/-- RING_CMD (R511). -/
def Device.ringCmd (d : Device) (v : Nat) : Device :=
  match fld v 0 2 with
  | 0 => d.ringRead
  | 1 => d.ringWrite
  | 2 => d.ringEnable
  | _ => d.ringDisable

/-- A write to a WO register. -/
def Device.command (d : Device) (b u o : Nat) (val : Word) : Device :=
  let v := val.toNat
  match b, o with
  | 0x04, 0x158 => if tb v 0 then d.reportHalt 3 else d
  | 0x05, 0x110 => d.ptpStep val
  | 0x05, 0x124 => d.flowCmd v
  | 0x05, 0x184 => d.streamCmd v
  | 0x05, 0x300 => if tb v 0 then d.gateTdrStart else d
  | 0x06, 0x118 => if tb v 0 then d.segTdrStart u else d
  | 0x0B, 0x10C => d.statsAck v
  | 0x0B, 0x110 => d.swapCmd v
  | 0x0C, 0x110 => d.ldgSwCode (fld v 0 16)
  | 0x0D, 0x10C => d.loadReg v
  | 0x0D, 0x18C => d.wdogKick (BitVec.ofNat 16 v)
  | 0x0E, 0x100 => d.wrdCmd v
  | 0x0F, 0x280 => d.pmbCmd v
  | 0x10, 0x100 => d.rsvCmd v
  | 0x11, 0x140 => d.bankRelease (BitVec.ofNat 6 v)
  | 0x12, 0x114 => d.ringCmd v
  | _, _ => d

/-- A write at any offset of a page. -/
def Device.writeAt (d : Device) (b u o : Nat) (val : Word) : Device :=
  match (regSpec b u o).acc with
  | .tw => d.twinValue b u o val
  | .none_ => d.twinComplement b u o val
  | .wo => d.command b u o val
  | .rw => if b = GAT ∧ o = 0x214 then d.normHiC val else d.writeReg b u o val
  | _ => d.writeReg b u o val

/-- REGISTER_WRITE. -/
def execRegisterWrite (page : Page) (off : Nat) (val : Word) (s : State) : Host.Outcome State Fault Refusal :=
  s.act (Instr.wf (.registerWrite page off val)) (fun d => d.writeAt page.block page.unit off val)

/-! ### BAR0 -/

/-- The pages that BAR0 maps directly: base, block type, first instance, instances (R500). -/
def directPages : List (Nat × Nat × Nat × Nat) :=
  [(0x0000000, DIR, 0, 1), (0x0001000, HST, 0, 2), (0x0003000, BEL, 0, 1), (0x0004000, GAT, 0, 1), (0x0005000, CLK, 0, 1),
   (0x0006000, WBR, 0, 1), (0x0007000, LDG, 0, 1), (0x0008000, STH, 0, 1), (0x0009000, WRD, 0, 1), (0x000A000, STW, 0, 1)] ++
  [(0x000B000, RSV, 0, 1), (0x000C000, TRS, 0, 1), (0x0010000, CRI, 0, 4), (0x0018000, AIS, 0, 9), (0x0028000, DEP, 0, 17),
   (0x0040000, PRT, 0, 64), (0x0080000, BSK, 6400, 320)]

/-- The block type that a window shows (R501). -/
def windowBlock (sel : Nat) : Nat := if sel = 0 then STL else if sel = 1 then BSK else ARC

/-- The page at a BAR0 offset: block type and instance. -/
def Device.barPage (d : Device) (off : Nat) : Option (Nat × Nat) :=
  if 0x2700000 ≤ off then (if off < 0x2700000 + 6400 * 4096 then some (windowBlock (d.rf HST 0 0x100 2 2), (off - 0x2700000) / 4096) else none)
  else if 0xE00000 ≤ off then some (windowBlock (d.rf HST 0 0x100 0 2), (off - 0xE00000) / 4096)
  else (directPages.find? (fun e => decide (e.1 ≤ off ∧ off < e.1 + e.2.2.2 * 4096))).map (fun e => (e.2.1, e.2.2.1 + (off - e.1) / 4096))

/-- Is an offset in the MSI-X table, or in the pending-bit array? -/
def inMsixTable (off : Nat) : Bool := decide (0x200000 ≤ off ∧ off < 0x208000)
def inPba (off : Nat) : Bool := decide (0x208000 ≤ off ∧ off < 0x208100)

/-- A dword of the MSI-X table (PCI Local Bus form: address, data, vector control; masked at reset, assumption 21). -/
def Device.msixDword (d : Device) (i : Nat) : Word := KMap.get d.host.msix i (if i % 4 = 3 then 1 else 0)

/-- A write to the table; a vector that is unmasked sends the message it held pending (R494). -/
def Device.msixWrite (d : Device) (i : Nat) (val : Word) : Device :=
  let v := if i % 4 = 0 then val &&& ~~~3#32 else if i % 4 = 3 then val &&& 1#32 else val
  let d1 := { d with host := { d.host with msix := KMap.set d.host.msix i v (if i % 4 = 3 then 1 else 0) } }
  if i % 4 = 3 ∧ v = 0 ∧ i / 4 ∈ d1.host.pba then
    ({ d1 with host := { d1.host with pba := dropAll (i / 4) d1.host.pba } }).emit (.msix (i / 4))
  else d1

/-- BAD_ACCESS (R497). -/
def Device.badAccess (d : Device) (off : Nat) : Device := ((d.setN HST 0 0x104 off).raise HST 0 2).log 0xB307 HST 0 0 off

/-- An aligned 4-byte read. -/
def Device.barRead (d : Device) (off : Nat) : Device :=
  if inMsixTable off then d.answer (d.msixDword ((off - 0x200000) / 4)).toNat
  else if inPba off then d.answer (bitSet d.host.pba (32 * ((off - 0x208000) / 4)))
  else match d.barPage off with
    | some (b, u) => d.readWith .host b u (off % 4096)
    | none => d.answer 0

/-- An aligned 4-byte write. -/
def Device.barWrite (d : Device) (off : Nat) (val : Word) : Device :=
  if inMsixTable off then d.msixWrite ((off - 0x200000) / 4) val
  else match d.barPage off with
    | some (b, u) => d.writeAt b u (off % 4096) val
    | none => d

/-- BAR0_ACCESS: only aligned 4-byte accesses; of any other, a read returns 0 and a write is discarded (R497). -/
def Device.bar0 (d : Device) (off size : Nat) (write : Bool) (val : Word) : Device :=
  if size ≠ 4 ∨ off % 4 ≠ 0 then (if write then d.badAccess off else (d.badAccess off).answer 0)
  else if write then d.barWrite off val else d.barRead off

def execBar0Access (off : Nat) (size : Nat) (write : Bool) (val : Word) (s : State) : Host.Outcome State Fault Refusal :=
  s.act (Instr.wf (.bar0Access off size write val)) (fun d => d.bar0 off size write val)

/-! ### BAR2 (R498) -/

/-- POISON_ADDR of the last poisoned access. -/
def Device.poisonAt (d : Device) (off : Nat) (write : Bool) : Device := (d.setN HST 0 0x108 off).setN HST 0 0x10C (b2n write)

/-- BAR2_READ: the data bits as stored; poisoned when a lane is spoiled or uncorrectable. During boot it returns 0 (R608). -/
def Device.bar2Get (d : Device) (off n : Nat) : Device :=
  if d.boot.booting then { d with reply := { value := 0, bytes := List.replicate n 0, poisoned := false } }
  else
    let r := d.depotReadBytes off n
    let d1 := if r.2.1 then (((r.2.2.count32 HST 0 0x03C).poisonAt off false).raise HST 0 3).log 0xB302 HST 0 0 off else r.2.2
    { d1 with reply := { value := leNat r.1, bytes := r.1, poisoned := r.2.1 } }

def execBar2Read (off : Nat) (n : Nat) (s : State) : Host.Outcome State Fault Refusal :=
  s.act (Instr.wf (.bar2Read off n)) (fun d => d.bar2Get off n)

/-- BAR2_WRITE: a poisoned write is stored spoiled in every lane it covers. During boot it is discarded (R608). -/
def Device.bar2Put (d : Device) (off : Nat) (bytes : List Byte) (poisoned : Bool) : Device :=
  if d.boot.booting then d
  else
    let d1 := d.depotWrite off bytes poisoned
    if poisoned then ((d1.poisonAt off true).raise HST 0 4).log 0xB303 HST 0 0 off else d1

def execBar2Write (off : Nat) (bytes : List Byte) (poisoned : Bool) (s : State) : Host.Outcome State Fault Refusal :=
  s.act (Instr.wf (.bar2Write off bytes poisoned)) (fun d => d.bar2Put off bytes poisoned)

end Sys2Proof.Machine
end

