-- ==== Sys2Proof/Machine/Dispatch.lean ====
section
/-! DEFINITION. One arm per command: a direct call of its meaning. -/

namespace Sys2Proof.Machine

def exec (i : Instr) (s : State) : Host.Outcome State Fault Refusal :=
  match i with
  | .registerWrite page off val => Sys2Proof.Machine.execRegisterWrite page off val s
  | .rcCounterRead who page off => Sys2Proof.Machine.execRcCounterRead who page off s
  | .faultBitClear page => Sys2Proof.Machine.execFaultBitClear page s
  | .twinValueWrite page off val => Sys2Proof.Machine.execTwinValueWrite page off val s
  | .twinComplementWrite page off val => Sys2Proof.Machine.execTwinComplementWrite page off val s
  | .runStart => Sys2Proof.Machine.execRunStart s
  | .runStop => Sys2Proof.Machine.execRunStop s
  | .swHush on => Sys2Proof.Machine.execSwHush on s
  | .belCountLoRead who => Sys2Proof.Machine.execBelCountLoRead who s
  | .bell => Sys2Proof.Machine.execBell s
  | .guardDecision => Sys2Proof.Machine.execGuardDecision s
  | .slotStart slot => Sys2Proof.Machine.execSlotStart slot s
  | .hushRequestStart src => Sys2Proof.Machine.execHushRequestStart src s
  | .hushRequestEnd src => Sys2Proof.Machine.execHushRequestEnd src s
  | .hushEnter => Sys2Proof.Machine.execHushEnter s
  | .hushLeave => Sys2Proof.Machine.execHushLeave s
  | .hushTimeout => Sys2Proof.Machine.execHushTimeout s
  | .belHalt => Sys2Proof.Machine.execBelHalt s
  | .deadlock => Sys2Proof.Machine.execDeadlock s
  | .nop p => Sys2Proof.Machine.execNop p s
  | .mac8 p => Sys2Proof.Machine.execMac8 p s
  | .mac4 p => Sys2Proof.Machine.execMac4 p s
  | .wmac p => Sys2Proof.Machine.execWmac p s
  | .dwmac p => Sys2Proof.Machine.execDwmac p s
  | .pmax p => Sys2Proof.Machine.execPmax p s
  | .wxf p => Sys2Proof.Machine.execWxf p s
  | .wadv p => Sys2Proof.Machine.execWadv p s
  | .pfill p => Sys2Proof.Machine.execPfill p s
  | .latch p => Sys2Proof.Machine.execLatch p s
  | .rsc p => Sys2Proof.Machine.execRsc p s
  | .mov p => Sys2Proof.Machine.execMov p s
  | .ldi p => Sys2Proof.Machine.execLdi p s
  | .alu p => Sys2Proof.Machine.execAlu p s
  | .addi p => Sys2Proof.Machine.execAddi p s
  | .br p => Sys2Proof.Machine.execBr p s
  | .g8p p => Sys2Proof.Machine.execG8p p s
  | .m8u p => Sys2Proof.Machine.execM8u p s
  | .v8u p => Sys2Proof.Machine.execV8u p s
  | .wupd p => Sys2Proof.Machine.execWupd p s
  | .get p => Sys2Proof.Machine.execGet p s
  | .put p => Sys2Proof.Machine.execPut p s
  | .gett p => Sys2Proof.Machine.execGett p s
  | .djnz p => Sys2Proof.Machine.execDjnz p s
  | .brcmp p => Sys2Proof.Machine.execBrcmp p s
  | .maskedFiring p => Sys2Proof.Machine.execMaskedFiring p s
  | .planeFillDone p => Sys2Proof.Machine.execPlaneFillDone p s
  | .latchFillDone p => Sys2Proof.Machine.execLatchFillDone p s
  | .winogradTransformDone p wg => Sys2Proof.Machine.execWinogradTransformDone p wg s
  | .outputPush p d => Sys2Proof.Machine.execOutputPush p d s
  | .contextSwitch p => Sys2Proof.Machine.execContextSwitch p s
  | .slotToken p b => Sys2Proof.Machine.execSlotToken p b s
  | .limitToken p b => Sys2Proof.Machine.execLimitToken p b s
  | .armToken p b => Sys2Proof.Machine.execArmToken p b s
  | .genToken p b => Sys2Proof.Machine.execGenToken p b s
  | .voidToken p b => Sys2Proof.Machine.execVoidToken p b s
  | .invalidToken p b => Sys2Proof.Machine.execInvalidToken p b s
  | .tokenForward p => Sys2Proof.Machine.execTokenForward p s
  | .drainPop p => Sys2Proof.Machine.execDrainPop p s
  | .lbFeedStep p => Sys2Proof.Machine.execLbFeedStep p s
  | .laneArrive dest => Sys2Proof.Machine.execLaneArrive dest s
  | .creditReturn p d line => Sys2Proof.Machine.execCreditReturn p d line s
  | .spillWrite p b => Sys2Proof.Machine.execSpillWrite p b s
  | .tagWrite p b => Sys2Proof.Machine.execTagWrite p b s
  | .ringRead p b => Sys2Proof.Machine.execRingRead p b s
  | .tagRead p b => Sys2Proof.Machine.execTagRead p b s
  | .swapArm => Sys2Proof.Machine.execSwapArm s
  | .swapDisarm => Sys2Proof.Machine.execSwapDisarm s
  | .swapCheckDone => Sys2Proof.Machine.execSwapCheckDone s
  | .wbrStatsAckRel0 => Sys2Proof.Machine.execWbrStatsAckRel0 s
  | .wbrStatsAckRel1 => Sys2Proof.Machine.execWbrStatsAckRel1 s
  | .statsReady => Sys2Proof.Machine.execStatsReady s
  | .load => Sys2Proof.Machine.execLoad s
  | .loadFull => Sys2Proof.Machine.execLoadFull s
  | .abort => Sys2Proof.Machine.execAbort s
  | .loadReady img => Sys2Proof.Machine.execLoadReady img s
  | .stallSwitch p => Sys2Proof.Machine.execStallSwitch p s
  | .stallWritten p => Sys2Proof.Machine.execStallWritten p s
  | .fullLoadWriteDone => Sys2Proof.Machine.execFullLoadWriteDone s
  | .loadFailed ch => Sys2Proof.Machine.execLoadFailed ch s
  | .porterGo ch => Sys2Proof.Machine.execPorterGo ch s
  | .descriptorStart ch => Sys2Proof.Machine.execDescriptorStart ch s
  | .descriptorEnd ch => Sys2Proof.Machine.execDescriptorEnd ch s
  | .porterMove ch => Sys2Proof.Machine.execPorterMove ch s
  | .lateData ch => Sys2Proof.Machine.execLateData ch s
  | .verdictDeliver ch => Sys2Proof.Machine.execVerdictDeliver ch s
  | .perBankRefresh chan bank => Sys2Proof.Machine.execPerBankRefresh chan bank s
  | .patrolRead addr => Sys2Proof.Machine.execPatrolRead addr s
  | .scrubRead loc => Sys2Proof.Machine.execScrubRead loc s
  | .ledgerEntryWrite => Sys2Proof.Machine.execLedgerEntryWrite s
  | .ldgSwCode code => Sys2Proof.Machine.execLdgSwCode code s
  | .ethernetFrameReceive port frame => Sys2Proof.Machine.execEthernetFrameReceive port frame s
  | .reorderTimeout stream => Sys2Proof.Machine.execReorderTimeout stream s
  | .decodeDone stream set pic => Sys2Proof.Machine.execDecodeDone stream set pic s
  | .engineFault engine => Sys2Proof.Machine.execEngineFault engine s
  | .frameComplete stream => Sys2Proof.Machine.execFrameComplete stream s
  | .flowWrite => Sys2Proof.Machine.execFlowWrite s
  | .flowRead => Sys2Proof.Machine.execFlowRead s
  | .streamRead => Sys2Proof.Machine.execStreamRead s
  | .streamReadClear => Sys2Proof.Machine.execStreamReadClear s
  | .streamAdmit => Sys2Proof.Machine.execStreamAdmit s
  | .dismiss => Sys2Proof.Machine.execDismiss s
  | .streamBuffersReleased stream => Sys2Proof.Machine.execStreamBuffersReleased stream s
  | .normHiCWrite val => Sys2Proof.Machine.execNormHiCWrite val s
  | .ptpStepNs val => Sys2Proof.Machine.execPtpStepNs val s
  | .ptpTimeLoRead who => Sys2Proof.Machine.execPtpTimeLoRead who s
  | .gateTdrStart => Sys2Proof.Machine.execGateTdrStart s
  | .gateTdrDone pairs => Sys2Proof.Machine.execGateTdrDone pairs s
  | .linkChange port up speed => Sys2Proof.Machine.execLinkChange port up speed s
  | .crierFrameQueue seg => Sys2Proof.Machine.execCrierFrameQueue seg s
  | .crierTransmit seg sent => Sys2Proof.Machine.execCrierTransmit seg sent s
  | .segmentFrameReceive seg frame => Sys2Proof.Machine.execSegmentFrameReceive seg frame s
  | .plcaOpportunity seg node => Sys2Proof.Machine.execPlcaOpportunity seg node s
  | .dupId seg node => Sys2Proof.Machine.execDupId seg node s
  | .beaconLost seg => Sys2Proof.Machine.execBeaconLost seg s
  | .segmentTdrStart seg => Sys2Proof.Machine.execSegmentTdrStart seg s
  | .termFault seg term dist => Sys2Proof.Machine.execTermFault seg term dist s
  | .flitReceive link flit => Sys2Proof.Machine.execFlitReceive link flit s
  | .replaySlow link => Sys2Proof.Machine.execReplaySlow link s
  | .linkDown link reason => Sys2Proof.Machine.execLinkDown link reason s
  | .linkSilentTimeout link => Sys2Proof.Machine.execLinkSilentTimeout link s
  | .cellSend link pos => Sys2Proof.Machine.execCellSend link pos s
  | .receiveQueueDrain chan => Sys2Proof.Machine.execReceiveQueueDrain chan s
  | .hushStart link => Sys2Proof.Machine.execHushStart link s
  | .hushEnd link => Sys2Proof.Machine.execHushEnd link s
  | .bellMessage link => Sys2Proof.Machine.execBellMessage link s
  | .upReady link => Sys2Proof.Machine.execUpReady link s
  | .upHalt link => Sys2Proof.Machine.execUpHalt link s
  | .decideMsg link => Sys2Proof.Machine.execDecideMsg link s
  | .discover link => Sys2Proof.Machine.execDiscover link s
  | .eqReq link => Sys2Proof.Machine.execEqReq link s
  | .bellMiss => Sys2Proof.Machine.execBellMiss s
  | .linkTrain link => Sys2Proof.Machine.execLinkTrain link s
  | .linkUp link res => Sys2Proof.Machine.execLinkUp link res s
  | .bar0Access off size write val => Sys2Proof.Machine.execBar0Access off size write val s
  | .bar2Read off n => Sys2Proof.Machine.execBar2Read off n s
  | .bar2Write off bytes poisoned => Sys2Proof.Machine.execBar2Write off bytes poisoned s
  | .winSelWrite val => Sys2Proof.Machine.execWinSelWrite val s
  | .doorbellWrite off val => Sys2Proof.Machine.execDoorbellWrite off val s
  | .parkedDoorbellsApply => Sys2Proof.Machine.execParkedDoorbellsApply s
  | .ringWrite => Sys2Proof.Machine.execRingWrite s
  | .ringEnable => Sys2Proof.Machine.execRingEnable s
  | .ringDisable => Sys2Proof.Machine.execRingDisable s
  | .ringCoalesceTimeout ring => Sys2Proof.Machine.execRingCoalesceTimeout ring s
  | .hostReset kind => Sys2Proof.Machine.execHostReset kind s
  | .hrbBusyBegin => Sys2Proof.Machine.execHrbBusyBegin s
  | .hrbBusyEnd => Sys2Proof.Machine.execHrbBusyEnd s
  | .attentionPulse => Sys2Proof.Machine.execAttentionPulse s
  | .trestleStreamWritten => Sys2Proof.Machine.execTrestleStreamWritten s
  | .configDone => Sys2Proof.Machine.execConfigDone s
  | .gsrForce on => Sys2Proof.Machine.execGsrForce on s
  | .userIrq line => Sys2Proof.Machine.execUserIrq line s
  | .bankVccioSample bank reading => Sys2Proof.Machine.execBankVccioSample bank reading s
  | .bankRelease banks => Sys2Proof.Machine.execBankRelease banks s
  | .trestlePortWord tp word => Sys2Proof.Machine.execTrestlePortWord tp word s
  | .crierTxFrame tp words => Sys2Proof.Machine.execCrierTxFrame tp words s
  | .verify obj => Sys2Proof.Machine.execVerify obj s
  | .report => Sys2Proof.Machine.execReport s
  | .enroll => Sys2Proof.Machine.execEnroll s
  | .release => Sys2Proof.Machine.execRelease s
  | .commitSvn target => Sys2Proof.Machine.execCommitSvn target s
  | .resigned => Sys2Proof.Machine.execResigned s
  | .railSample rail reading => Sys2Proof.Machine.execRailSample rail reading s
  | .droopDetect rail => Sys2Proof.Machine.execDroopDetect rail s
  | .droopRecover rail => Sys2Proof.Machine.execDroopRecover rail s
  | .droopLong rail => Sys2Proof.Machine.execDroopLong rail s
  | .thermalSample temps => Sys2Proof.Machine.execThermalSample temps s
  | .throttlePeriodStart => Sys2Proof.Machine.execThrottlePeriodStart s
  | .throttleRequestEnd => Sys2Proof.Machine.execThrottleRequestEnd s
  | .pmbSendByte addr code pec => Sys2Proof.Machine.execPmbSendByte addr code pec s
  | .pmbWriteByte addr code pec => Sys2Proof.Machine.execPmbWriteByte addr code pec s
  | .pmbWriteWord addr code pec => Sys2Proof.Machine.execPmbWriteWord addr code pec s
  | .pmbReadByte addr code pec => Sys2Proof.Machine.execPmbReadByte addr code pec s
  | .pmbReadWord addr code pec => Sys2Proof.Machine.execPmbReadWord addr code pec s
  | .pmbBlockRead addr code pec len => Sys2Proof.Machine.execPmbBlockRead addr code pec len s
  | .pmbDone res => Sys2Proof.Machine.execPmbDone res s
  | .pmbAlert => Sys2Proof.Machine.execPmbAlert s
  | .poll words => Sys2Proof.Machine.execPoll words s
  | .bist scope => Sys2Proof.Machine.execBist scope s
  | .bistDone units => Sys2Proof.Machine.execBistDone units s
  | .add => Sys2Proof.Machine.execAdd s
  | .drop => Sys2Proof.Machine.execDrop s
  | .wearCount osc count => Sys2Proof.Machine.execWearCount osc count s
  | .reserveReload => Sys2Proof.Machine.execReserveReload s
  | .reserveRecordWrite ok => Sys2Proof.Machine.execReserveRecordWrite ok s
  | .powerOnReset => Sys2Proof.Machine.execPowerOnReset s
  | .perstAssert => Sys2Proof.Machine.execPerstAssert s
  | .perstRelease straps => Sys2Proof.Machine.execPerstRelease straps s
  | .pllLockBoot inp => Sys2Proof.Machine.execPllLockBoot inp s
  | .supplyHold => Sys2Proof.Machine.execSupplyHold s
  | .bootFirmwareStart owner reserve => Sys2Proof.Machine.execBootFirmwareStart owner reserve s
  | .storehouseTrained gib => Sys2Proof.Machine.execStorehouseTrained gib s
  | .prepDone => Sys2Proof.Machine.execPrepDone s
  | .wdogKick key => Sys2Proof.Machine.execWdogKick key s
  | .watchdogExpire => Sys2Proof.Machine.execWatchdogExpire s
  | .stockModeStart => Sys2Proof.Machine.execStockModeStart s
  | .dhcpFallback => Sys2Proof.Machine.execDhcpFallback s
  | .stockAdmit stream pt => Sys2Proof.Machine.execStockAdmit stream pt s
  | .stockStreamIdle stream => Sys2Proof.Machine.execStockStreamIdle stream s
  | .jtagUpdateIr code => Sys2Proof.Machine.execJtagUpdateIr code s
  | .tapReset => Sys2Proof.Machine.execTapReset s
  | .bellZeroAtGrid => Sys2Proof.Machine.execBellZeroAtGrid s
  | .ethernetFrameTransmit port bytes ptpEvent => Sys2Proof.Machine.execEthernetFrameTransmit port bytes ptpEvent s
  | .pcieLink speed width => Sys2Proof.Machine.execPcieLink speed width s
  | .storehouseDerate on => Sys2Proof.Machine.execStorehouseDerate on s
  | .laneLosesLock link lane => Sys2Proof.Machine.execLaneLosesLock link lane s
  | .captureIr => Sys2Proof.Machine.execCaptureIr s

end Sys2Proof.Machine
end

