-- ==== Sys2Proof/Machine/Tick.lean ====
section
/-! DEFINITION. One cycle of MCLK: what the clock alone makes happen while no command waits (a design choice: the step of an empty queue). The
commands of a cycle come before its tick. -/

namespace Sys2Proof.Machine

/-! ### The stalls -/

/-- With an empty ring, the spill queue's head moves straight into a chain that has room, in a cycle without another refill (R184). The basket is
ready for the accesses of the next cycle. -/
def Basket.slide (k : Basket) (now : Nat) : Basket :=
  let k0 := { k with refilled := false, wrote := false, popped := false }
  match k.spill with
  | [] => k0
  | h :: rest =>
    if k.ringCount = 0 ∧ k.chain.length < 8 ∧ k.refilled = false then { k0 with chain := k.chain ++ [⟨h.w, now, true⟩], spill := rest } else k0

/-- SPILL_MAX of a stall's baskets, as the spill queues stand at the end of the cycle (R182, R188, R213). -/
def Device.spillMarks (d : Device) (p : Nat) : Device :=
  (List.range 4).foldl (fun a b =>
    let n := ((a.stall p).basket b).spill.length
    if n ≤ a.regN BSK p (0x114 + 0x20 * b) then a else a.maxRC BSK p (0x114 + 0x20 * b) n) d

/-- The level watch of one basket (R192, R193): `was` and `is` are its depths at the start of this cycle and of the next. -/
def Device.levelWatch (d : Device) (u b was is : Nat) : Device :=
  let level := d.rf BSK u (0x108 + 0x20 * b) 0 12
  if level ≠ 0 ∧ was < level ∧ level ≤ is then (d.raise BSK u b).bumpBy BSK u (0x10C + 0x20 * b) 255 1 else d

/-- The levels of the four baskets of a stall. -/
def Device.stallLevels (d : Device) (p : Nat) : Device :=
  (List.range 4).foldl (fun a b =>
    let k := (a.stall p).basket b
    if k.depth0 = k.depth then a else (a.levelWatch p b k.depth0 k.depth).setBasket p b { k with depth0 := k.depth }) d

/-- The level of an egress basket. -/
def Device.egressLevel (d : Device) (e : Nat) : Device :=
  let x := d.egress e
  if x.depth0 = x.depth then d
  else (d.levelWatch (6400 + e) 0 x.depth0 x.depth).setEgress e { x with depth0 := x.depth }

/-- What the next cycle finds: the baskets, the limits and ARM values as they are now, the outputs free to push again. -/
def Stall.nextCycle (s : Stall) (now : Nat) : Stall :=
  { s with baskets := s.baskets.map (fun k => k.slide now), pushed := []
           ctxs := s.ctxs.map (fun c => { c with limitsWas := none, armWas := none }) }

/-- What a stall does at the end of an unhushed cycle: the accesses to its store by priority, the stages of its pipeline, its baskets. -/
def Device.stallTick (d : Device) (p : Nat) : Device :=
  ((((((d.runPrio2 p).latchFillTick p).planeFillTick p).runStages p).updStall p (fun s => s.nextCycle d.work)).spillMarks p).stallLevels p

/-- The end of any cycle, hushed or not: the banks are free again, and a fault of this cycle has closed the stall (R106, R164, R211). -/
def Stall.cycleEnd (s : Stall) : Stall :=
  if s.banks.isEmpty && !s.faulting then s else { s with banks := [], faulted := s.faulted || s.faulting, faulting := false }

/-! ### The edges -/

/-- Does an ingress porter still have slots before `seq` whose data go to an edge position? -/
def Device.edgeOwes (d : Device) (e seq : Nat) : Bool :=
  d.rotaChans.any (fun kc => (kc.2.run.toList ++ kc.2.due).any (fun r =>
    decide (r.seq < seq) && kc.2.program.any (fun x => dIn x r.slot && decide (dDsp x = 4 ∧ dstAddr x r.slot % 320 = e))))

/-- One SLOT token goes in at an edge position, as soon as its FIFO has room (R224). -/
def Device.pushToken (d : Device) (e : Nat) : Device :=
  match KMap.get d.arcade.edgeTokens e [] with
  | [] => d
  | t :: rest =>
    if !d.edgeRoom e then d
    else ({ d with arcade := { d.arcade with edgeTokens := KMap.put d.arcade.edgeTokens e rest } }).edgePush e t.2

/-- One GEN token goes in, once nothing of the old image waits there (R325). -/
def Device.pushGen (d : Device) (e : Nat) : Device :=
  match KMap.get d.arcade.edgeGens e [] with
  | [] => d
  | t :: rest =>
    if !d.edgeRoom e || !(KMap.get d.arcade.edgeTokens e []).isEmpty || d.edgeOwes e (512 * (d.bell.count + 1)) then d
    else ({ d with arcade := { d.arcade with edgeGens := KMap.put d.arcade.edgeGens e rest } }).edgePush e t

/-- Tokens of every edge position: at most one in a cycle. -/
def Device.edgeTick (d : Device) : Device :=
  let d1 := (d.arcade.edgeGens.map (fun kv => kv.1)).foldl (fun a e => a.pushGen e) d
  (d.arcade.edgeTokens.map (fun kv => kv.1)).foldl (fun a e =>
    if KMap.get d1.arcade.edgeGens e [] = KMap.get d.arcade.edgeGens e [] then a.pushToken e else a) d1

/-! ### Credits -/

/-- Credits of porters, Aisle receivers and stream ports that are due (R175); those of lanes come by CREDIT_RETURN. -/
def Device.edgeCredits (d : Device) : Device :=
  let due := fun (c : CreditFlight) => match c.prod with | .lane _ _ _ => false | _ => decide (c.due ≤ d.work)
  (d.arcade.credits.filter due).foldl (fun a c => a.creditIn c.prod)
    { d with arcade := { d.arcade with credits := d.arcade.credits.filter (fun c => !due c) } }

/-! ### Counters -/

/-- Is a context inside a body or draining (R251)? -/
def Device.anyBody (d : Device) : Bool :=
  d.stalls.any (fun e => e.2.ctxs.any (fun c => c.inBody || !c.draining.isEmpty))

/-- The deadlock watchdog in an unhushed cycle (R251). -/
def Device.dlTick (d : Device) : Device :=
  let n := if d.bell.firedNow || !d.rb BEL 0 0x008 4 then 0 else d.bell.dl + b2n d.anyBody
  { d with bell := { d.bell with dl := n, firedNow := false } }

/-- The cycles of the bell and of the hush (R217, R231, R234, R391). -/
def Device.bellTick (d : Device) : Device :=
  let d1 := if d.bellsRing then d.setN BEL 0 0x128 (satAdd 0xFFFFFF (d.rf BEL 0 0x128 0 24) 1) else d
  let d2 := if d.bell.hushed then d1.setN BEL 0 0x130 (satAdd 0xFFFFFF (d.rf BEL 0 0x130 0 24) 1) else d1
  let d3 := d.bell.reqs.foldl (fun a s => a.count32 BEL 0 (0x180 + 4 * s)) d2
  let d4 := if 4 ∈ d.bell.reqs then d.lateChans.foldl (fun a c => a.count32 PRT c 0x034) d3 else d3
  let b := d4.bell
  let own := b.hushed && !(ownOf (b.delay.getD 2 [])).isEmpty
  { d4 with bell := { b with delay := d.asking :: b.delay.take 2, hushRun := if own then b.hushRun + 1 else 0 } }

/-- PTP time: two cycles of the 400 MHz PTP clock in one of MCLK (R428). -/
def Device.ptpTick (d : Device) : Device :=
  let t := d.gate.ptpFrac + 2 * (d.rf GAT 0 0x108 0 4 * 2 ^ 32 + d.regN GAT 0 0x10C)
  { d with gate := { d.gate with ptpNs := (d.gate.ptpNs + t / 2 ^ 32) % 2 ^ 64, ptpFrac := t % 2 ^ 32 } }

/-- The Clerk watchdog: 200,000 cycles make a millisecond (R609). -/
def Device.wdogTick (d : Device) : Device :=
  if d.rf CLK 0 0x188 0 16 = 0 then d
  else if 200000 ≤ d.boot.wdogCycles + 1 then { d with boot := { d.boot with wdog := d.boot.wdog + 1, wdogCycles := 0 } }
  else { d with boot := { d.boot with wdogCycles := d.boot.wdogCycles + 1 } }

/-- Firmware takes one frame of the Clerk's receive queue. -/
def Device.clerkTick (d : Device) : Device :=
  if !d.boot.firmware then d
  else match d.gate.clerkQueue with
    | _ :: rest => { d with gate := { d.gate with clerkQueue := rest } }
    | [] => { d with gate := { d.gate with segQueue := d.gate.segQueue.drop 1 } }

/-- The attention pulse and the time that HRB has been high (R508). -/
def Device.hrbTick (d : Device) : Device :=
  if d.host.pulse = 1 then ({ d with host := { d.host with pulse := 0 } }).setHrb true
  else { d with host := { d.host with pulse := d.host.pulse - 1, highFor := if d.host.hrbHigh then min 800 (d.host.highFor + 1) else 0 } }

/-! ### The cycle -/

/-- What an unhushed cycle does to the Square (R104, R205). -/
def Device.squareTick (d : Device) : Device :=
  if d.bell.hushed then d
  else
    let d1 := (d.stalls.map (fun kv => kv.1)).foldl (fun a p => a.stallTick p) d.edgeTick
    let d2 := ((d1.arcade.egress.map (fun kv => kv.1)).foldl (fun a e => a.egressLevel e) d1).dlTick
    ({ d2 with work := d2.work + 1, arcade := { d2.arcade with wheel := (d2.arcade.wheel + 1) % 16, credited := [] } }).edgeCredits

/-- The next cycle begins. -/
def Device.advance (d : Device) : Device :=
  { d with
    now := d.now + 1, fresh := [], newFaults := [], stalls := d.stalls.map (fun e => (e.1, e.2.cycleEnd))
    gate := { d.gate with flowWas := none }, trestle := { d.trestle with movedNow := [] }, host := { d.host with sumSeen := 0 } }

/-- One cycle; before the clock runs (R611), and in reset, nothing happens. -/
def Device.tick (d : Device) : Device :=
  if d.boot.held || !d.boot.romDone then d
  else (((((d.flitTick).squareTick.bellTick).ptpTick.wdogTick).clerkTick).throttleCycle.hrbTick).settle.advance.stewardTick.collideTick.syncRemote

end Sys2Proof.Machine
end

