-- ==== Sys2Proof/Safety.lean ====
section
/-! DEFINITION. What counts as a safe step and a safe run, and the terms in which statements speak of a command: that it answers, what
it leaves alone, and when the instruction that is due on a stall issues. -/

namespace Sys2Proof.Machine

/-- A step is safe when it answers a next state. -/
def State.Safe (s : State) : Prop := ∃ t, step s = .next t

/-- A run of `n` steps is safe when each of its steps is. -/
def State.SafeFor : Nat → State → Prop
  | 0, _ => True
  | n + 1, s => ∃ t, step s = .next t ∧ State.SafeFor n t

/-- The command answers a next state with the same commands waiting, and `P` holds of its device. -/
def Answers (c : Instr) (s : State) (P : Device → Prop) : Prop :=
  ∃ t, exec c s = .next t ∧ t.pending = s.pending ∧ P t.dev

/-- Every register but the listed ones, by block type, instance and offset, holds what it held. -/
def SameRegsBut (l : List (Nat × Nat × Nat)) (d e : Device) : Prop :=
  ∀ b u o, u < 8192 → o < 4096 → (b, u, o) ∉ l → e.reg b u o = d.reg b u o

/-- Every word of the stall stores, of their program stores, of the Depot, of the Storehouse and of the Clerk SRAM reads as it did. -/
def SameMemory (d e : Device) : Prop :=
  (∀ p wa, e.storeCode p wa = d.storeCode p wa) ∧ (∀ i, KMap.get e.prog i 0 = KMap.get d.prog i 0)
    ∧ (∀ pb word lane, e.depotCode pb word lane = d.depotCode pb word lane)
    ∧ (∀ a, KMap.get e.sth.mem a 0 = KMap.get d.sth.mem a 0) ∧ (∀ i, KMap.get e.clerk i 0 = KMap.get d.clerk i 0)

/-- The instruction that is due on stall `p` has opcode `op`: the word `w` at the PC of the current context `k`, whose record is `r`.
It may issue, and it is neither masked nor refused (R111, R113, R134, R155, R156). -/
structure IssueDue (d : Device) (p op k : Nat) (r : CtxRecord) (w : Nat) : Prop where
  lt : k < 8
  cur : (d.stall p).cur = k
  used : ((d.stall p).ctx k).rec_ = some r
  may : d.mayIssue p = true
  par : parityOf 33 (d.fetched p) = false
  word : d.fetched p % 2 ^ 32 = w
  code : fOp w = op
  bound : d.boundBroken p k r (d.pc p k) = false
  unmasked : d.masked p k r (d.pc p k) = false

/-- The instruction names nothing that makes it wait or fail, and the banks it reads in its issue cycle are free (R106, R135, R142). -/
def Goes (d : Device) (p k : Nat) (r : CtxRecord) (n : Needs) : Prop :=
  d.judge p k r n = .go ∧ (n.now_ = false ∨ (d.claimOperands p (n.operands r)).1 = true)

/-- The device after the instruction has taken the banks it reads in its issue cycle. -/
def Device.afterClaim (d : Device) (p : Nat) (r : CtxRecord) (n : Needs) : Device :=
  if n.now_ then (d.claimOperands p (n.operands r)).2 else d

/-- Of the registers only the listed ones differ, and no memory does. -/
def Only (l : List (Nat × Nat × Nat)) (d e : Device) : Prop := SameRegsBut l d e ∧ SameMemory d e

/-- Every stall but `p` is as it was. -/
def OtherStalls (p : Nat) (d e : Device) : Prop := ∀ q, q ≠ p → e.stall q = d.stall q

/-- The baskets and output queues of a stall, its result writes and its later reads are as they were. -/
def SameQueues (p : Nat) (d e : Device) : Prop :=
  (e.stall p).baskets = (d.stall p).baskets ∧ (e.stall p).outq = (d.stall p).outq ∧ (e.stall p).landing = (d.stall p).landing
    ∧ (e.stall p).reads = (d.stall p).reads

/-- What feeds the array of a stall is as it was: its planes, its window, its transform buffers, its latch. -/
def SameFeeds (p : Nat) (d e : Device) : Prop :=
  (e.stall p).planes = (d.stall p).planes ∧ (e.stall p).window = (d.stall p).window ∧ (e.stall p).tb = (d.stall p).tb
    ∧ (e.stall p).latch = (d.stall p).latch

/-- The accumulators of a stall are as they were. -/
def SameAccs (p : Nat) (d e : Device) : Prop := (e.stall p).accs = (d.stall p).accs ∧ (e.stall p).accSpoil = (d.stall p).accSpoil

/-- Nothing of the machine but registers, the queue of the interrupt messages and what leaves the chip differs: the stalls, the porters and the bell are
as they were. -/
def SameSquare (d e : Device) : Prop := e.stalls = d.stalls ∧ e.arcade = d.arcade ∧ e.chans = d.chans ∧ e.bell = d.bell

/-- The registers of a fault and of the events of a page. -/
def eventRegs (b u : Nat) : List (Nat × Nat × Nat) := [(b, u, 0x014), (b, u, 0x020), (b, u, 0x024), (b, u, 0x028)]

/-- The registers that the issue of any instruction of a context writes: its PC, its FIRE_COUNT and its loop counters. -/
def issueRegs (p k : Nat) : List (Nat × Nat × Nat) :=
  [(STL, p, 0x1E0 + 4 * k), (STL, p, 0x180 + 4 * k), (STL, p, 0x400 + 16 * k), (STL, p, 0x404 + 16 * k), (STL, p, 0x408 + 16 * k),
   (STL, p, 0x40C + 16 * k)]

/-- The pointers of a context (R141). -/
def ptrRegs (p k : Nat) : List (Nat × Nat × Nat) := (List.range 4).map (fun i => (STL, p, 0x230 + 64 * k + 4 * i))

/-- The registers that reads of a stall's store can change: its count of corrected words and its events, the count of lost Ledger entries, and the
RSV page's events (R109, R411). -/
def readRegs (p : Nat) : List (Nat × Nat × Nat) := [(STL, p, 0x034), (STL, p, 0x014), (LDG, 0, 0x030)] ++ eventRegs RSV 0

/-- The registers besides, that an operand read or a result of an instruction can change: the context's pointers, what reads change, the stall's
counters of saturations and bank waits, and the events and parity counts of its baskets. -/
def operandRegs (p k : Nat) : List (Nat × Nat × Nat) :=
  ptrRegs p k ++ readRegs p
    ++ [(STL, p, 0x030), (STL, p, 0x104), (BSK, p, 0x014), (BSK, p, 0x110), (BSK, p, 0x130), (BSK, p, 0x150), (BSK, p, 0x170)]

/-- The pointers of a context have advanced by `n` words, modulo 2^32 (R141). -/
def Advanced (p k : Nat) (n : Nat → Nat) (d e : Device) : Prop := ∀ i, i < 4 → e.ptr p k i = (d.ptr p k i + n i) % 2 ^ 32

/-- Words that go to a lane output: the first may leave in cycle `ready`, each later one a cycle after; the last carries the end mark (R137, R146). -/
def laneWords (gen : BitVec 2) (ready : Nat) (fin spoil : Bool) (ws : List (DWord × Bool)) : List OutWord :=
  ws.zipIdx.map (fun x => ⟨dataWord x.1.1 (fin && decide (x.2 + 1 = ws.length)) (x.1.2 || spoil) gen, ready + x.2⟩)

/-- The result words of an instruction of context `k` stand behind the words of the lane output that DST names, or wait for cycle t + `lat` to be written
to the store words `addrs`; with another DST they go nowhere (R137, R138, R148). -/
def ResultsSent (p k dst : Nat) (addrs : List Nat) (lat : Nat) (fin : Bool) (ws : List (DWord × Bool)) (d e : Device) : Prop :=
  (∀ o, o < 4 → (e.stall p).outq.getD o [] = (d.stall p).outq.getD o [] ++
      (if o = dst then laneWords ((d.stall p).ctx k).gen (d.work + lat) fin ((d.stall p).ctx k).spoilPushes ws else []))
    ∧ (e.stall p).landing = (d.stall p).landing ++
      (if (dst = 4 ∨ dst = 5) ∧ addrs ≠ [] then [{ due := d.work + lat, words := addrs.zip ws }] else [])

/-- Does the condition of a BR hold (R151)? ARM is as the token unit left it before this cycle (R161). -/
def BrHolds (d : Device) (p k : Nat) (r : CtxRecord) (w : Nat) : Prop :=
  match fSrcA w with
  | 1 => ((d.stall p).ctx k).armWas.getD ((d.stall p).ctx k).arm = fld w 21 2
  | 2 => ((d.stall p).ctx k).armWas.getD ((d.stall p).ctx k).arm ≠ fld w 21 2
  | 3 => d.cnt p k (fld w 21 2) = 0
  | 4 => d.cnt p k (fld w 21 2) + 1 = r.loopBound.getD (fld w 21 2) 0
  | 5 => d.greg p k (fld w 17 4) = 0
  | 6 => d.greg p k (fld w 17 4) ≠ 0
  | _ => True

/-- The general registers of a context. -/
def gRegs (p k : Nat) : List (Nat × Nat × Nat) := (List.range 16).map (fun g => (STL, p, 0x200 + 64 * k + 4 * g))

/-- Where a word of a stall store is kept: a read uses the first place, a write goes to every one. A place is a word of the store (false)
or of the spare words (true), by its key (R408). -/
def Device.storePlaces (d : Device) (p wa : Nat) : List (Bool × Nat) :=
  match activeSpare (d.stall p).remaps wa with
  | some s => [(true, 8 * p + s)]
  | none => (false, 8192 * p + wa) :: ((pendingSpare (d.stall p).remaps wa).map (fun s => (true, 8 * p + s))).toList

/-- Of the words that software can read only the one of a stall store may differ: no other reads from a place that it is kept in. -/
def SameStoreBut (p wa : Nat) (d e : Device) : Prop :=
  (∀ q a, (∀ x ∈ (d.storePlaces q a).head?, x ∉ d.storePlaces p wa) → e.storeCode q a = d.storeCode q a)
    ∧ (∀ i, KMap.get e.prog i 0 = KMap.get d.prog i 0) ∧ (∀ pb word lane, e.depotCode pb word lane = d.depotCode pb word lane)
    ∧ (∀ a, KMap.get e.sth.mem a 0 = KMap.get d.sth.mem a 0) ∧ (∀ i, KMap.get e.clerk i 0 = KMap.get d.clerk i 0)

/-- The codeword that an owner write leaves in a stall store: the next write of the aimed stall takes the flip mask (R410). -/
def Device.storedCode (d : Device) (p : Nat) (v : DWord) (spoil : Bool) : CodeWord :=
  encodeWord v spoil ^^^ (if d.rf LDG 0 0x130 0 13 = p then d.storeFlip else 0)

/-- The registers that writes of a stall's store can change: the flip mask, the count of lost Ledger entries, and the RSV page's events. -/
def writeRegs : List (Nat × Nat × Nat) :=
  [(LDG, 0, 0x134), (LDG, 0, 0x138), (LDG, 0, 0x13C), (LDG, 0, 0x030)] ++ eventRegs RSV 0

/-- The registers that the parity check of a basket's word can change (R190). -/
def parityRegs (p b : Nat) : List (Nat × Nat × Nat) := [(BSK, p, 0x014), (BSK, p, 0x110 + 0x20 * b)]

/-- The head of one basket has left; the stall's other baskets are as they were (R136, R182). -/
def Popped (p b : Nat) (d e : Device) : Prop :=
  ∀ j, j < 4 → (e.stall p).basket j = if j = b then ((d.stall p).basket b).popHead d.work else (d.stall p).basket j

/-- The copies that a token asks for stand behind those that wait: one for the lanes of a mask, from a cycle on (R137, R162). -/
def Forwarded (p : Nat) (payload : Word) (gen : BitVec 2) (mask from_ : Nat) (d e : Device) : Prop :=
  (e.stall p).forward = (d.stall p).forward ++ (if maskLanes mask = [] then [] else [⟨payload, gen, maskLanes mask, from_⟩])

/-- Where a lane of a Depot word is kept, in the same way. -/
def Device.depotPlaces (d : Device) (pb word lane : Nat) : List (Bool × Nat) :=
  match activeSpare (KMap.get d.depot.remaps pb []) word with
  | some s => [(true, (pb * 32 + s) * 8 + lane)]
  | none => (false, depotKey pb word lane) ::
      ((pendingSpare (KMap.get d.depot.remaps pb []) word).map (fun s => (true, (pb * 32 + s) * 8 + lane))).toList

/-- The places of the lane that holds a Depot byte offset. -/
def Device.offPlaces (d : Device) (off : Nat) : List (Bool × Nat) :=
  d.depotPlaces (d.depotBank (depotLb off)) (depotWord off) (depotLane off)

/-- Every Depot word that no place of the `n` bytes from `off` on holds reads as it did. -/
def SameDepotBut (off n : Nat) (d e : Device) : Prop :=
  ∀ pb word lane, (∀ x ∈ (d.depotPlaces pb word lane).head?, ∀ j, j < n → x ∉ d.offPlaces ((off + j) % 2 ^ 27)) →
    e.depotCode pb word lane = d.depotCode pb word lane

/-- Every memory but the Depot reads as it did. -/
def SameButDepot (d e : Device) : Prop :=
  (∀ p wa, e.storeCode p wa = d.storeCode p wa) ∧ (∀ i, KMap.get e.prog i 0 = KMap.get d.prog i 0)
    ∧ (∀ a, KMap.get e.sth.mem a 0 = KMap.get d.sth.mem a 0) ∧ (∀ i, KMap.get e.clerk i 0 = KMap.get d.clerk i 0)

end Sys2Proof.Machine
end

