-- ==== Sys2Proof/Certificates/Slice0/Obligations.lean ====
section
/-! DEFINITION. The statements for the provers. -/

open Sys2Proof Sys2Proof.Machine

/-! ### The queue, the clock and reset -/

/-- With command c at the front of the queue, a step is exec of c on the state with the rest of the queue. -/
def Obligations.StepRunsFront : Prop :=
  ∀ (s : State) (c : Instr) (rest : List Instr), s.pending = c :: rest → step s = exec c { s with pending := rest }

/-- On an empty queue a step answers a next state with an empty queue (assumption 1, a choice of the model). Before the boot ROM has run, or
while the device is held in reset, time stands still; otherwise MCLK advances by one cycle, and the clock of the Square by one cycle unless
the chip is hushed. -/
def Obligations.IdleIsOneCycle : Prop :=
  ∀ s : State, s.pending = [] →
    ∃ t, step s = .next t ∧ t.pending = [] ∧
      (s.dev.boot.held = true ∨ s.dev.boot.romDone = false → t.dev.now = s.dev.now ∧ t.dev.work = s.dev.work) ∧
      (s.dev.boot.held = false ∧ s.dev.boot.romDone = true →
        t.dev.now = s.dev.now + 1 ∧ t.dev.work = s.dev.work + (if s.dev.bell.hushed then 0 else 1))

/-- Every command answers: a well-formed one a next state with the rest of the queue as it was, and an ill-formed one the fault noSuchUnit
(assumption 8); no command is refused. -/
def Obligations.EveryCommandAnswers : Prop :=
  ∀ (c : Instr) (s : State),
    (Instr.wf c = true → Answers c s (fun _ => True)) ∧ (Instr.wf c = false → exec c s = .fault .noSuchUnit)

/-- The invariant that no interrupt edge is lost: after every step, the SUM_TYPE that was last judged for messages is the SUM_TYPE that the
IRQ_RAW and IRQ_MASK registers give (R505, R506). Every step keeps it, whatever the command. -/
def Obligations.InterruptsJudged : Prop :=
  ∀ s t : State, s.dev.host.lastSum = s.dev.sumType → step s = .next t → t.dev.host.lastSum = t.dev.sumType

/-- The invariant of InterruptsJudged holds right after reset. -/
def Obligations.InterruptsJudgedAtReset : Prop := State.reset.dev.host.lastSum = State.reset.dev.sumType

/-- What ends every command and every idle cycle: each SUM_TYPE bit that is 1 and was 0 when it was last judged, and at every judgement of this cycle,
sends one message on the vector of its TYPE_VEC, or, while that vector is masked, holds it pending; with no such bit nothing leaves. A bit that software
clears and hardware sets again in one cycle stays 1. No register changes. -/
def Obligations.SumTypeEdgeSendsMessage : Prop :=
  ∀ d : Device,
    (∀ i, i < 32 → d.host.lastSum.getLsbD i = false → d.host.sumSeen.getLsbD i = false → d.sumType.getLsbD i = true →
      .msix (d.rf HST 0 (0x180 + 4 * i) 0 11) ∈ d.settle.outbox ∨ d.rf HST 0 (0x180 + 4 * i) 0 11 ∈ d.settle.host.pba)
    ∧ ((∀ i, i < 32 → d.sumType.getLsbD i = true → d.host.lastSum.getLsbD i = true ∨ d.host.sumSeen.getLsbD i = true) →
      d.settle.outbox = d.outbox ∧ d.settle.host.pba = d.host.pba)
    ∧ d.settle.regs = d.regs

/-- While PERST# is low the device is held in reset: only a reset, the release of PERST# and boundary scan act; every other command leaves the
whole state as it is. -/
def Obligations.HeldInReset : Prop :=
  ∀ (c : Instr) (s : State), s.dev.boot.held = true → Instr.wf c = true →
    (∀ x, c ≠ .perstRelease x) → (∀ x, c ≠ .jtagUpdateIr x) → c ≠ .powerOnReset → c ≠ .perstAssert → c ≠ .tapReset → c ≠ .captureIr →
    exec c s = .next s

/-- Right after reset no command waits, PERST# is low, and the registers hold the values the register tables give: among them BEL_PERIOD
6,666,666 with BEL_FRAC 0xAAAB, 512 slots, HUSH_LIMIT 16,384, DL_LIMIT 65,536, every stall closed, WBR_SLACK and the link lane map. -/
def Obligations.ResetRegisters : Prop :=
  State.reset.pending = [] ∧ State.reset.dev.boot.held = true
    ∧ (∀ b u o, State.reset.dev.reg b u o = regReset b u o)
    ∧ State.reset.dev.regN BEL 0 0x100 = 6666666 ∧ State.reset.dev.regN BEL 0 0x108 = 0xAAAB ∧ State.reset.dev.regN BEL 0 0x110 = 512
    ∧ State.reset.dev.regN BEL 0 0x138 = 16384 ∧ State.reset.dev.regN BEL 0 0x140 = 65536
    ∧ (∀ p, p < 6400 → State.reset.dev.closed p = true ∧ State.reset.dev.regN STL p 0x100 = 1)
    ∧ State.reset.dev.bell.int = 6666666 ∧ State.reset.dev.bell.frac = 0xAAAB ∧ State.reset.dev.bell.hushed = false

/-! ### Registers -/

/-- A write to a register (R8, R9, R122). An RW register takes the listed bits of the word, within the limits of its table; of IRQ_RAW, the bits written
as 1 that hardware has not set in this cycle clear, and the others stay; with the fault bit among them, and no fault of this cycle, the fault registers
clear too. A register that only a closed stall takes, takes the listed bits while the stall is closed, but SEED no 0, and ignores the write otherwise. Every
other register ignores it. Nothing else that software can read in a register or a memory changes. WIN_SEL and NORM_HI_C have rows of their own. -/
def Obligations.RegisterWriteEffect : Prop :=
  ∀ (s : State) (page : Page) (off : Nat) (val v : Word),
    Instr.wf (.registerWrite page off val) = true → s.dev.boot.held = false →
    v = val &&& BitVec.ofNat 32 (regSpec page.block page.unit off).mask →
    ((regSpec page.block page.unit off).acc = .rw → (page.block, off) ≠ (HST, 0x100) →
      Answers (.registerWrite page off val) s (fun e =>
        (s.dev.limited page.block page.unit off v.toNat = v.toNat → e.reg page.block page.unit off = v)
          ∧ (s.dev.limited page.block page.unit off v.toNat = s.dev.regN page.block page.unit off →
              e.reg page.block page.unit off = s.dev.reg page.block page.unit off)
          ∧ Only [(page.block, page.unit, off)] s.dev e))
    ∧ ((regSpec page.block page.unit off).acc = .w1c → off = 0x014 →
      (∀ f ∈ s.dev.newFaults, f.1 ≠ regKey page.block page.unit 0) →
      Answers (.registerWrite page off val) s (fun e =>
        (∀ i, i < 32 → i ≠ faultBit page.block → (e.reg page.block page.unit 0x014).getLsbD i =
          ((s.dev.reg page.block page.unit 0x014).getLsbD i &&
            !(v.getLsbD i && !tb (s.dev.freshOf page.block page.unit 0x014).2 i)))
          ∧ (v.getLsbD (faultBit page.block) = true → e.faultHeld page.block page.unit = false
              ∧ (∀ o ∈ [0x020, 0x024, 0x028], e.regN page.block page.unit o = 0)
              ∧ Only (eventRegs page.block page.unit) s.dev e)
          ∧ (v.getLsbD (faultBit page.block) = false → e.faultHeld page.block page.unit = s.dev.faultHeld page.block page.unit
              ∧ Only [(page.block, page.unit, 0x014)] s.dev e)))
    ∧ ((regSpec page.block page.unit off).acc = .closed → s.dev.closed page.unit = true → (off = 0x100 → v ≠ 0) →
      Answers (.registerWrite page off val) s (fun e =>
        e.reg page.block page.unit off = v ∧ Only [(page.block, page.unit, off)] s.dev e))
    ∧ ((regSpec page.block page.unit off).acc = .closed → s.dev.closed page.unit = false ∨ (off = 0x100 ∧ v = 0) →
      Answers (.registerWrite page off val) s (fun e => Only [] s.dev e))
    ∧ ((regSpec page.block page.unit off).acc ∈ [Access.ro, .rc, .wo, .tw, .none_] →
      Answers (.registerWrite page off val) s (fun e => Only [] s.dev e))

/-- Fields with a range. LEVEL of a basket holds 0 to the basket's capacity: a write in that range is taken, and one above the capacity leaves the
field unchanged. LEVEL 0 disables the watch. HUSH_LIMIT below 256, DL_LIMIT below 1,024 and REORDER_TMO 0 leave their fields unchanged, and every other value
of the field's width is taken; a register outside the tables that give limits takes every value. -/
def Obligations.LevelRange : Prop :=
  (∀ (s : State) (p b : Nat), p < 6400 → b < 4 → s.dev.boot.held = false →
    (∀ val : Word, s.dev.capOf p b < (val &&& 0xFFF#32).toNat →
      Answers (.registerWrite ⟨BSK, p⟩ (0x108 + 0x20 * b) val) s (fun e => Only [] s.dev e))
    ∧ (∀ val : Word, (val &&& 0xFFF#32).toNat ≤ s.dev.capOf p b →
      Answers (.registerWrite ⟨BSK, p⟩ (0x108 + 0x20 * b) val) s (fun e =>
        e.reg BSK p (0x108 + 0x20 * b) = val &&& 0xFFF#32 ∧ Only [(BSK, p, 0x108 + 0x20 * b)] s.dev e))
    ∧ (s.dev.rf BSK p (0x108 + 0x20 * b) 0 12 = 0 → ∀ before after, s.dev.levelWatch p b before after = s.dev))
  ∧ (∀ (s : State) (r : Nat × Nat × Nat) (val v : Word), s.dev.boot.held = false →
    r ∈ [(BEL, 0x138, 256), (BEL, 0x140, 1024), (GAT, 0x220, 1)] → v = val &&& BitVec.ofNat 32 (regSpec r.1 0 r.2.1).mask →
    Answers (.registerWrite ⟨r.1, 0⟩ r.2.1 val) s (fun e =>
      e.reg r.1 0 r.2.1 = (if v.toNat < r.2.2 then s.dev.reg r.1 0 r.2.1 else v) ∧ Only [(r.1, 0, r.2.1)] s.dev e))
  ∧ (∀ (d : Device) (b u o v : Nat), b ∉ [BSK, WBR, LDG] →
    (b, o) ∉ [(BEL, 0x138), (BEL, 0x140), (GAT, 0x220), (CRI, 0x100), (STW, 0x264)] → d.limited b u o v = v)

/-- A read of an RC register returns the value it held before the events of this cycle, where it shows one, and leaves the events of this cycle in it. A read
of any other register returns what the register shows and changes none (BEL_COUNT_LO and PTP_TIME_LO: the statement of latched reads). While the cause is BOOT a host's
read returns the reset value. -/
def Obligations.RcReadClears : Prop :=
  ∀ (s : State) (who : Agent) (page : Page) (off : Nat),
    Instr.wf (.rcCounterRead who page off) = true → s.dev.boot.held = false →
    (s.dev.hostBoot who = false → (regSpec page.block page.unit off).acc = .rc → (s.dev.freshOf page.block page.unit off).2 < 2 ^ 32 →
      Answers (.rcCounterRead who page off) s (fun e =>
        e.reply.value = (if s.dev.readAt page.block page.unit off = 0 then 0 else (s.dev.freshOf page.block page.unit off).1)
          ∧ e.regN page.block page.unit off = (s.dev.freshOf page.block page.unit off).2
          ∧ Only [(page.block, page.unit, off)] s.dev e))
    ∧ (s.dev.hostBoot who = false → (regSpec page.block page.unit off).acc ≠ .rc → (page.block, off) ≠ (BEL, 0x120) →
      (page.block, off) ≠ (GAT, 0x100) →
      Answers (.rcCounterRead who page off) s (fun e =>
        e.reply.value = s.dev.readAt page.block page.unit off ∧ Only [] s.dev e))
    ∧ (s.dev.hostBoot who = true → page.block ≠ DIR →
      Answers (.rcCounterRead who page off) s (fun e => e.reply.value = resetRead page.block page.unit off ∧ Only [] s.dev e))

/-- A read of BEL_COUNT_LO returns bits [31:0] of the bell count and latches bits [63:32] into BEL_COUNT_HI; a read of PTP_TIME_LO does the same
for the PTP time. The two rows of their own and the read row at these offsets do the same. No other register changes. -/
def Obligations.LatchedReads : Prop :=
  ∀ (s : State) (who : Agent), s.dev.boot.held = false → s.dev.hostBoot who = false →
    (∀ c ∈ [Instr.belCountLoRead who, .rcCounterRead who ⟨BEL, 0⟩ 0x120], Answers c s (fun e =>
      e.reply.value = s.dev.bellCount % 2 ^ 32 ∧ e.regN BEL 0 0x124 = s.dev.bellCount / 2 ^ 32 % 2 ^ 32 ∧ Only [(BEL, 0, 0x124)] s.dev e))
    ∧ (∀ c ∈ [Instr.ptpTimeLoRead who, .rcCounterRead who ⟨GAT, 0⟩ 0x100], Answers c s (fun e =>
      e.reply.value = s.dev.gate.ptpNs % 2 ^ 32 ∧ e.regN GAT 0 0x104 = s.dev.gate.ptpNs / 2 ^ 32 % 2 ^ 32 ∧ Only [(GAT, 0, 0x104)] s.dev e))

/-- A write of 1 to the fault bit of a page clears FAULT_CODE, FAULT_WHERE and FAULT_WHEN and the bit, when no fault was recorded on the page in
this cycle; when faults were, the bit stays as it is and the three registers hold the one of the lowest value. The directory page has no fault bit. -/
def Obligations.FaultBitClearEffect : Prop :=
  ∀ (s : State) (page : Page), Instr.wf (.faultBitClear page) = true → s.dev.boot.held = false →
    (page.block ≠ DIR → (∀ f ∈ s.dev.newFaults, f.1 ≠ regKey page.block page.unit 0) →
      Answers (.faultBitClear page) s (fun e =>
        (∀ o ∈ [0x020, 0x024, 0x028], e.regN page.block page.unit o = 0) ∧ e.faultHeld page.block page.unit = false
          ∧ (∀ i, i < 32 → i ≠ faultBit page.block → e.rb page.block page.unit 0x014 i = s.dev.rb page.block page.unit 0x014 i)
          ∧ Only (eventRegs page.block page.unit) s.dev e))
    ∧ (∀ code loc at_, page.block ≠ DIR → (regKey page.block page.unit 0, code, loc, at_) ∈ s.dev.newFaults → code < 2 ^ 32 →
      (∀ f ∈ s.dev.newFaults, f.1 = regKey page.block page.unit 0 → f.2 ≠ (code, loc, at_) → code < f.2.1) →
      Answers (.faultBitClear page) s (fun e =>
        e.regN page.block page.unit 0x020 = code ∧ e.reg page.block page.unit 0x024 = loc ∧ e.reg page.block page.unit 0x028 = at_
          ∧ Only [(page.block, page.unit, 0x020), (page.block, page.unit, 0x024), (page.block, page.unit, 0x028)] s.dev e))
    ∧ (page.block = DIR → Answers (.faultBitClear page) s (fun e => Only [] s.dev e))

/-- Twin registers. A write to the value half places the listed bits in the pending holder and leaves every effective value as it was. A write
to the complement half that matches the pending value makes it effective (stated for the twin registers that do nothing more than hold their
value); one that does not match, or that its table's range refuses, is refused: the effective value stays, the holder holds it again, and the
page's fault bit is raised, with INTEG in the fault registers when they held no fault. A twin register of an arcade page takes neither half while its stall
is not closed. -/
def Obligations.TwinPair : Prop :=
  ∀ (s : State) (page : Page) (off : Nat) (val : Word),
    Instr.wf (.twinValueWrite page off val) = true → s.dev.boot.held = false →
    (regSpec page.block page.unit off).acc = .tw → off + 4 < 4096 → (regSpec page.block page.unit (off + 4)).acc = .none_ →
    (s.dev.twinOpen page.block page.unit = true →
      Answers (.twinValueWrite page off val) s (fun e =>
        e.twinPending page.block page.unit off = val &&& BitVec.ofNat 32 (regSpec page.block page.unit off).mask
          ∧ SameSquare s.dev e ∧ Only [] s.dev e)
      ∧ (s.dev.twinMatches page.block page.unit off val = true →
        twinBad page.block page.unit off (s.dev.twinPending page.block page.unit off).toNat = false →
        (page.block, off) ∉ [(BEL, 0x008), (BEL, 0x100), (CRI, 0x008), (PRT, 0x008), (AIS, 0x008), (WBR, 0x008), (STW, 0x008), (TRS, 0x008)] →
        Answers (.twinComplementWrite page (off + 4) val) s (fun e =>
          e.reg page.block page.unit off = s.dev.twinPending page.block page.unit off ∧ SameSquare s.dev e
            ∧ Only [(page.block, page.unit, off)] s.dev e))
      ∧ (s.dev.twinMatches page.block page.unit off val = false
          ∨ twinBad page.block page.unit off (s.dev.twinPending page.block page.unit off).toNat = true →
        Answers (.twinComplementWrite page (off + 4) val) s (fun e =>
          e.reg page.block page.unit off = s.dev.reg page.block page.unit off
            ∧ e.twinPending page.block page.unit off = s.dev.reg page.block page.unit off
            ∧ e.faultHeld page.block page.unit = true
            ∧ (s.dev.faultHeld page.block page.unit = false → e.regN page.block page.unit 0x020 = 0x7001)
            ∧ Only ((LDG, 0, 0x030) :: eventRegs page.block page.unit) s.dev e)))
    ∧ (s.dev.twinOpen page.block page.unit = false →
      ∀ c ∈ [Instr.twinValueWrite page off val, .twinComplementWrite page (off + 4) val],
        Answers c s (fun e => e.twinPending page.block page.unit off = s.dev.twinPending page.block page.unit off ∧ SameSquare s.dev e
          ∧ Only [] s.dev e))

/-- A commit of BEL_PERIOD whose INT lies outside 65,536 to 16,777,215 cycles is refused: the committed pair stays unchanged, PERIOD_REFUSED
(bit 7) is raised, and BEL_PERIOD reads back the value that was written. -/
def Obligations.PeriodRefused : Prop :=
  ∀ (s : State) (val : Word), s.dev.boot.held = false → s.dev.twinMatches BEL 0 0x100 val = true →
    ((s.dev.twinPending BEL 0 0x100).toNat < 65536 ∨ 16777215 < (s.dev.twinPending BEL 0 0x100).toNat) →
    (s.dev.twinPending BEL 0 0x100).toNat < 2 ^ 24 →
    Answers (.twinComplementWrite ⟨BEL, 0⟩ 0x104 val) s (fun e =>
      e.bell.int = s.dev.bell.int ∧ e.bell.frac = s.dev.bell.frac ∧ e.rb BEL 0 0x014 7 = true
        ∧ e.reg BEL 0 0x100 = s.dev.twinPending BEL 0 0x100 ∧ Only [(BEL, 0, 0x100), (BEL, 0, 0x014)] s.dev e)

/-! ### Stall instructions -/

/-- LDI, ALU and ADDI: the destination register takes the immediate (MODE 0 sign-extended, 1 zero-extended, 2 into the upper half), the result
that FUNC selects, or the sum with the sign-extended immediate; FUNC 5 to 7 shift by the low five bits. In T5 steering mode the destination is spoiled
when an operand was, and only then. Every other register that issue does not write, every memory, the baskets, the queues and the array stay as they
were, and so does every other stall. -/
def Obligations.ScalarResults : Prop :=
  ∀ (s : State) (p k w : Nat) (r : CtxRecord) (Q : Device → Prop), s.dev.boot.held = false → p < 6400 →
    (∀ e, Q e = (Only ((STL, p, 0x200 + 64 * k + 4 * fGd w) :: issueRegs p k) s.dev e ∧ SameQueues p s.dev e ∧ SameFeeds p s.dev e
      ∧ SameAccs p s.dev e ∧ OtherStalls p s.dev e)) →
    (IssueDue s.dev p 0x11 k r w → fld w 20 2 ≤ 2 →
      Answers (.ldi p) s (fun e =>
        e.greg p k (fGd w) = (if fld w 20 2 = 0 then (BitVec.ofNat 16 w).signExtend 32
          else if fld w 20 2 = 1 then (BitVec.ofNat 16 w).setWidth 32
          else (BitVec.ofNat 16 w ++ (s.dev.greg p k (fGd w)).setWidth 16 : Word))
        ∧ e.gSpoil p k (fGd w) = (decide (fld w 20 2 = 2) && s.dev.gSpoil p k (fGd w)) ∧ Q e))
    ∧ (IssueDue s.dev p 0x12 k r w → fld w 0 4 ≤ 9 →
      Answers (.alu p) s (fun e =>
        (∀ a b : Word, a = s.dev.greg p k (fGa w) → b = s.dev.greg p k (fld w 14 4) →
          (fld w 0 4 = 0 → e.greg p k (fGd w) = a + b) ∧ (fld w 0 4 = 1 → e.greg p k (fGd w) = a - b)
          ∧ (fld w 0 4 = 2 → e.greg p k (fGd w) = a &&& b) ∧ (fld w 0 4 = 3 → e.greg p k (fGd w) = a ||| b)
          ∧ (fld w 0 4 = 4 → e.greg p k (fGd w) = a ^^^ b) ∧ (fld w 0 4 = 5 → e.greg p k (fGd w) = a <<< (b.toNat % 32))
          ∧ (fld w 0 4 = 6 → e.greg p k (fGd w) = a >>> (b.toNat % 32))
          ∧ (fld w 0 4 = 7 → e.greg p k (fGd w) = a.sshiftRight (b.toNat % 32))
          ∧ (fld w 0 4 = 8 → (e.greg p k (fGd w)).toInt = min a.toInt b.toInt)
          ∧ (fld w 0 4 = 9 → (e.greg p k (fGd w)).toInt = max a.toInt b.toInt))
        ∧ e.gSpoil p k (fGd w) = (s.dev.gSpoil p k (fGa w) || s.dev.gSpoil p k (fld w 14 4)) ∧ Q e))
    ∧ (IssueDue s.dev p 0x13 k r w →
      Answers (.addi p) s (fun e =>
        e.greg p k (fGd w) = s.dev.greg p k (fGa w) + (BitVec.ofNat 12 w).signExtend 32
          ∧ e.gSpoil p k (fGd w) = s.dev.gSpoil p k (fGa w) ∧ Q e))

/-- NOP and BR, outside a loop's last instruction and the program's END. NOP: the next PC follows, and FIRE_COUNT rises by 1, as at every issue. BR whose
condition holds goes to TARGET, or where g[GA] points for COND 7, and in T5 steering mode goes there after the instruction that follows; one whose
condition does not hold, or that tests a spoiled register, falls through. An indirect branch out of the program is the matter of LoopsAndMasks. Every register that
issue does not write, every memory, the baskets, the queues and the array stay as they were. -/
def Obligations.NopAndBranch : Prop :=
  ∀ (s : State) (p k w : Nat) (r : CtxRecord) (Q : Device → Prop), s.dev.boot.held = false → p < 6400 →
    (s.dev.stall p).branchTo = none → loopsAt r (s.dev.pc p k) = [] → s.dev.pc p k ≠ r.stop →
    (∀ e, Q e = (e.regN STL p (0x180 + 4 * k) = (s.dev.regN STL p (0x180 + 4 * k) + 1) % 2 ^ 32 ∧ Only (issueRegs p k) s.dev e
      ∧ SameQueues p s.dev e ∧ SameFeeds p s.dev e ∧ SameAccs p s.dev e ∧ OtherStalls p s.dev e)) →
    (IssueDue s.dev p 0x00 k r w →
      Answers (.nop p) s (fun e => e.pc p k = (s.dev.pc p k + 1) % 256 ∧ (e.stall p).branchTo = none ∧ Q e))
    ∧ (∀ dest bad, IssueDue s.dev p 0x14 k r w → dest = (if fSrcA w = 7 then (s.dev.greg p k (fld w 17 4)).toNat % 256 else fld w 0 8) →
      bad = (decide (5 ≤ fSrcA w) && s.dev.gSpoil p k (fld w 17 4)) →
      (BrHolds s.dev p k r w → bad = false → s.dev.t5 p = false → fSrcA w ≠ 7 ∨ dest < r.length →
        Answers (.br p) s (fun e => e.pc p k = dest ∧ (e.stall p).branchTo = none ∧ Q e))
      ∧ (BrHolds s.dev p k r w → bad = false → s.dev.t5 p = true → dest < r.length → s.dev.pc p k + 1 < r.length →
        Answers (.br p) s (fun e => e.pc p k = (s.dev.pc p k + 1) % 256 ∧ (e.stall p).branchTo = some dest ∧ Q e))
      ∧ (¬ BrHolds s.dev p k r w ∨ bad = true →
        Answers (.br p) s (fun e => e.pc p k = (s.dev.pc p k + 1) % 256 ∧ (e.stall p).branchTo = none
          ∧ (bad = true → ((e.stall p).ctx k).spoilPushes = true) ∧ Q e)))

/-- An instruction whose loop counter has reached its limit is masked: it counts once as a firing and changes no general register, no memory, no
basket, no output queue and no accumulator. Loops: when the instruction at LOOP_LAST issues, the innermost loop that ends there counts, and the next PC is
its LOOP_FIRST, while its counter stays below LOOP_BOUND; the other counters stay. When every loop that ends there has run to its bound the counters become 0 and
the next PC is LOOP_LAST + 1, or, at END, the body ends and the context waits at ENTRY. Stated of the shared operation that every issue ends with, for an
instruction that does not branch.

How an instruction that is due waits or fails. One whose needs are judged a fault does not execute: the stall records the code, unless its page holds a
fault already, closes from the next cycle on, and a halt is reported; one that waits counts the cycle, for input at WAIT_IN or for room at
WAIT_OUT, and nothing else. The judgement names 0x4007 for a head of another generation, else it waits for a source that has no data, else for a lock, else names
0x4002 for a read or a write outside the store's words or regions, and 0x4003 for a word that the line buffer holds no more or will not hold. A branch
that is indirect or in T5 steering mode and leaves the program is 0x4001, a loop counter at its bound 0x4004; an instruction whose parity fails is 0x6004 and closes the stall. -/
def Obligations.LoopsAndMasks : Prop :=
  (∀ (s : State) (p k : Nat) (r : CtxRecord), s.dev.boot.held = false → p < 6400 → k < 8 → (s.dev.stall p).cur = k →
    ((s.dev.stall p).ctx k).rec_ = some r → s.dev.mayIssue p = true → s.dev.masked p k r (s.dev.pc p k) = true →
    parityOf 33 (s.dev.fetched p) = false → s.dev.boundBroken p k r (s.dev.pc p k) = false →
    Answers (.maskedFiring p) s (fun e =>
      e.regN STL p (0x180 + 4 * k) = (s.dev.regN STL p (0x180 + 4 * k) + 1) % 2 ^ 32 ∧ Only (issueRegs p k) s.dev e
        ∧ SameQueues p s.dev e ∧ SameFeeds p s.dev e ∧ SameAccs p s.dev e ∧ OtherStalls p s.dev e))
  ∧ (∀ (d : Device) (p k : Nat) (r : CtxRecord), k < 8 → (d.stall p).branchTo = none →
    (∀ i ∈ loopsAt r (d.pc p k), r.loopBound.getD i 0 ≤ 65535 ∧ r.loopFirst.getD i 0 < 256) → r.entry < 256 →
    (∀ i rest, loopsAt r (d.pc p k) = i :: rest → d.cnt p k i + 1 < r.loopBound.getD i 0 →
      (d.nextPc p k r none).pc p k = r.loopFirst.getD i 0 ∧ (d.nextPc p k r none).cnt p k i = d.cnt p k i + 1
        ∧ (∀ j, j < 4 → j ≠ i → (d.nextPc p k r none).cnt p k j = d.cnt p k j))
    ∧ ((∀ i ∈ loopsAt r (d.pc p k), r.loopBound.getD i 0 ≤ d.cnt p k i + 1) →
      (∀ j, j < 4 → (d.nextPc p k r none).cnt p k j = if j ∈ loopsAt r (d.pc p k) then 0 else d.cnt p k j)
        ∧ (d.pc p k ≠ r.stop → (d.nextPc p k r none).pc p k = (d.pc p k + 1) % 256)
        ∧ (d.pc p k = r.stop → (d.nextPc p k r none).pc p k = r.entry ∧ (((d.nextPc p k r none).stall p).ctx k).inBody = false)))
  ∧ (∀ (s : State) (p k w op : Nat) (r : CtxRecord) (c : Instr) (needs : Nat → Device → Nat → CtxRecord → Nat → Needs) (Faults : Nat → Word → Device → Prop),
    s.dev.boot.held = false → p < 6400 →
    (c, op, needs) ∈ [(Instr.nop p, 0x00, fun _ => noNeeds), (.mac8 p, 0x01, fun p d k r w => denseNeeds 16 d k r p w),
      (.mac4 p, 0x02, fun p d k r w => denseNeeds 32 d k r p w), (.wmac p, 0x03, wmacNeeds), (.dwmac p, 0x04, windowNeeds), (.pmax p, 0x05, windowNeeds),
      (.wxf p, 0x08, wxfNeeds), (.wadv p, 0x09, wadvNeeds), (.pfill p, 0x0A, pfillNeeds), (.latch p, 0x0B, latchNeeds), (.rsc p, 0x0C, rscNeeds),
      (.mov p, 0x10, movNeeds), (.ldi p, 0x11, fun _ => noNeeds), (.alu p, 0x12, fun _ => noNeeds), (.addi p, 0x13, fun _ => noNeeds),
      (.br p, 0x14, fun _ => noNeeds), (.g8p p, 0x18, g8pNeeds), (.m8u p, 0x19, momentNeeds), (.v8u p, 0x1A, momentNeeds), (.wupd p, 0x1B, wupdNeeds),
      (.get p, 0x30, fun _ _ _ _ w => { srcs := [fld w 20 2] }), (.put p, 0x31, fun _ _ _ _ w => { lane := some (fld w 16 2, 1) }),
      (.gett p, 0x32, fun p d _ _ w => { locked := !d.gettReady p (fld w 20 2), on := fld w 20 2 }), (.djnz p, 0x33, fun _ => noNeeds),
      (.brcmp p, 0x34, fun _ => noNeeds)] → (0x30 ≤ op → s.dev.t5 p = true) →
    (∀ code loc e, Faults code loc e = ((e.stall p).faulting = true ∧ e.rb STL p 0x014 1 = true ∧ e.bell.halting = true
      ∧ (s.dev.faultHeld STL p = false → e.regN STL p 0x020 = code ∧ e.reg STL p 0x024 = loc)
      ∧ e.mayIssue p = false ∧ e.pc p k = s.dev.pc p k ∧ e.regN STL p (0x180 + 4 * k) = s.dev.regN STL p (0x180 + 4 * k)
      ∧ SameQueues p s.dev e ∧ SameFeeds p s.dev e ∧ SameAccs p s.dev e ∧ OtherStalls p s.dev e ∧ SameMemory s.dev e)) →
    (IssueDue s.dev p op k r w →
      (∀ code lane ix, s.dev.judge p k r (needs p s.dev k r w) = .fault code lane ix → code < 2 ^ 32 →
        Answers c s (Faults code (s.dev.whereP p lane 0 k ix)))
      ∧ (∀ inp, (inp = true ∧ ∃ b, s.dev.judge p k r (needs p s.dev k r w) = .waitIn b)
          ∨ (inp = false ∧ s.dev.judge p k r (needs p s.dev k r w) = .waitOut) →
        Answers c s (fun e =>
          e.regN STL p (if inp then 0x038 else 0x03C) = min (2 ^ 32 - 1) (s.dev.regN STL p (if inp then 0x038 else 0x03C) + 1)
            ∧ (e.stall p).waitIn = inp ∧ (e.stall p).waitOut = !inp ∧ e.mayIssue p = false
            ∧ Only [(STL, p, if inp then 0x038 else 0x03C)] s.dev e
            ∧ SameQueues p s.dev e ∧ SameFeeds p s.dev e ∧ SameAccs p s.dev e ∧ OtherStalls p s.dev e))
      ∧ (∀ br t, (op, br) ∈ [(0x14, brTarget p), (0x33, djnzTarget p), (0x34, brcmpTarget p)] → br s.dev k w = some t →
        ((op = 0x14 ∧ fSrcA w = 7) ∨ s.dev.t5 p = true) → r.length ≤ t ∨ (s.dev.t5 p = true ∧ r.length ≤ s.dev.pc p k + 1) →
        Answers c s (Faults 0x4001 (s.dev.whereP p 0 0 k (s.dev.pc p k)))))
    ∧ ((s.dev.stall p).cur = k → ((s.dev.stall p).ctx k).rec_ = some r → s.dev.mayIssue p = true →
      (parityOf 33 (s.dev.fetched p) = false → fOp (s.dev.fetched p % 2 ^ 32) = op → s.dev.boundBroken p k r (s.dev.pc p k) = true →
        Answers c s (Faults 0x4004 (s.dev.whereP p 0 0 k (s.dev.pc p k))))
      ∧ (parityOf 33 (s.dev.fetched p) = true →
        Answers c s (fun e => (e.stall p).parityClosed = true ∧ e.closed p = true ∧ e.rb STL p 0x014 2 = true ∧ e.faultHeld STL p = true
          ∧ (s.dev.faultHeld STL p = false → e.regN STL p 0x020 = 0x6004) ∧ e.pc p k = s.dev.pc p k
          ∧ SameQueues p s.dev e ∧ SameFeeds p s.dev e ∧ SameAccs p s.dev e ∧ OtherStalls p s.dev e ∧ SameMemory s.dev e))))
  ∧ (∀ (d : Device) (p k : Nat) (r : CtxRecord) (n : Needs) (gens : List (Option Nat)) (reads : List Nat),
    gens = n.srcs.map (fun b => d.headGen p b ((d.stall p).ctx k).gen) →
    reads = (readWords n.reads).map (fun e => readVerdict r ((d.stall p).ctx k).fed e.1 e.2) →
    ((some 2 ∈ gens ∨ some 3 ∈ gens) → ∃ b ∈ n.srcs, d.judge p k r n = .fault 0x4007 b 0)
    ∧ (some 2 ∉ gens → some 3 ∉ gens →
      ((∃ g ∈ gens, g ≠ some 0) → ∃ b ∈ n.srcs, d.judge p k r n = .waitIn b)
      ∧ ((∀ g ∈ gens, g = some 0) →
        (n.locked = true → d.judge p k r n = .waitIn n.on)
        ∧ (n.locked = false →
          (3 ∈ reads → d.judge p k r n = .fault 0x4002 0 (d.pc p k))
          ∧ (3 ∉ reads → 2 ∈ reads → d.judge p k r n = .fault 0x4003 r.feed (d.pc p k))
          ∧ (3 ∉ reads → 2 ∉ reads → (∃ a ∈ n.writes, (d.stall p).writable n.low a = false) → d.judge p k r n = .fault 0x4002 0 (d.pc p k))
          ∧ (3 ∉ reads → 2 ∉ reads → (∀ a ∈ n.writes, (d.stall p).writable n.low a = true) →
            (1 ∈ reads → d.judge p k r n = .waitIn r.feed)
            ∧ (1 ∉ reads → (n.lane = none → d.judge p k r n = .go)
              ∧ (∀ o m, n.lane = some (o, m) → d.judge p k r n = if d.outRoom p o m then .go else .waitOut)))))))

/-- A dense firing (MAC8 into 16 accumulators, MAC4 into 32), with operands from baskets or from the store: accumulator o of the group takes, modulo 2^32,
the sum over the 16 inputs of activation times weight, alone when OPEN is 1 and added to what it held otherwise, and is spoiled when an operand, the plane or
what it held is; what it held stays in sight until cycle t + 3. The window firings, in the same way: DWMAC gives accumulator j the sum over the 16 taps of tap code
times weight; PMAX the largest code among the taps that the plane selects (−127 when it selects none), and unless OPEN is 1 the larger of that and what it
held. With CLOSE the group is rescaled, and its codes are sent to DST from cycle t + 7 on (PMAX: its maxima, from t + 4 on); otherwise nothing is sent. The accumulators of
other groups, every memory, what feeds the array and every other stall stay as they were, and of the registers all but those of the issue and of operands. -/
def Obligations.FiringSums : Prop :=
  ∀ (s : State) (p k w : Nat) (r : CtxRecord) (Q : Nat → Nat → Device → Prop), s.dev.boot.held = false → p < 6400 →
    (s.dev.stall p).outq.length = 4 → (s.dev.stall p).baskets.length = 4 →
    (∀ base n e, Q base n e = ((∀ i, i < base ∨ base + n ≤ i → (e.stall p).acc i = (s.dev.stall p).acc i)
      ∧ (∀ i, i < n → ⟨s.dev.work + 3, base + i, KMap.get (s.dev.stall p).accs (base + i) 0, (s.dev.stall p).accBad (base + i)⟩ ∈ (e.stall p).accLag)
      ∧ e.regN STL p (0x180 + 4 * k) = (s.dev.regN STL p (0x180 + 4 * k) + 1) % 2 ^ 32
      ∧ Only (issueRegs p k ++ operandRegs p k) s.dev e ∧ SameFeeds p s.dev e ∧ OtherStalls p s.dev e)) →
    (∀ c outs, Goes s.dev p k r (denseNeeds outs s.dev k r p w) →
      (c = .mac8 p ∧ outs = 16 ∧ IssueDue s.dev p 0x01 k r w) ∨ (c = .mac4 p ∧ outs = 32 ∧ IssueDue s.dev p 0x02 k r w) →
      Answers c s (fun e =>
        (∀ o, o < outs → (e.stall p).acc (outs * fGroup w + o) =
            (BitVec.ofInt 32 ((if fOpen w then 0 else (s.dev.stall p).acc (outs * fGroup w + o)) +
              ((List.range 16).map (fun i =>
                (readCodes ((s.dev.denseOperands p k r w).1.flatMap bytesOf)).1.getD i 0
                  * (if outs = 16 then ((s.dev.stall p).plane (fPlane w)).int8.1
                      else ((s.dev.stall p).plane (fPlane w)).int4.1).getD (outs * i + o) 0)).sum)).toInt
          ∧ (e.stall p).accBad (outs * fGroup w + o) = ((s.dev.denseOperands p k r w).2.1 || (s.dev.planeUse p k (fPlane w) 256).1
              || (!fOpen w && (s.dev.stall p).accBad (outs * fGroup w + o))))
        ∧ ResultsSent p k (if fClose w then fDst w else 6)
            (if s.dev.gSpoil p k (12 + fPtr w) then []
              else dstWords r ((s.dev.ptr p k (fPtr w) + (if fSrcA w = 5 then 2 else 0)) % 2 ^ 32) (outs / 8))
            7 (s.dev.endMark p k r (fEmk w))
            (codeWords ((s.dev.rescaleRun p k 0 ((e.stall p).sums (outs * fGroup w) outs)).map (fun x => x.1))) s.dev e
        ∧ Q (outs * fGroup w) outs e))
    ∧ (Goes s.dev p k r (windowNeeds p s.dev k r w) →
      (IssueDue s.dev p 0x04 k r w →
        Answers (.dwmac p) s (fun e =>
          (∀ j, j < 16 → (e.stall p).acc (16 * fGroup w + j) =
            (BitVec.ofInt 32 ((if fOpen w then 0 else (s.dev.stall p).acc (16 * fGroup w + j)) +
              ((List.range 16).map (fun t => (s.dev.stall p).tapCode t j
                * ((s.dev.stall p).plane (fPlane w)).int8.1.getD (16 * t + j) 0)).sum)).toInt
            ∧ (e.stall p).accBad (16 * fGroup w + j) = ((s.dev.planeUse p k (fPlane w) 256).1 || !(s.dev.stall p).winSpoil.isEmpty
                || (!fOpen w && (s.dev.stall p).accBad (16 * fGroup w + j))))
          ∧ ResultsSent p k (if fClose w then fDst w else 6)
              (if s.dev.gSpoil p k (12 + fPtr w) then [] else dstWords r (s.dev.ptr p k (fPtr w) % 2 ^ 32) 2) 7 (s.dev.endMark p k r (fEmk w))
              (codeWords ((s.dev.rescaleRun p k 0 ((e.stall p).sums (16 * fGroup w) 16)).map (fun x => x.1))) s.dev e
          ∧ Q (16 * fGroup w) 16 e))
      ∧ (IssueDue s.dev p 0x05 k r w →
        Answers (.pmax p) s (fun e =>
          (∀ j, j < 16 → (e.stall p).acc (16 * fGroup w + j) =
            (BitVec.ofInt 32 (if fOpen w then (s.dev.stall p).tapMax ((s.dev.stall p).plane (fPlane w)) j
              else max ((s.dev.stall p).tapMax ((s.dev.stall p).plane (fPlane w)) j) ((s.dev.stall p).acc (16 * fGroup w + j)))).toInt
            ∧ (e.stall p).accBad (16 * fGroup w + j) = ((s.dev.planeUse p k (fPlane w) 256).1 || !(s.dev.stall p).winSpoil.isEmpty
                || (!fOpen w && (s.dev.stall p).accBad (16 * fGroup w + j))))
          ∧ (∃ codes : List Byte, codes.length = 16
              ∧ (∀ j, j < 16 → (e.stall p).acc (16 * fGroup w + j) ≤ 127 → codes.getD j 0 = codeByte ((e.stall p).acc (16 * fGroup w + j)))
              ∧ ResultsSent p k (if fClose w then fDst w else 6)
                  (if s.dev.gSpoil p k (12 + fPtr w) then [] else dstWords r (s.dev.ptr p k (fPtr w) % 2 ^ 32) 2) 4 (s.dev.endMark p k r (fEmk w))
                  (codeWords (codes.zip ((e.stall p).sums (16 * fGroup w) 16 |>.map (fun x => x.2)))) s.dev e)
          ∧ Q (16 * fGroup w) 16 e)))


/-- WMAC: accumulator o of the tile position takes, modulo 2^32, the sum over the 16 channels of transformed activation times transformed weight, on top of
what it held, or alone when OPEN is 1; with OPEN the group's other accumulators become 0. A spoiled plane spoils the position, a spoiled tile the whole group.
With CLOSE the four positions are transformed back and rescaled, the eight words of codes leave for DST from cycle t + 10 on, and the group's sums are
in use until cycle t + 17. WXF and WADV queue the reads of their rows or words for the cycles after issue, at addresses fixed at issue, and POST advances the
pointer; when the last has been read a tile holds the input transform of its 16 channels and is ready two cycles later, and the window has moved on by
one column and is ready a cycle later. -/
def Obligations.WinogradAndWindowMoves : Prop :=
  (∀ (s : State) (p k w : Nat) (r : CtxRecord), s.dev.boot.held = false → p < 6400 →
    (s.dev.stall p).outq.length = 4 →
    (∀ base old, base = 256 * fWg w → old = s.dev.stall p → Goes s.dev p k r (wmacNeeds p s.dev k r w) → IssueDue s.dev p 0x03 k r w →
      Answers (.wmac p) s (fun e =>
        (∀ o, o < 16 → (e.stall p).acc (base + 16 * fPos w + o) =
            (BitVec.ofInt 32 ((if fOpen w then 0 else old.acc (base + 16 * fPos w + o)) +
              ((List.range 16).map (fun i => (old.tbVector (fTb w) (fPos w)).getD i 0
                * (old.plane (fPlane w)).wino.getD (16 * i + o) 0)).sum)).toInt
          ∧ (e.stall p).accBad (base + 16 * fPos w + o) = (decide (fTb w ∈ old.tbSpoil) || (s.dev.planeUse p k (fPlane w) 320).1
              || (!fOpen w && old.accBad (base + 16 * fPos w + o))))
        ∧ (∀ i, i < 256 → i / 16 ≠ fPos w → (e.stall p).acc (base + i) = (if fOpen w then 0 else old.acc (base + i))
          ∧ (e.stall p).accBad (base + i) = (decide (fTb w ∈ old.tbSpoil) || (!fOpen w && old.accBad (base + i))))
        ∧ (∀ i, i < base ∨ base + 256 ≤ i → (e.stall p).acc i = old.acc i)
        ∧ ResultsSent p k (if fClose w then fDst w else 6)
            (if s.dev.gSpoil p k (12 + fPtr w) then [] else dstWords r (s.dev.ptr p k (fPtr w)) 8) 10 (s.dev.endMark p k r (fEmk w))
            (codeWords (s.dev.rescaleTile p k 10 ((e.stall p).winoOutputs base).1).1) s.dev e
        ∧ (fClose w = true → KMap.get (e.stall p).wgReads (fWg w) none = some (s.dev.work + 17, false)
            ∧ (s.dev.work + 3, Stage.close base 256) ∈ (e.stall p).stages)
        ∧ Advanced p k (fun i => if fClose w ∧ fDst w = 5 ∧ i = fPtr w then 8 else 0) s.dev e
        ∧ (e.stall p).baskets = old.baskets ∧ (e.stall p).reads = old.reads
        ∧ Only (issueRegs p k ++ operandRegs p k) s.dev e ∧ SameFeeds p s.dev e ∧ OtherStalls p s.dev e))
    ∧ (Goes s.dev p k r (wxfNeeds p s.dev k r w) → IssueDue s.dev p 0x08 k r w →
      Answers (.wxf p) s (fun e =>
        (e.stall p).reads = (s.dev.stall p).reads ++ [⟨s.dev.work + 1, k, .wxf (fld w 19 1) (s.dev.gSpoil p k (12 + fPa20 w)),
          (List.range 4).map (fun i => (List.range 8).map (fun j =>
            (8 * i + j, effAddr r (s.dev.ptr p k (fPa20 w)) (i * (s.dev.greg p k (fld w 22 4)).toNat + j) % 8192))), []⟩]
        ∧ (∀ now, (e.stall p).tbLocked now (fld w 19 1) = true)
        ∧ Advanced p k (fun i => if tb w 18 ∧ i = fPa20 w then 4 else 0) s.dev e
        ∧ (e.stall p).landing = (s.dev.stall p).landing ∧ (e.stall p).outq = (s.dev.stall p).outq
        ∧ (e.stall p).baskets = (s.dev.stall p).baskets ∧ Only (issueRegs p k ++ ptrRegs p k) s.dev e
        ∧ SameFeeds p s.dev e ∧ SameAccs p s.dev e ∧ OtherStalls p s.dev e))
    ∧ (Goes s.dev p k r (wadvNeeds p s.dev k r w) → IssueDue s.dev p 0x09 k r w →
      Answers (.wadv p) s (fun e =>
        (e.stall p).reads = (s.dev.stall p).reads ++ [⟨s.dev.work + 1, k, .wadv (fld w 17 3 + 1) (s.dev.gSpoil p k (12 + fPa20 w)),
          [(List.range (fld w 17 3 + 1)).map (fun i => (i, effAddr r (s.dev.ptr p k (fPa20 w)) i % 8192))], []⟩]
        ∧ (∀ now, (e.stall p).winLocked now = true)
        ∧ Advanced p k (fun i => if tb w 16 ∧ i = fPa20 w then fld w 17 3 + 1 else 0) s.dev e
        ∧ (e.stall p).landing = (s.dev.stall p).landing ∧ (e.stall p).outq = (s.dev.stall p).outq
        ∧ (e.stall p).baskets = (s.dev.stall p).baskets ∧ Only (issueRegs p k ++ ptrRegs p k) s.dev e
        ∧ SameFeeds p s.dev e ∧ SameAccs p s.dev e ∧ OtherStalls p s.dev e)))
  ∧ (∀ (d : Device) (p buf : Nat) (bad : Bool) (got : List (DWord × Bool)) (codes : List Int), buf < 2 → (d.stall p).tbReady.length = 2 →
    codes = (readCodes (got.flatMap (fun x => bytesOf x.1))).1 →
    (∀ q c, q < 16 → c < 16 → KMap.get ((d.wxfDone p buf bad got).stall p).tb (256 * buf + 16 * q + c) 0 =
      BitVec.ofInt 10 ((winoIn ((List.range 16).map (fun x => codes.getD (64 * (x / 4) + 16 * (x % 4) + c) 0))).getD q 0))
    ∧ (buf ∈ ((d.wxfDone p buf bad got).stall p).tbSpoil ↔ bad = true ∨ ∃ x ∈ got, x.2 = true)
    ∧ ((d.wxfDone p buf bad got).stall p).tbReady.getD buf 0 = d.work + 2)
  ∧ (∀ (d : Device) (p n : Nat) (bad : Bool) (got : List (DWord × Bool)) (e : Device), e = d.wadvDone p n bad got →
    (∀ t j, t < 16 → j < 16 →
      (e.stall p).tapCode t j = if t % 4 ≠ 3 then (d.stall p).tapCode (t + 1) j
        else (BitVec.ofInt 8 ((readCodes (got.flatMap (fun x => bytesOf x.1))).1.getD (16 * (t / 4) + j) 0)).toInt)
    ∧ (∀ t, t < 16 → (t ∈ (e.stall p).winSpoil ↔ if t % 4 ≠ 3 then t + 1 ∈ (d.stall p).winSpoil
        else (got.getD (2 * (t / 4)) (0, false)).2 = true ∨ (got.getD (2 * (t / 4) + 1) (0, false)).2 = true ∨ (bad = true ∧ 2 * (t / 4) < n)))
    ∧ (e.stall p).winReady = d.work + 1)

/-- PFILL and LATCH queue a fill: the words it reads, at addresses fixed at issue, and what it fills is locked until it ends; a fill begins in the cycle
after its issue. PLANE_FILL_DONE and LATCH_FILL_DONE make the last access of the oldest fill of their kind, when no more than eight words are left and
all eight banks are free: the plane holds the bytes that were read, in the order that TRANS selects, and the latch the channels of the entries that were
read, with their biases. A failing entry is recorded as a fault and closes the stall from the next cycle on. WINOGRAD_TRANSFORM_DONE: from cycle t + 17
of a close on, the output transform has read the group's sums, which another firing may open again from the next cycle on. -/
def Obligations.Fills : Prop :=
  ∀ (s : State) (p : Nat), s.dev.boot.held = false → p < 6400 →
    (∀ (k w : Nat) (r : CtxRecord), Goes s.dev p k r (pfillNeeds p s.dev k r w) → IssueDue s.dev p 0x0A k r w →
      Answers (.pfill p) s (fun e =>
        (e.stall p).planeFills = (s.dev.stall p).planeFills ++
          [⟨fPlane w, k, tb w 22, s.dev.gSpoil p k (12 + fld w 24 2), s.dev.work,
            (List.range (if tb w 23 then 40 else 32)).map (fun i => effAddr r (s.dev.ptr p k (fld w 24 2)) (fld w 0 13 + i) % 8192), []⟩]
        ∧ (∀ now, (e.stall p).planeLocked now (fPlane w) = true) ∧ Only (issueRegs p k) s.dev e
        ∧ SameQueues p s.dev e ∧ SameFeeds p s.dev e ∧ SameAccs p s.dev e ∧ OtherStalls p s.dev e))
    ∧ (∀ (k w first : Nat) (set : Bool) (r : CtxRecord), first = fld w 16 9 → set = ((s.dev.stall p).ctx k).calSet →
      Goes s.dev p k r (latchNeeds p s.dev k r w) → IssueDue s.dev p 0x0B k r w →
      Answers (.latch p) s (fun e =>
        (e.stall p).latchFills = (s.dev.stall p).latchFills ++
          [⟨k, first, fld w 10 6, s.dev.gSpoil p k (12 + fld w 8 2), s.dev.work,
            ((List.range (fld w 10 6)).filter (fun i => (s.dev.stall p).entryInside (first + i))).flatMap (fun i =>
                [(s.dev.stall p).entryWord set (first + i) % 8192, ((s.dev.stall p).entryWord set (first + i) + 1) % 8192])
              ++ (List.range (s.dev.biasWords p k w)).map (fun i => effAddr r (s.dev.ptr p k (fld w 8 2)) (fld w 0 8 + i) % 8192), []⟩]
        ∧ (∀ now, (e.stall p).latchFilling now = true) ∧ Only (issueRegs p k) s.dev e
        ∧ SameQueues p s.dev e ∧ SameFeeds p s.dev e ∧ SameAccs p s.dev e ∧ OtherStalls p s.dev e))
    ∧ (∀ f, (s.dev.stall p).planeAsks s.dev.work = some f → s.dev.bell.hushed = false → f.todo.length ≤ 8 →
      allFree (s.dev.afterPrio3 p) = true →
      Answers (.planeFillDone p) s (fun e =>
        (e.stall p).plane f.plane = ((s.dev.stall p).plane f.plane).filled f (f.got ++ (s.dev.readWords p f.todo).1)
          ∧ (∀ i, i ≠ f.plane → (e.stall p).plane i = (s.dev.stall p).plane i) ∧ (e.stall p).planeFills = (s.dev.stall p).planeFills.drop 1
          ∧ (e.stall p).latch = (s.dev.stall p).latch ∧ Only (readRegs p) s.dev e
          ∧ SameQueues p s.dev e ∧ SameAccs p s.dev e ∧ OtherStalls p s.dev e))
    ∧ (∀ f fails, (s.dev.stall p).latchAsks s.dev.work = some f → s.dev.bell.hushed = false → f.todo.length ≤ 8 →
      allFree (s.dev.afterPrio2 p) = true → fails = ((s.dev.stall p).filledLatch f (f.got ++ (s.dev.readWords p f.todo).1)).2 →
      Answers (.latchFillDone p) s (fun e =>
        (e.stall p).latch = ((s.dev.stall p).filledLatch f (f.got ++ (s.dev.readWords p f.todo).1)).1
          ∧ (e.stall p).latchFills = (s.dev.stall p).latchFills.drop 1 ∧ (e.stall p).planes = (s.dev.stall p).planes
          ∧ (fails = [] → (e.stall p).faulting = (s.dev.stall p).faulting ∧ Only (readRegs p) s.dev e)
          ∧ (∀ bad rest, fails = bad :: rest → (e.stall p).faulting = true ∧ e.rb STL p 0x014 1 = true
            ∧ (s.dev.faultHeld STL p = false → e.regN STL p 0x020 = (if bad.2 = 1 then 0x4005 else 0x4008)
              ∧ e.reg STL p 0x024 = s.dev.whereP p 0 0 f.ctx (bad.1 % 512)))
          ∧ SameQueues p s.dev e ∧ SameAccs p s.dev e ∧ OtherStalls p s.dev e ∧ SameMemory s.dev e))
    ∧ (∀ wg c done, wg < 2 → KMap.get (s.dev.stall p).wgReads wg none = some (c, done) → c ≤ s.dev.work → s.dev.bell.hushed = false →
      Answers (.winogradTransformDone p wg) s (fun e =>
        (e.stall p).wgReading s.dev.work wg = true ∧ (e.stall p).wgReading (s.dev.work + 1) wg = false ∧ Only [] s.dev e
          ∧ SameQueues p s.dev e ∧ SameFeeds p s.dev e ∧ SameAccs p s.dev e ∧ OtherStalls p s.dev e))

/-- Where results go. RSC rescales the 16 sums of half GROUP, as the file holds them in the cycle after issue, through the latch channels of that half, and
sends their codes as two words from cycle t + 4 on; MOV takes one word, popped from a basket or read from the store, with its spoil mark and, as EMK says, its
end mark, and sends it in cycle t + 1. To a lane output the words are reserved behind those that wait there, with the context's generation; to
the stall store they are written in one cycle at the pointer's address. POST pointers advance by the words read and written. The latch and the
accumulators stay as they were. -/
def Obligations.ResultDestinations : Prop :=
  ∀ (s : State) (p k w : Nat) (r : CtxRecord), s.dev.boot.held = false → p < 6400 → (s.dev.stall p).outq.length = 4 →
    (s.dev.stall p).baskets.length = 4 →
    (∀ chan, chan = (if 16 < (s.dev.stall p).latch.length then 16 * (fGroup w % 2) else 0) →
      Goes s.dev p k r (rscNeeds p s.dev k r w) → IssueDue s.dev p 0x0C k r w →
      Answers (.rsc p) s (fun e =>
        ResultsSent p k (fDst w) (if s.dev.gSpoil p k (12 + fPtr w) then [] else dstWords r (s.dev.ptr p k (fPtr w)) 2) 4
            (s.dev.endMark p k r (fEmk w))
            (codeWords ((s.dev.rescaleRun p k chan ((s.dev.stall p).sumsSeen s.dev.work (16 * fGroup w) 16)).map (fun x => x.1))) s.dev e
          ∧ (e.stall p).baskets = (s.dev.stall p).baskets ∧ (e.stall p).reads = (s.dev.stall p).reads
          ∧ Advanced p k (fun i => if fDst w = 5 ∧ i = fPtr w then 2 else 0) s.dev e
          ∧ Only (issueRegs p k ++ ptrRegs p k) s.dev e ∧ SameFeeds p s.dev e ∧ SameAccs p s.dev e ∧ OtherStalls p s.dev e))
    ∧ (∀ x, x = (s.dev.movWord p k r w).1 → Goes s.dev p k r (movNeeds p s.dev k r w) → IssueDue s.dev p 0x10 k r w →
      Answers (.mov p) s (fun e =>
        ResultsSent p k (mDst w)
            (if s.dev.gSpoil p k (12 + mPd w) then [] else dstWords r ((s.dev.ptr p k (mPd w) + movAdvance w) % 2 ^ 32) 1) 1
            (if fld w 14 2 = 0 then x.2.2 else decide (fld w 14 2 = 1)) [(x.1, x.2.1)] s.dev e
          ∧ Popped p (mSrc w) s.dev e
          ∧ (e.stall p).reads = (s.dev.stall p).reads
          ∧ Advanced p k (fun i => (if mSrc w = 5 ∧ i = mPa w then 1 else 0) + (if mDst w = 5 ∧ i = mPd w then 1 else 0)) s.dev e
          ∧ Only (issueRegs p k ++ operandRegs p k) s.dev e ∧ SameFeeds p s.dev e ∧ SameAccs p s.dev e ∧ OtherStalls p s.dev e))

/-- The adaptation operations. G8P packs the two groups' sums into a block, whose five words are written at its pointer in cycle t + 3, and leaves SEED as
it was. M8U, V8U and WUPD take 32 draws from SEED in the issue cycle and queue the reads of their operands from cycle t + 1 on, at addresses fixed at issue:
the G8 block, then the block at P[PD]; for WUPD the M8, V8, W8 and C8 words. POST advances each pointer used by its block. When the last operand has been read,
the five words of the new block are written in the next cycle, and of WUPD the first half of each result in the same cycle and the other half in the next; a
spoiled operand spoils them all. What an operation has not yet written holds off the next one. -/
def Obligations.AdaptationResults : Prop :=
  (∀ (s : State) (p k w : Nat) (r : CtxRecord) (Q : Device → Prop), s.dev.boot.held = false → p < 6400 →
    (∀ e, Q e = ((e.stall p).adapting = true ∧ (e.stall p).outq = (s.dev.stall p).outq ∧ (e.stall p).baskets = (s.dev.stall p).baskets
      ∧ Only ((STL, p, 0x100) :: issueRegs p k ++ ptrRegs p k) s.dev e ∧ SameFeeds p s.dev e ∧ SameAccs p s.dev e ∧ OtherStalls p s.dev e)) →
    (∀ l b, l = (s.dev.stall p).sums (16 * fGroup w) 32 → b = g8pBlock (l.map (fun x => x.1)) (sx 8 (s.dev.greg p k 8).toNat) →
      Goes s.dev p k r (g8pNeeds p s.dev k r w) → IssueDue s.dev p 0x18 k r w →
      Answers (.g8p p) s (fun e =>
        (e.stall p).landing = (s.dev.stall p).landing ++ [⟨s.dev.work + 3,
          ((dstWords r (s.dev.ptr p k (dPd w)) 5).zip (blockWords b.1 (b.2.1.map codeByte))).map (fun x => (x.1, x.2, l.any (fun y => y.2))), true⟩]
        ∧ (e.stall p).reads = (s.dev.stall p).reads ∧ e.reg STL p 0x100 = s.dev.reg STL p 0x100
        ∧ Advanced p k (fun i => if dPost w ∧ i = dPd w then 5 else 0) s.dev e ∧ Q e))
    ∧ (∀ c op second, (c, op, second) ∈ [(Instr.m8u p, 0x19, false), (Instr.v8u p, 0x1A, true)] →
      Goes s.dev p k r (momentNeeds p s.dev k r w) → IssueDue s.dev p op k r w →
      Answers c s (fun e =>
        (e.stall p).reads = (s.dev.stall p).reads ++ [⟨s.dev.work + 1, k,
          .moment second (if second then shiftOf (fld (s.dev.greg p k 10).toNat 20 4) else shiftOf (fld (s.dev.greg p k 10).toNat 16 3))
            (draws 32 (s.dev.reg STL p 0x100)).1 (dstWords r (s.dev.ptr p k (dPd w)) 5),
          [(List.range 5).map (fun i => (i, effAddr r (s.dev.ptr p k (dPa w)) i % 8192)),
           (List.range 5).map (fun i => (5 + i, effAddr r (s.dev.ptr p k (dPd w)) i % 8192))], []⟩]
        ∧ (e.stall p).landing = (s.dev.stall p).landing ∧ e.reg STL p 0x100 = (draws 32 (s.dev.reg STL p 0x100)).2
        ∧ ((e.stall p).ctx k).drew = true
        ∧ Advanced p k (fun i => if dPost w then (if i = dPa w then 5 else 0) + (if i = dPd w then 5 else 0) else 0) s.dev e ∧ Q e))
    ∧ (∀ dst words, dst = wupdWords r (s.dev.ptr p k (dPd w)) (s.dev.crofs p k) →
      words = dstWords r (s.dev.ptr p k (dPa w)) 5 ++ dstWords r (s.dev.ptr p k (dPx w)) 5 ++ dst →
      Goes s.dev p k r (wupdNeeds p s.dev k r w) → IssueDue s.dev p 0x1B k r w →
      Answers (.wupd p) s (fun e =>
        (e.stall p).reads = (s.dev.stall p).reads ++ [⟨s.dev.work + 1, k,
          .wupd (s.dev.greg p k 10) (s.dev.greg p k 11) (draws 32 (s.dev.reg STL p 0x100)).1 dst,
          wupdCycles.map (fun c => c.map (fun i => (i, words.getD i 0 % 8192))), []⟩]
        ∧ (e.stall p).landing = (s.dev.stall p).landing ∧ e.reg STL p 0x100 = (draws 32 (s.dev.reg STL p 0x100)).2
        ∧ ((e.stall p).ctx k).drew = true
        ∧ Advanced p k (fun i => if dPost w then (if i = dPa w then 5 else 0) + (if i = dPx w then 5 else 0) + (if i = dPd w then 4 else 0) else 0)
            s.dev e
        ∧ Q e)))
  ∧ (∀ (d : Device) (p : Nat) (dst rs : List Nat) (got : List (DWord × Bool)) (bad : Bool), bad = got.any (fun x => x.2) →
    (∀ second shift b, b = (momentBlock second shift rs (got.map (fun x => x.1))).1 →
      ((d.momentDone p second shift rs dst got).stall p).landing = (d.stall p).landing ++
        [⟨d.work + 1, (dst.zip b).map (fun x => (x.1, x.2, bad)), true⟩])
    ∧ (∀ g10 g11 b, b = (wupdResult g10 g11 rs (got.map (fun x => x.1))).1 →
      ((d.wupdDone p g10 g11 rs dst got).stall p).landing = (d.stall p).landing ++
        [⟨d.work, ((wupdHalf false dst).zip (wupdHalf false b)).map (fun x => (x.1, x.2, bad)), true⟩,
         ⟨d.work + 1, ((wupdHalf true dst).zip (wupdHalf true b)).map (fun x => (x.1, x.2, bad)), true⟩]))

/-- T5 steering mode. GET pops a data word and takes its low or its high half, GETT pops a LIMIT, ARM or USER token and takes its payload, each
with the spoil mark that goes with it; PUT pushes g[GB] and g[GA] as one word in cycle t + 1. DJNZ counts its register down and branches while it is not 0;
BRCMP compares two registers as signed numbers. A branch is taken one instruction later. One that tests a spoiled register falls through, and spoils the
pushes of the body. Every register but those named and those of the issue, every memory, the array and every other stall stay as they were. -/
def Obligations.SteeringMode : Prop :=
  ∀ (s : State) (p k w : Nat) (r : CtxRecord) (Q : Device → Prop), s.dev.boot.held = false → p < 6400 → s.dev.t5 p = true →
    (s.dev.stall p).outq.length = 4 → (s.dev.stall p).baskets.length = 4 →
    (∀ e, Q e = (SameMemory s.dev e ∧ SameFeeds p s.dev e ∧ SameAccs p s.dev e ∧ OtherStalls p s.dev e)) →
    (∀ b x, b = fld w 20 2 → s.dev.headOf p b = some x → x.ctl = false → x.gen = ((s.dev.stall p).ctx k).gen → IssueDue s.dev p 0x30 k r w →
      Answers (.get p) s (fun e =>
        e.greg p k (fGd w) = (if tb w 19 then (x.data >>> 32).setWidth 32 else x.data.setWidth 32)
          ∧ e.gSpoil p k (fGd w) = (x.spoil || !x.parOk)
          ∧ Popped p b s.dev e
          ∧ (e.stall p).outq = (s.dev.stall p).outq
          ∧ SameRegsBut ((STL, p, 0x200 + 64 * k + 4 * fGd w) :: parityRegs p b ++ issueRegs p k) s.dev e ∧ Q e))
    ∧ (∀ b x, b = fld w 20 2 → s.dev.headOf p b = some x → s.dev.gettReady p b = true → IssueDue s.dev p 0x32 k r w →
      Answers (.gett p) s (fun e =>
        e.greg p k (fGd w) = x.payload ∧ e.gSpoil p k (fGd w) = false
          ∧ Popped p b s.dev e
          ∧ (e.stall p).outq = (s.dev.stall p).outq
          ∧ SameRegsBut ((STL, p, 0x200 + 64 * k + 4 * fGd w) :: issueRegs p k) s.dev e ∧ Q e))
    ∧ (s.dev.outRoom p (fld w 16 2) 1 = true → IssueDue s.dev p 0x31 k r w →
      Answers (.put p) s (fun e =>
        ResultsSent p k (fld w 16 2) [] 1 (tb w 15) [((s.dev.greg p k (fld w 18 4) ++ s.dev.greg p k (fld w 22 4) : DWord),
            s.dev.gSpoil p k (fld w 22 4) || s.dev.gSpoil p k (fld w 18 4))] s.dev e
          ∧ (e.stall p).baskets = (s.dev.stall p).baskets ∧ SameRegsBut (issueRegs p k) s.dev e ∧ Q e))
    ∧ (∀ g, g = fld w 22 4 → IssueDue s.dev p 0x33 k r w → s.dev.branchOut p k r false (djnzTarget p s.dev k w) = false →
      Answers (.djnz p) s (fun e =>
        e.greg p k g = s.dev.greg p k g - 1 ∧ e.gSpoil p k g = s.dev.gSpoil p k g
          ∧ (s.dev.gSpoil p k g = false → s.dev.greg p k g ≠ 1 →
              (e.stall p).branchTo = some (fld w 0 8) ∧ e.pc p k = (s.dev.pc p k + 1) % 256)
          ∧ (s.dev.gSpoil p k g = true ∨ s.dev.greg p k g = 1 → (e.stall p).branchTo = none)
          ∧ ((e.stall p).ctx k).spoilPushes = (((s.dev.stall p).ctx k).spoilPushes || s.dev.gSpoil p k g)
          ∧ SameRegsBut ((STL, p, 0x200 + 64 * k + 4 * g) :: issueRegs p k) s.dev e ∧ SameQueues p s.dev e ∧ Q e))
    ∧ (∀ (a b : Word) (bad taken : Bool), a = s.dev.greg p k (fld w 19 4) → b = s.dev.greg p k (fld w 15 4) →
      bad = (s.dev.gSpoil p k (fld w 19 4) || s.dev.gSpoil p k (fld w 15 4)) →
      taken = (if fSrcA w = 0 then decide (a = b) else if fSrcA w = 1 then decide (a ≠ b)
        else if fSrcA w = 2 then decide (a.toInt < b.toInt) else decide (b.toInt ≤ a.toInt)) →
      IssueDue s.dev p 0x34 k r w → s.dev.branchOut p k r false (brcmpTarget p s.dev k w) = false →
      Answers (.brcmp p) s (fun e =>
        (taken = true → bad = false → (e.stall p).branchTo = some (fld w 0 8) ∧ e.pc p k = (s.dev.pc p k + 1) % 256)
          ∧ (taken = false ∨ bad = true → (e.stall p).branchTo = none)
          ∧ ((e.stall p).ctx k).spoilPushes = (((s.dev.stall p).ctx k).spoilPushes || bad)
          ∧ SameRegsBut (issueRegs p k) s.dev e ∧ SameQueues p s.dev e ∧ Q e))

/-! ### Baskets, lanes and tokens -/

/-- A word pushed to a basket below its capacity enters the chain directly when the spill queue and the ring are both empty and the chain holds fewer than 8
words; otherwise it enters the tail of the spill queue, which takes 4. A push that finds the basket full is 0x6001 and one that finds the spill queue full is
0x6002: the word is lost, the fault is recorded, the stall closes from the next cycle on, and a halt is reported. Stated of the shared operation. -/
def Obligations.BasketPushPlace : Prop :=
  ∀ (d e : Device) (p b : Nat) (w : BWord) (k : Basket), p < 6400 → b < (d.stall p).baskets.length → (d.stall p).basket b = k → e = d.basketPush p b w →
    (∀ j, j ≠ b → (e.stall p).basket j = (d.stall p).basket j) ∧ OtherStalls p d e ∧ SameMemory d e
    ∧ (k.depth < 8 + k.ext → k.spill = [] ∧ k.ringCount = 0 ∧ k.chain.length < 8 →
      (e.stall p).basket b = { k with chain := k.chain ++ [⟨w, d.work, false⟩] } ∧ Only [] d e)
    ∧ (k.depth < 8 + k.ext → ¬(k.spill = [] ∧ k.ringCount = 0 ∧ k.chain.length < 8) → k.spill.length < 4 →
      (e.stall p).basket b = { k with spill := k.spill ++ [⟨w, d.work, false⟩] } ∧ Only [] d e)
    ∧ (8 + k.ext ≤ k.depth ∨ (¬(k.spill = [] ∧ k.ringCount = 0 ∧ k.chain.length < 8) ∧ 4 ≤ k.spill.length) →
      (e.stall p).basket b = k ∧ (e.stall p).faulting = true ∧ e.bell.halting = true ∧ e.faultHeld BSK p = true
        ∧ (d.faultHeld BSK p = false → e.regN BSK p 0x020 = (if 8 + k.ext ≤ k.depth then 0x6001 else 0x6002)))

/-- OUTPUT_PUSH: at a wheel entry that selects the output's own queue, the oldest ready word leaves, one a cycle, with the entry's DLV, and FREE of every leaf
of its route decrements. LANE_ARRIVE: a word that is due leaves the lane; with DLV set it enters the basket there, or, at the edge, the queue of an outgoing
Aisle channel or the egress basket; every other output whose next entry selects its side sends it on in the next cycle. CREDIT_RETURN: a credit that is
due increments FREE of its line, which brings one a cycle. -/
def Obligations.LanesAndCredits : Prop :=
  ∀ s : State, s.dev.boot.held = false → s.dev.bell.hushed = false →
    (∀ p o x rest en, p < 6400 → o < 4 → (s.dev.stall p).outq.getD o [] = x :: rest → o ∉ (s.dev.stall p).pushed →
      en = s.dev.wheelEntry p o s.dev.arcade.wheel → en % 8 = 1 → x.ready ≤ s.dev.work → 0 < s.dev.outFree p o →
      Answers (.outputPush p o) s (fun e =>
        (∀ j, j < 4 → (e.stall p).outq.getD j [] = if j = o then rest else (s.dev.stall p).outq.getD j [])
          ∧ o ∈ (e.stall p).pushed ∧ (∀ j, j ∈ s.dev.leafLines p o → e.freeOf p o j = s.dev.freeOf p o j - 1)
          ∧ e.arcade.lanes = s.dev.arcade.lanes ++ ((s.dev.laneTo p o).map (fun dest => (⟨dest, s.dev.work, x.w.sealed, tb en 3⟩ : Flight))).toList
          ∧ (e.stall p).baskets = (s.dev.stall p).baskets ∧ SameFeeds p s.dev e ∧ SameAccs p s.dev e ∧ OtherStalls p s.dev e
          ∧ Only ((s.dev.leafLines p o).map (fun j => (ARC, p, 0x1A0 + 0x10 * o + 4 * j))) s.dev e))
    ∧ (∀ p b x, p < 6400 → b < 4 → b < (s.dev.stall p).baskets.length →
      s.dev.arcade.lanes.find? (fun y => decide (y.dest = .basket p b ∧ y.due ≤ s.dev.work)) = some x →
      Answers (.laneArrive (.basket p b)) s (fun e =>
        (x.dlv = true → (e.stall p).baskets = ((s.dev.basketPush p b x.w).stall p).baskets)
          ∧ (x.dlv = false → e.stalls = s.dev.stalls)
          ∧ (∀ o en, o < 4 → o ≠ b → en = s.dev.wheelEntry p o ((s.dev.arcade.wheel + 1) % 16) → en % 8 = 2 + b →
            ∀ dest, s.dev.laneTo p o = some dest → (⟨dest, s.dev.work + 1, x.w, tb en 3⟩ : Flight) ∈ e.arcade.lanes)
          ∧ OtherStalls p s.dev e ∧ SameMemory s.dev e))
    ∧ (∀ n x, n < 320 → s.dev.arcade.lanes.find? (fun y => decide (y.dest = .edge n ∧ y.due ≤ s.dev.work)) = some x → x.dlv = true →
      (∀ k c, s.dev.edgeAisle n = some (k, c) →
        Answers (.laneArrive (.edge n)) s (fun e =>
          KMap.get e.aisles.outs k none = some { c with queue := c.queue ++ [x.w] } ∧ e.stalls = s.dev.stalls ∧ Only [] s.dev e))
      ∧ (s.dev.edgeAisle n = none → s.dev.edgePort n = none → (s.dev.egress n).items < 16 → x.w.parOk = true →
        Answers (.laneArrive (.edge n)) s (fun e =>
          e.egress n = (s.dev.egress n).pack s.dev.work x.w ∧ e.stalls = s.dev.stalls ∧ Only [] s.dev e)))
    ∧ (∀ p o j c, p < 6400 → o < 4 → j < 4 → c ∈ s.dev.arcade.credits → c.prod = .lane p o j → c.due ≤ s.dev.work →
      .lane p o j ∉ s.dev.arcade.credited → s.dev.freeOf p o j < 4095 →
      Answers (.creditReturn p o j) s (fun e =>
        e.freeOf p o j = s.dev.freeOf p o j + 1 ∧ e.arcade.credits.length + 1 = s.dev.arcade.credits.length
          ∧ .lane p o j ∈ e.arcade.credited ∧ e.stalls = s.dev.stalls ∧ Only [(ARC, p, 0x1A0 + 0x10 * o + 4 * j)] s.dev e))

/-- The extension ring. Each access that a basket asks for, and whose bank no extension access ahead of it has taken in this cycle, takes place. A data
write moves the head of the spill queue to the ring's tail entry, where the store then holds its data, with its tag kept for the group's tag word; the
tag write of a full group puts its tags in that word; a ring read moves the head entry into the register chain, with its tag; a tag read takes the tags of
the head's group, and one that finds them lost gives up the group with 0x6003. No other word of any memory changes. -/
def Obligations.ExtensionRing : Prop :=
  ∀ (s : State) (p b : Nat) (k : Basket) (free : ExtKind → Nat → Prop), s.dev.boot.held = false → s.dev.bell.hushed = false → p < 6400 → b < 4 →
    b < (s.dev.stall p).baskets.length → (s.dev.stall p).basket b = k →
    (∀ x a, free x a ↔ a % 8 ∉ (s.dev.stall p).afterExt s.dev.work (extOrder.takeWhile (fun e => !decide (e = (x, b))))) →
    (∀ h rest, k.spill = h :: rest → h.at_ < s.dev.work → k.wrote = false → k.tagDue = none → k.ringCount < k.ext →
      (k.ringCount ≠ 0 ∨ 8 ≤ k.chain.length) → free .dataWrite (k.entryWord k.tail) →
      Answers (.spillWrite p b) s (fun e =>
        ((e.stall p).basket b).spill = rest ∧ ((e.stall p).basket b).ringCount = k.ringCount + 1 ∧ ((e.stall p).basket b).chain = k.chain
          ∧ ((e.stall p).basket b).tagAcc.length = k.tagAcc.length + 1
          ∧ ((e.stall p).basket b).tagDue = (if k.tagAcc.length = 7 then some (k.tail / 8) else none)
          ∧ e.storeCode p (k.entryWord k.tail) = s.dev.storedCode p h.w.data (h.w.spoil || !h.w.parOk)
          ∧ SameStoreBut p (k.entryWord k.tail) s.dev e ∧ SameRegsBut (writeRegs ++ parityRegs p b) s.dev e ∧ OtherStalls p s.dev e))
    ∧ (∀ g, k.tagDue = some g → k.wrote = false → free .tagWrite (k.tagWord g) →
      Answers (.tagWrite p b) s (fun e =>
        ((e.stall p).basket b).tagDue = none ∧ ((e.stall p).basket b).tagAcc = [] ∧ ((e.stall p).basket b).chain = k.chain
          ∧ e.storeCode p (k.tagWord g) = s.dev.storedCode p (wordOf k.tagAcc) false
          ∧ SameStoreBut p (k.tagWord g) s.dev e ∧ SameRegsBut writeRegs s.dev e ∧ OtherStalls p s.dev e))
    ∧ (∀ tags x, k.headTags = some tags → k.refilled = false → 0 < k.ringCount → k.chain.length < 8 → free .dataRead (k.entryWord k.ringHead) →
      x = decodeWord (s.dev.storeCode p (k.entryWord k.ringHead)) →
      Answers (.ringRead p b) s (fun e =>
        ((e.stall p).basket b).chain = k.chain ++ [⟨ofTag x.data x.spoil (tags.getD (k.ringHead % 8) 0), s.dev.work, true⟩]
          ∧ ((e.stall p).basket b).ringCount = k.ringCount - 1 ∧ ((e.stall p).basket b).ringHead = (k.ringHead + 1) % k.ext
          ∧ ((e.stall p).basket b).spill = k.spill ∧ Only (readRegs p) s.dev e ∧ OtherStalls p s.dev e))
    ∧ (∀ x, 0 < k.ringCount → k.refilled = false → k.chain.length < 8 → k.ringHead % 8 = 0 → k.headTags = none →
      free .tagRead (k.tagWord (k.ringHead / 8)) → x = decodeWord (s.dev.storeCode p (k.tagWord (k.ringHead / 8))) →
      Answers (.tagRead p b) s (fun e =>
        ((e.stall p).basket b).chain = k.chain ∧ ((e.stall p).basket b).spill = k.spill ∧ SameMemory s.dev e ∧ OtherStalls p s.dev e
          ∧ (x.spoil = false → ((e.stall p).basket b).tagNow = bytesOf x.data ∧ ((e.stall p).basket b).ringCount = k.ringCount
            ∧ SameRegsBut (readRegs p) s.dev e)
          ∧ (x.spoil = true → ((e.stall p).basket b).ringCount = k.ringCount - 8 ∧ (e.stall p).faulting = true ∧ e.faultHeld BSK p = true
            ∧ (s.dev.faultHeld BSK p = false → e.regN BSK p 0x020 = 0x6003))))

/-- A SLOT token joins: it is taken, and until every slot basket has given one the context waits. The token that completes the join begins the
body: the counters are set to 0, the loop limits to LOOP_BOUND, the feed count to 0 and the PC to ENTRY; the slot and its CAL_SET bit are held for the body, a
copy is asked for on the FWD_SLOT lanes, and a context that is not current is asked for. A body that is owed is voided instead: its VOID copy goes out and its
slot baskets drain. -/
def Obligations.SlotTokenBeginsBody : Prop :=
  ∀ (s : State) (p b k : Nat) (w : BWord) (r : CtxRecord) (c : Ctx), s.dev.boot.held = false → p < 6400 → b < 4 →
    b < (s.dev.stall p).baskets.length → w.tctx = k → (s.dev.stall p).ctx k = c → c.rec_ = some r → s.dev.headOf p b = some w → w.kind = 1 →
    s.dev.mayTake p b = true → s.dev.tokenFails p w = false → c.joinOk w = true →
    ((∃ x ∈ c.slotBaskets, x ∉ c.joined ++ [b]) →
      Answers (.slotToken p b) s (fun e =>
        ((e.stall p).ctx k).joined = c.joined ++ [b] ∧ ((e.stall p).ctx k).joinPayload = w.payload ∧ ((e.stall p).ctx k).joinVoid = c.joinVoid
          ∧ ((e.stall p).ctx k).inBody = c.inBody ∧ (e.stall p).forward = (s.dev.stall p).forward ∧ Popped p b s.dev e ∧ OtherStalls p s.dev e
          ∧ Only [] s.dev e))
    ∧ ((∀ x ∈ c.slotBaskets, x ∈ c.joined ++ [b]) → c.owed = 0 → c.joinVoid = false →
      Answers (.slotToken p b) s (fun e =>
        ((e.stall p).ctx k).inBody = true ∧ ((e.stall p).ctx k).slot = w.slot ∧ ((e.stall p).ctx k).limits = r.loopBound
          ∧ ((e.stall p).ctx k).calSet = tb w.payload.toNat 24 ∧ ((e.stall p).ctx k).fed = 0 ∧ ((e.stall p).ctx k).joined = []
          ∧ e.pc p k = r.entry % 256 ∧ (∀ i, i < 4 → e.cnt p k i = 0)
          ∧ (e.stall p).switchTo = (if k = (s.dev.stall p).cur then (s.dev.stall p).switchTo else some k)
          ∧ Forwarded p w.payload c.gen r.fwdSlot s.dev.work s.dev e ∧ Popped p b s.dev e ∧ OtherStalls p s.dev e
          ∧ e.reg STL p (0x180 + 4 * k) = s.dev.reg STL p (0x180 + 4 * k) ∧ Only (issueRegs p k) s.dev e))
    ∧ ((∀ x ∈ c.slotBaskets, x ∈ c.joined ++ [b]) → 0 < c.owed →
      Answers (.slotToken p b) s (fun e =>
        ((e.stall p).ctx k).owed = c.owed - 1 ∧ ((e.stall p).ctx k).inBody = c.inBody ∧ ((e.stall p).ctx k).draining = c.slotBaskets
          ∧ ((e.stall p).ctx k).drainSlot = w.slot ∧ Forwarded p (voidPayload k w.slot) c.gen r.fwdSlot s.dev.work s.dev e
          ∧ Popped p b s.dev e ∧ OtherStalls p s.dev e ∧ Only [(BEL, 0, 0x034)] s.dev e))

/-- The other tokens. LIMIT sets its loop's limit, at most LOOP_BOUND, and ARM the ARM value of its context; an instruction of the same cycle still sees the
old value, and a copy is asked for from the next cycle on. A LIMIT above LOOP_BOUND is 0x4004. A token that fails a check of its own is taken, the fault is
recorded (twin check 0x4005, kind check 0x4006), and the stall closes from the next cycle on. A copy that waits to be forwarded is placed on each of its
lanes that has room, and waits for the others. -/
def Obligations.LimitArmInvalidForward : Prop :=
  ∀ (s : State) (p b : Nat), s.dev.boot.held = false → p < 6400 → b < 4 →
    (∀ (w : BWord) (k : Nat) (r : CtxRecord) (c : Ctx), b < (s.dev.stall p).baskets.length → s.dev.headOf p b = some w → w.tctx = k →
      (s.dev.stall p).ctx k = c → c.rec_ = some r → s.dev.mayTake p b = true → s.dev.tokenFails p w = false →
      (w.kind = 2 → fld w.payload.toNat 0 16 ≤ r.loopBound.getD (fld w.payload.toNat 22 2) 0 → c.limits.length = 4 →
        Answers (.limitToken p b) s (fun e =>
          ((e.stall p).ctx k).limits.getD (fld w.payload.toNat 22 2) 0 = fld w.payload.toNat 0 16
            ∧ (∀ i, i ≠ fld w.payload.toNat 22 2 → ((e.stall p).ctx k).limits.getD i 0 = c.limits.getD i 0)
            ∧ ((e.stall p).ctx k).limitsWas = some (c.limitsWas.getD c.limits) ∧ ((e.stall p).ctx k).arm = c.arm
            ∧ Forwarded p w.payload c.gen r.fwdLimit s.dev.nextWork s.dev e ∧ Popped p b s.dev e ∧ OtherStalls p s.dev e ∧ Only [] s.dev e))
      ∧ (w.kind = 2 → r.loopBound.getD (fld w.payload.toNat 22 2) 0 < fld w.payload.toNat 0 16 →
        Answers (.limitToken p b) s (fun e =>
          (e.stall p).faulting = true ∧ e.bell.halting = true ∧ (s.dev.faultHeld STL p = false → e.regN STL p 0x020 = 0x4004)
            ∧ ((e.stall p).ctx k).limits = c.limits ∧ Popped p b s.dev e ∧ OtherStalls p s.dev e ∧ SameMemory s.dev e))
      ∧ (w.kind = 3 →
        Answers (.armToken p b) s (fun e =>
          ((e.stall p).ctx k).arm = fld w.payload.toNat 0 2 ∧ ((e.stall p).ctx k).armWas = some (c.armWas.getD c.arm)
            ∧ ((e.stall p).ctx k).limits = c.limits
            ∧ Forwarded p w.payload c.gen r.fwdArm s.dev.nextWork s.dev e ∧ Popped p b s.dev e ∧ OtherStalls p s.dev e ∧ Only [] s.dev e)))
    ∧ (∀ w : BWord, s.dev.headOf p b = some w → w.ctl = true → s.dev.mayTake p b = true → s.dev.tokenFails p w = true →
      b < (s.dev.stall p).baskets.length →
      Answers (.invalidToken p b) s (fun e =>
        (e.stall p).faulting = true ∧ e.bell.halting = true ∧ e.rb STL p 0x014 1 = true
          ∧ (s.dev.faultHeld STL p = false → e.regN STL p 0x020 = (if tokenClean w then 0x4006 else 0x4005))
          ∧ Popped p b s.dev e ∧ OtherStalls p s.dev e ∧ SameMemory s.dev e))
    ∧ (∀ f rest, (s.dev.stall p).forward = f :: rest → f.lanes.Nodup → f.from_ ≤ s.dev.work → (s.dev.stall p).outq.length = 4 →
      s.dev.bell.hushed = false →
      Answers (.tokenForward p) s (fun e =>
        (∀ o, o < 4 → (e.stall p).outq.getD o [] = (s.dev.stall p).outq.getD o [] ++
          (if o ∈ f.lanes ∧ s.dev.outRoom p o 1 = true then [⟨tokenWord f.payload f.gen, s.dev.work⟩] else []))
          ∧ ((∀ o ∈ f.lanes, s.dev.outRoom p o 1 = true) → (e.stall p).forward = rest)
          ∧ ((∃ o ∈ f.lanes, s.dev.outRoom p o 1 = false) →
            (e.stall p).forward = { f with lanes := f.lanes.filter (fun o => !s.dev.outRoom p o 1) } :: rest)
          ∧ (e.stall p).baskets = (s.dev.stall p).baskets ∧ OtherStalls p s.dev e ∧ Only [] s.dev e))

/-- A VOID token for the slot of the open body aborts it: the context waits at ENTRY, its FIRE_COUNT is made up to the firings of a whole body, its VOID copy
is asked for, and its slot baskets drain from the next cycle on. A VOID token that completes a join voids the body that would begin. A GEN token of the next
generation, in the load's window, joins, and on the join the owed bodies lapse and a copy is asked for; another generation, or one outside the window, is
0x4007. Draining pops a data word, a LIMIT, ARM or USER token, or the VOID token of its slot, and ends at any other token, which stays. -/
def Obligations.VoidGenDrain : Prop :=
  ∀ (s : State) (p b k : Nat) (w : BWord) (r : CtxRecord) (c : Ctx), s.dev.boot.held = false → p < 6400 → b < 4 → k < 8 →
    b < (s.dev.stall p).baskets.length → s.dev.headOf p b = some w → (s.dev.stall p).ctx k = c → c.rec_ = some r →
    (w.kind = 5 → w.tctx = k → s.dev.mayTake p b = true → s.dev.tokenFails p w = false → c.inBody = true →
      Answers (.voidToken p b) s (fun e =>
        ((e.stall p).ctx k).inBody = false ∧ e.pc p k = r.entry % 256 ∧ ((e.stall p).ctx k).drainSlot = c.slot
          ∧ ((e.stall p).ctx k).draining = c.slotBaskets ∧ ((e.stall p).ctx k).drainFrom = s.dev.nextWork
          ∧ e.regN STL p (0x180 + 4 * k) = (s.dev.regN STL p (0x180 + 4 * k) + (s.dev.perBody p k - c.fired)) % 2 ^ 32
          ∧ Forwarded p (voidPayload k c.slot) c.gen r.fwdSlot s.dev.nextWork s.dev e ∧ Popped p b s.dev e ∧ OtherStalls p s.dev e
          ∧ Only ((BEL, 0, 0x034) :: (LDG, 0, 0x030) :: issueRegs p k) s.dev e))
    ∧ (w.kind = 5 → w.tctx = k → s.dev.mayTake p b = true → s.dev.tokenFails p w = false → c.inBody = false → c.joinOk w = true → c.owed = 0 →
      (∀ x ∈ c.slotBaskets, x ∈ c.joined ++ [b]) →
      Answers (.voidToken p b) s (fun e =>
        ((e.stall p).ctx k).inBody = false ∧ ((e.stall p).ctx k).draining = c.slotBaskets ∧ ((e.stall p).ctx k).drainSlot = w.slot
          ∧ ((e.stall p).ctx k).joined = []
          ∧ e.regN STL p (0x180 + 4 * k) = (s.dev.regN STL p (0x180 + 4 * k) + s.dev.perBody p k) % 2 ^ 32
          ∧ Forwarded p (voidPayload k w.slot) c.gen r.fwdSlot s.dev.work s.dev e ∧ Popped p b s.dev e ∧ OtherStalls p s.dev e
          ∧ Only [(BEL, 0, 0x034), (STL, p, 0x180 + 4 * k)] s.dev e))
    ∧ (w.isGen = true → w.tctx = k → s.dev.mayTake p b = true → s.dev.tokenFails p w = false →
      (s.dev.genWindow = true → BitVec.ofNat 2 w.payload.toNat = (s.dev.stall p).gen + 1 →
        Answers (.genToken p b) s (fun e =>
          ((e.stall p).ctx k).genJoined = c.genJoined ++ [b]
            ∧ ((∀ x ∈ c.slotBaskets, x ∈ c.genJoined ++ [b]) → ((e.stall p).ctx k).genDone = true ∧ ((e.stall p).ctx k).owed = 0
              ∧ Forwarded p w.payload c.gen r.fwdSlot s.dev.work s.dev e)
            ∧ ((∃ x ∈ c.slotBaskets, x ∉ c.genJoined ++ [b]) → ((e.stall p).ctx k).genDone = c.genDone ∧ ((e.stall p).ctx k).owed = c.owed
              ∧ (e.stall p).forward = (s.dev.stall p).forward)
            ∧ Popped p b s.dev e ∧ OtherStalls p s.dev e ∧ Only [] s.dev e))
      ∧ (s.dev.genWindow = false ∨ BitVec.ofNat 2 w.payload.toNat ≠ (s.dev.stall p).gen + 1 →
        Answers (.genToken p b) s (fun e =>
          (e.stall p).faulting = true ∧ (s.dev.faultHeld STL p = false → e.regN STL p 0x020 = 0x4007) ∧ Popped p b s.dev e
            ∧ OtherStalls p s.dev e ∧ SameMemory s.dev e)))
    ∧ (∀ pops : Prop, (pops ↔ w.ctl = false ∨ (s.dev.tokenFails p w = false
        ∧ (w.kind = 2 ∨ w.kind = 3 ∨ w.kind = 6 ∨ (w.kind = 5 ∧ w.tctx = k ∧ w.slot = c.drainSlot)))) →
      s.dev.bell.hushed = false → s.dev.closed p = false → b ∈ c.draining → c.draining.Nodup → c.drainFrom ≤ s.dev.work →
      (∀ j, j < 8 → j ≠ k → b ∉ ((s.dev.stall p).ctx j).draining) →
      Answers (.drainPop p) s (fun e =>
        (pops → (e.stall p).basket b = ((s.dev.stall p).basket b).popHead s.dev.work ∧ b ∈ ((e.stall p).ctx k).draining)
          ∧ (¬pops → (e.stall p).basket b = (s.dev.stall p).basket b ∧ b ∉ ((e.stall p).ctx k).draining)
          ∧ (∀ j, (∀ i, i < 8 → j ∉ ((s.dev.stall p).ctx i).draining) → (e.stall p).basket j = (s.dev.stall p).basket j)
          ∧ (e.stall p).outq = (s.dev.stall p).outq ∧ OtherStalls p s.dev e
          ∧ Only ((List.range 4).flatMap (parityRegs p)) s.dev e))

/-- A requested context switch takes place once no group is open and no latch fill is in progress, and no instruction issues in its cycle. The line-buffer
feed makes one step a cycle: one that pads writes a word of pad codes, one that takes pops a word of the context's generation and writes it with its spoil mark,
each at the feed's next address and when its bank is free; one that discards only pops. A word of an older or later generation is 0x4007. -/
def Obligations.SwitchAndFeed : Prop :=
  ∀ (s : State) (p : Nat), s.dev.boot.held = false → p < 6400 → s.dev.bell.hushed = false → s.dev.closed p = false →
    (∀ k, (s.dev.stall p).switchTo = some k → (s.dev.stall p).groupOpen s.dev.work = false → (s.dev.stall p).latchFilling s.dev.work = false →
      Answers (.contextSwitch p) s (fun e =>
        e.stall p = { s.dev.stall p with cur := k, switchTo := none, noIssue := some s.dev.work } ∧ e.mayIssue p = false
          ∧ OtherStalls p s.dev e ∧ Only [] s.dev e))
    ∧ (∀ k r l x a c, (s.dev.stall p).feeding = some (k, r, l, x) → (s.dev.stall p).fedAt ≠ some s.dev.work → c = (s.dev.stall p).ctx k →
      a = feedAddr r c.fed % 8192 →
      (x = .pad → a % 8 ∉ s.dev.beforeFeed p →
        Answers (.lbFeedStep p) s (fun e =>
          ((e.stall p).ctx k).fed = c.fed + 1 ∧ ((e.stall p).ctx k).feedStep = c.feedStep + 1
            ∧ e.storeCode p a = s.dev.storedCode p (wordOf (List.replicate 8 l.padCode)) false
            ∧ (e.stall p).baskets = (s.dev.stall p).baskets
            ∧ SameStoreBut p a s.dev e ∧ SameRegsBut writeRegs s.dev e ∧ OtherStalls p s.dev e))
      ∧ (∀ b w, b < (s.dev.stall p).baskets.length → s.dev.headOf p b = some w → w.ctl = false → w.gen = c.gen →
        (x = .take b → a % 8 ∉ s.dev.beforeFeed p →
          Answers (.lbFeedStep p) s (fun e =>
            ((e.stall p).ctx k).fed = c.fed + 1 ∧ ((e.stall p).ctx k).feedStep = c.feedStep + 1
              ∧ e.storeCode p a = s.dev.storedCode p w.data (w.spoil || !w.parOk) ∧ Popped p b s.dev e
              ∧ SameStoreBut p a s.dev e ∧ SameRegsBut (writeRegs ++ parityRegs p b) s.dev e ∧ OtherStalls p s.dev e))
        ∧ (x = .drop b →
          Answers (.lbFeedStep p) s (fun e =>
            ((e.stall p).ctx k).fed = c.fed ∧ ((e.stall p).ctx k).feedStep = c.feedStep + 1 ∧ Popped p b s.dev e
              ∧ Only (parityRegs p b) s.dev e ∧ OtherStalls p s.dev e)))
      ∧ (∀ b, x = .take b ∨ x = .drop b → s.dev.headGen p b c.gen ∈ [some 2, some 3] →
        Answers (.lbFeedStep p) s (fun e =>
          (e.stall p).faulting = true ∧ (s.dev.faultHeld STL p = false → e.regN STL p 0x020 = 0x4007)
            ∧ (e.stall p).baskets = (s.dev.stall p).baskets ∧ OtherStalls p s.dev e ∧ SameMemory s.dev e)))

/-! ### The bell, the hush and the Weighbridge -/

/-- A bell of the bell master, outside PTP discipline, that is no load, completion or halt bell: the bell count rises by 1; the round it
opens lasts INT + c cycles, where c is the carry of ACC + FRAC out of 16 bits, and ACC keeps the rest; BEL_CYCLE restarts; HUSH_THIS is
copied to HUSH_LAST and restarts; OVER_BUDGET holds when the sum of the last two exceeds BEL_SLACK; every context's FIRE_COUNT is copied
into FIRE_LAST and restarts at 0; BELL is raised. A swap bell exchanges the sets, clears ARM and READY, makes the shadow set busy for a round and raises
SWAP_DONE; at another bell the active set stays. No memory changes. -/
def Obligations.BellOpensRound : Prop :=
  ∀ (s : State) (swap : Bool), s.dev.boot.held = false → s.dev.bell.waiting = false → s.dev.bellsRing = true → s.dev.rb BEL 0 0x008 0 = true →
    s.dev.follows = false → s.dev.rb BEL 0 0x008 2 = false → (∀ k, 1 ≤ k → k < 4 → s.dev.decidedAt k (s.dev.bell.count + 1) = false) →
    swap = s.dev.decidedAt 0 (s.dev.bell.count + 1) →
    s.dev.masterLost = false → s.dev.loadState ≠ 3 → s.dev.loadState ≠ 4 → s.dev.bell.int < 2 ^ 24 - 1 →
    Answers .bell s (fun e =>
      e.bell.count = s.dev.bell.count + 1 ∧ e.bell.acc = (s.dev.bell.acc + s.dev.bell.frac) % 65536
        ∧ e.rf BEL 0 0x12C 0 24 = s.dev.bell.int + (if 65536 ≤ s.dev.bell.acc + s.dev.bell.frac then 1 else 0)
        ∧ e.rf BEL 0 0x128 0 24 = 0 ∧ e.rf BEL 0 0x134 0 24 = s.dev.rf BEL 0 0x130 0 24 ∧ e.rf BEL 0 0x130 0 24 = 0
        ∧ e.rb BEL 0 0x010 5 = decide (s.dev.regN BEL 0 0x118 < s.dev.rf BEL 0 0x130 0 24 + s.dev.rf BEL 0 0x134 0 24)
        ∧ e.rb BEL 0 0x014 0 = true ∧ e.bell.issued = 0
        ∧ e.activeSet = (if swap then 1 - s.dev.activeSet else s.dev.activeSet)
        ∧ (swap = true → e.rf WBR 0 0x010 1 4 = 8 ∧ e.rb WBR 0 0x014 1 = true)
        ∧ (∀ p x k, (p, x) ∈ s.dev.stalls → p < 6400 → k < 8 →
            e.reg STL p (0x1A0 + 4 * k) = s.dev.reg STL p (0x180 + 4 * k) ∧ e.regN STL p (0x180 + 4 * k) = 0)
        ∧ SameMemory s.dev e)

/-- Running the bells. RUN_START with no bell due awaits bell 0 with the count and ACC at 0, bells 0 and 1 unchecked and nothing decided; RUN_STOP lets the round
in progress run to its end and holds the count; under PTP discipline bell 0 rings once the PTP time has reached the grid time it waits for. -/
def Obligations.RunControl : Prop :=
  ∀ s : State, s.dev.boot.held = false →
    (s.dev.rb BEL 0 0x008 0 = false → s.dev.bellsRing = false →
      Answers .runStart s (fun e =>
        e.rb BEL 0 0x008 0 = true ∧ e.bell.waiting = true ∧ e.bell.count = 0 ∧ e.bell.acc = 0 ∧ e.bell.firstChecked = 2 ∧ e.bell.decided = []
          ∧ e.stalls = s.dev.stalls ∧ Only [(BEL, 0, 0x008)] s.dev e))
    ∧ Answers .runStop s (fun e =>
        e.rb BEL 0 0x008 0 = false ∧ e.bell.waiting = false ∧ e.bell.count = s.dev.bell.count ∧ e.bellsRing = s.dev.bellsRing
          ∧ e.stalls = s.dev.stalls ∧ Only [(BEL, 0, 0x008)] s.dev e)
    ∧ (∀ m, s.dev.bell.grid = some m → s.dev.bell.waiting = true →
      m * ((s.dev.period : Int) * 5) ≤ ((s.dev.gate.ptpNs : Int) - s.dev.ptpOrigin) * 65536 → s.dev.decidedAt 2 0 = false → s.dev.decidedAt 3 0 = false →
      s.dev.masterLost = false → s.dev.loadState = 0 ∨ s.dev.loadState = 5 →
      Answers .bellZeroAtGrid s (fun e =>
        e.bell.count = 0 ∧ e.bell.waiting = false ∧ e.bell.grid = none ∧ e.bellsRing = true ∧ e.rb BEL 0 0x014 0 = true))

/-- At the guard cycle the chip that rings its own bell decides what the next bell is, if it will ring: a swap bell when the market is ready to swap, a load bell
when it is LOAD_READY, a completion bell when it is loaded, a halt bell when a halt cause has been reported. A chip that follows another decides nothing. A
slot's start, in the order of the slots and not before its cycle: in an unhushed cycle every idle channel of the rota that has a descriptor for the slot takes it
up, with the unhushed cycle and the bell it begins in; in a hushed cycle the start is deferred. -/
def Obligations.GuardAndSlots : Prop :=
  (∀ s : State, s.dev.boot.held = false →
    (s.dev.follows = false → (s.dev.bellsRing = true ∧ s.dev.rb BEL 0 0x008 0 = true) ∨ (s.dev.bell.waiting = true ∧ s.dev.bell.grid.isSome = true) →
      Answers .guardDecision s (fun e =>
        (s.dev.marketReady 0 = true → (0, s.dev.nextBell % 2 ^ 24) ∈ e.bell.decided)
          ∧ (s.dev.marketReady 1 = true → s.dev.loadState = 2 → (1, s.dev.nextBell % 2 ^ 24) ∈ e.bell.decided)
          ∧ (s.dev.marketReady 2 = true → s.dev.loadState = 4 → (2, s.dev.nextBell % 2 ^ 24) ∈ e.bell.decided)
          ∧ (s.dev.bell.halting = true → s.dev.marketHalted = false → (3, s.dev.nextBell % 2 ^ 24) ∈ e.bell.decided)
          ∧ (∀ x, x ∈ e.bell.decided → x ∈ s.dev.bell.decided ∨ (x.2 = s.dev.nextBell % 2 ^ 24 ∧ x.1 ∈ s.dev.guardKinds))
          ∧ e.stalls = s.dev.stalls ∧ Only [] s.dev e))
    ∧ (s.dev.follows = true ∨ ((s.dev.bellsRing = false ∨ s.dev.rb BEL 0 0x008 0 = false) ∧ (s.dev.bell.waiting = false ∨ s.dev.bell.grid = none)) →
      Answers .guardDecision s (fun e => e.bell = s.dev.bell ∧ e.stalls = s.dev.stalls ∧ Only [] s.dev e)))
  ∧ (∀ (s : State) (k : Nat), k < 512 → s.dev.boot.held = false →
    (s.dev.issuing = true → k < s.dev.bell.slots → k = s.dev.bell.issued → s.dev.slotOffset k ≤ s.dev.rf BEL 0 0x128 0 24 →
      (s.dev.bell.hushed = false →
        Answers (.slotStart k) s (fun e =>
          e.bell.issued = k + 1
          ∧ (∀ c x, (c, x) ∈ s.dev.chans → s.dev.chan c = x → x.rota = true → x.run = none → x.due = [] → (x.nextDesc 0 k).isSome = true →
            (e.chan c).run = some ⟨k, s.dev.work, s.dev.bell.count⟩)
          ∧ Only [] s.dev e))
      ∧ (s.dev.bell.hushed = true →
        Answers (.slotStart k) s (fun e =>
          e.bell.issued = k + 1 ∧ k ∈ e.bell.deferred ∧ e.chans = s.dev.chans ∧ e.stalls = s.dev.stalls ∧ Only [] s.dev e)))
    ∧ (k ≠ s.dev.bell.issued ∨ s.dev.rf BEL 0 0x128 0 24 < s.dev.slotOffset k →
      Answers (.slotStart k) s (fun e => e.bell = s.dev.bell ∧ e.chans = s.dev.chans ∧ e.stalls = s.dev.stalls ∧ Only [] s.dev e)))

/-- The hush. A source that begins to ask is held among the requests, and one that drops its request no more; SW_HUSH sets its bit and does so
for source 5. Every part enters the hush when a source held a request 3 cycles before, and leaves it when none did. A continuous hush of this
chip's own sources that reaches HUSH_LIMIT ends for them: HUSH_TIMEOUT (bit 5) is raised, HUSH_TO_SRC holds the sources, each that still asks is ignored from then
on, and the hush goes on only for the other chips. A write of HALT reports a halt. A deadlock count that reaches DL_LIMIT records DEADLOCK (0x5002)
on the BEL page, raises its bit 4, and reports a halt. -/
def Obligations.HushAndHalts : Prop :=
  (∀ (s : State) (src : Nat), s.dev.boot.held = false → src < 7 →
    (src ∉ s.dev.bell.reqs →
      Answers (.hushRequestStart src) s (fun e => e.bell.reqs = s.dev.bell.reqs ++ [src] ∧ e.stalls = s.dev.stalls ∧ Only [] s.dev e))
    ∧ Answers (.hushRequestEnd src) s (fun e =>
        src ∉ e.bell.reqs ∧ (∀ x, x ≠ src → (x ∈ e.bell.reqs ↔ x ∈ s.dev.bell.reqs)) ∧ e.stalls = s.dev.stalls
          ∧ Only (if src = 4 then (List.range 64).map (fun c => (PRT, c, 0x010)) else []) s.dev e)
    ∧ Answers (.swHush true) s (fun e => 5 ∈ e.bell.reqs ∧ e.rb BEL 0 0x008 3 = true ∧ e.stalls = s.dev.stalls ∧ Only [(BEL, 0, 0x008)] s.dev e)
    ∧ Answers (.swHush false) s (fun e => 5 ∉ e.bell.reqs ∧ e.rb BEL 0 0x008 3 = false ∧ e.stalls = s.dev.stalls ∧ Only [(BEL, 0, 0x008)] s.dev e)
    ∧ (s.dev.bell.hushed = false → s.dev.bell.delay.getD 2 [] ≠ [] →
      Answers .hushEnter s (fun e => e.bell = { s.dev.bell with hushed := true } ∧ e.stalls = s.dev.stalls ∧ Only [] s.dev e))
    ∧ (s.dev.bell.hushed = true → s.dev.bell.delay.getD 2 [] = [] →
      Answers .hushLeave s (fun e => e.bell.hushed = false ∧ e.bell.deferred = [] ∧ Only [] s.dev e)))
  ∧ (∀ s : State, s.dev.boot.held = false →
    (s.dev.bell.hushed = true → s.dev.rf BEL 0 0x138 0 24 ≤ s.dev.bell.hushRun → (∃ x ∈ s.dev.bell.delay.getD 2 [], x < 6) →
      Answers .hushTimeout s (fun e =>
        (e.bell.hushed = true ↔ ∃ x ∈ s.dev.bell.delay.getD 2 [], 6 ≤ x) ∧ e.rb BEL 0 0x014 5 = true
          ∧ (∀ x, x ∈ s.dev.asking → x < 6 → x ∈ e.bell.ignored)
          ∧ (∀ i, i < 6 → e.rb BEL 0 0x13C i = decide (i ∈ s.dev.asking ∨ i ∈ s.dev.bell.delay.getD 2 []))
          ∧ Only [(BEL, 0, 0x014), (BEL, 0, 0x03C), (BEL, 0, 0x13C)] s.dev e))
    ∧ Answers .belHalt s (fun e => e.bell = { s.dev.bell with halting := true } ∧ e.stalls = s.dev.stalls ∧ Only [] s.dev e)
    ∧ (s.dev.rb BEL 0 0x008 4 = true → s.dev.bell.dl = s.dev.rf BEL 0 0x140 0 24 →
      Answers .deadlock s (fun e =>
        e.bell.halting = true ∧ e.rb BEL 0 0x014 4 = true ∧ e.rb BEL 0 0x014 31 = true
          ∧ (s.dev.faultHeld BEL 0 = false → e.regN BEL 0 0x020 = 0x5002) ∧ e.stalls = s.dev.stalls
          ∧ Only ((LDG, 0, 0x030) :: eventRegs BEL 0) s.dev e)))

/-- The Weighbridge's swap commands. ARM sets ARM and starts the check, or is refused as BUSY while the shadow set is busy; the check ends with
READY, or with SWAP_REFUSED and ARM clear. REL0 and REL1 release their half. STATS_READY: with a closed window waiting, the half that
LAST_HALF does not name becomes full, LAST_HALF names it, and STATS_READY is raised; only the Depot changes among the memories. -/
def Obligations.WeighbridgeCommands : Prop :=
  (∀ s : State, s.dev.boot.held = false →
    (s.dev.rb WBR 0 0x010 4 = false →
      Answers .swapArm s (fun e =>
        e.rb WBR 0 0x010 1 = true ∧ e.rb WBR 0 0x010 2 = true ∧ e.rb WBR 0 0x010 3 = false ∧ e.shadowLocked = true
          ∧ e.activeSet = s.dev.activeSet ∧ Only [(WBR, 0, 0x010)] s.dev e))
    ∧ (s.dev.rb WBR 0 0x010 4 = true →
      Answers .swapArm s (fun e =>
        e.rb WBR 0 0x014 2 = true ∧ e.regN WBR 0 0x11C = 3 ∧ Only [(WBR, 0, 0x014), (WBR, 0, 0x11C)] s.dev e))
    ∧ (s.dev.rb WBR 0 0x010 2 = true →
      Answers .swapCheckDone s (fun e =>
        (s.dev.checkShadow.1 = none → e.rb WBR 0 0x010 1 = true ∧ e.rb WBR 0 0x010 2 = false ∧ e.rb WBR 0 0x010 3 = true)
          ∧ (s.dev.checkShadow.1 ≠ none → e.rb WBR 0 0x010 1 = false ∧ e.rb WBR 0 0x010 3 = false ∧ e.rb WBR 0 0x014 2 = true)
          ∧ e.activeSet = s.dev.activeSet ∧ SameMemory s.dev e))
    ∧ Answers .wbrStatsAckRel0 s (fun e => e.rb WBR 0 0x010 5 = false
        ∧ (∀ i, i < 32 → i ≠ 5 → e.rb WBR 0 0x010 i = s.dev.rb WBR 0 0x010 i) ∧ Only [(WBR, 0, 0x010)] s.dev e)
    ∧ Answers .wbrStatsAckRel1 s (fun e => e.rb WBR 0 0x010 6 = false
        ∧ (∀ i, i < 32 → i ≠ 6 → e.rb WBR 0 0x010 i = s.dev.rb WBR 0 0x010 i) ∧ Only [(WBR, 0, 0x010)] s.dev e))
  ∧ (∀ (s : State) (w : Window), s.dev.boot.held = false → s.dev.wbr.closed = some w →
    Answers .statsReady s (fun e =>
      e.wbr.closed = none ∧ e.rf WBR 0 0x010 7 1 = 1 - s.dev.rf WBR 0 0x010 7 1
        ∧ e.rb WBR 0 0x010 (5 + (1 - s.dev.rf WBR 0 0x010 7 1)) = true ∧ e.rb WBR 0 0x014 0 = true ∧ SameButDepot s.dev e))

/-- A write of DISARM before the guard cycle of the next bell cancels the swap and clears ARM and READY. At or after the guard cycle the market
is already committed, and the DISARM has no effect: the bell stays a swap bell. On a chip that follows the bell of another the next bell counts as committed from
its guard cycle on while the chip is READY, though the DECIDE has not come yet (assumption 120, a choice of the model). -/
def Obligations.DisarmBeforeGuard : Prop :=
  ∀ s : State, s.dev.boot.held = false →
    (s.dev.swapCommitted = false →
      Answers .swapDisarm s (fun e =>
        e.rb WBR 0 0x010 1 = false ∧ e.rb WBR 0 0x010 2 = false ∧ e.rb WBR 0 0x010 3 = false
          ∧ e.activeSet = s.dev.activeSet ∧ Only [(WBR, 0, 0x010)] s.dev e))
    ∧ (s.dev.swapCommitted = true →
      Answers .swapDisarm s (fun e => e.bell.decided = s.dev.bell.decided ∧ Only [] s.dev e))

/-! ### The loader -/

/-- LOAD and LOAD_FULL start a load at stage 1, full when R316 asks for it or FULL is written; before PREP_DONE they wait, and while a load is under way they are
refused as BUSY (0x8001). ABORT before the load bell ends the load with nothing staged, and at another time forgets a LOAD that waits. The running image, the bell
count and every memory stay. LOAD_READY, while bells ring: an image that the Warden has passed and that passes every check is staged, relocated, and the chip
waits in state 2 for its load bell; one that fails a check is refused with the first finding. No memory changes. -/
def Obligations.LoadStageOne : Prop :=
  (∀ s : State, s.dev.boot.held = false →
    (s.dev.loadState = 0 ∨ s.dev.loadState = 5 → s.dev.rb CLK 0 0x180 8 = true →
      Answers .load s (fun e =>
        e.loadState = 1 ∧ e.rb CLK 0 0x110 3 = s.dev.mustLoadFull ∧ e.loader.running = s.dev.loader.running
          ∧ e.bell.count = s.dev.bell.count ∧ e.stalls = s.dev.stalls ∧ SameMemory s.dev e)
      ∧ Answers .loadFull s (fun e =>
        e.loadState = 1 ∧ e.rb CLK 0 0x110 3 = true ∧ e.loader.running = s.dev.loader.running
          ∧ e.bell.count = s.dev.bell.count ∧ e.stalls = s.dev.stalls ∧ SameMemory s.dev e))
    ∧ (s.dev.loadState = 0 ∨ s.dev.loadState = 5 → s.dev.rb CLK 0 0x180 8 = false →
      Answers .load s (fun e => e.loader = { s.dev.loader with waitPrep := some false } ∧ e.stalls = s.dev.stalls ∧ Only [] s.dev e)
      ∧ Answers .loadFull s (fun e => e.loader = { s.dev.loader with waitPrep := some true } ∧ e.stalls = s.dev.stalls ∧ Only [] s.dev e))
    ∧ (1 ≤ s.dev.loadState → s.dev.loadState ≤ 4 →
      ∀ c ∈ [Instr.load, .loadFull], Answers c s (fun e =>
        e.regN CLK 0 0x114 = 0x8001 ∧ e.rb CLK 0 0x014 1 = true ∧ e.loader = s.dev.loader ∧ e.stalls = s.dev.stalls
          ∧ Only ((CLK, 0, 0x114) :: (LDG, 0, 0x030) :: eventRegs CLK 0) s.dev e))
    ∧ (s.dev.loadState = 1 ∨ s.dev.loadState = 2 →
      Answers .abort s (fun e =>
        e.loadState = s.dev.restState ∧ e.loader.staged = none ∧ e.loader.ready = false ∧ e.loader.running = s.dev.loader.running
          ∧ e.bell.count = s.dev.bell.count ∧ e.stalls = s.dev.stalls ∧ SameMemory s.dev e))
    ∧ (s.dev.loadState ≠ 1 → s.dev.loadState ≠ 2 →
      Answers .abort s (fun e => e.loader = { s.dev.loader with waitPrep := none } ∧ e.stalls = s.dev.stalls ∧ Only [] s.dev e)))
  ∧ (∀ (s : State) (img : Image) (chip : Nat) (rel : Sum LoadFault Image), s.dev.boot.held = false → s.dev.loadState = 1 → s.dev.loader.reload = false →
    s.dev.warden.stagedOk = true → img.imageDigest = s.dev.warden.stagedDigest → s.dev.bellsRing = true → chip = s.dev.chipIndex →
    rel = img.relocated chip (match img.market chip with | some m => m.2.chips | none => 0) s.dev.copyBind.1 →
    (∀ x, img.directory chip = none → rel = .inr x → x.marketLimits chip = none → s.dev.checkResources x chip s.dev.copyBind.1 = none →
      s.dev.checkRecords x chip = none →
      Answers (.loadReady img) s (fun e =>
        e.loadState = 2 ∧ e.loader.staged = some x ∧ e.loader.ready = true ∧ e.loader.running = s.dev.loader.running
          ∧ SameMemory s.dev e))
    ∧ (∀ f, (img.directory chip = some f ∨ (img.directory chip = none ∧ rel = .inl f)
        ∨ (∃ x, img.directory chip = none ∧ rel = .inr x
          ∧ firstOf [x.marketLimits chip, s.dev.checkResources x chip s.dev.copyBind.1, s.dev.checkRecords x chip] = some f)) → f.code < 2 ^ 32 →
      Answers (.loadReady img) s (fun e =>
        e.loadState = s.dev.restState ∧ e.regN CLK 0 0x114 = f.code ∧ e.rb CLK 0 0x014 1 = true
          ∧ e.loader.staged = none ∧ e.loader.running = s.dev.loader.running ∧ SameMemory s.dev e)))

/-- An overlapped load: a stall that has met the conditions of R325 closes in an unhushed cycle and counts as switched; a stall whose turn has come is
written and counts as written. A full load whose writes are done waits for its completion bell in state 4. A spoiled source word fails the load: the market halts,
and LOAD_FAILED (bit 2) is raised. -/
def Obligations.LoadProgress : Prop :=
  ∀ (s : State) (img : Image), s.dev.boot.held = false →
    (∀ p, p < 6400 → s.dev.bell.hushed = false → s.dev.overlapped = true → s.dev.runs p = true → p ∉ s.dev.loader.switched → s.dev.closed p = false →
      s.dev.maySwitch p = true →
      Answers (.stallSwitch p) s (fun e =>
        e.closed p = true ∧ e.loader.switched = s.dev.loader.switched ++ [p] ∧ (∀ o, o < 4 → e.leafLines p o = []) ∧ OtherStalls p s.dev e
          ∧ Only ((STL, p, 0x008) :: (CLK, 0, 0x124) :: (List.range 4).map (fun o => (ARC, p, 0x118 + 0x20 * o))) s.dev e))
    ∧ (∀ p rc, p < 6400 → s.dev.loader.staged = some img → s.dev.overlapped = true → p ∉ s.dev.loader.written → s.dev.mayWrite p = true →
      s.dev.logOf p = some rc → (s.dev.runs p = true ∨ rc ∈ img.places s.dev.chipIndex) →
      (s.dev.writePlace img s.dev.chipIndex p rc).depthMismatch img s.dev.chipIndex (fun r e => match e with
        | .stall row col _ => decide (row = rc.1 ∧ col = rc.2)
        | _ => decide (r.srcRow = rc.1 ∧ r.srcCol = rc.2)) = none →
      (∃ q ∈ s.dev.pagesOf img, q ∉ s.dev.loader.written ∧ q ≠ p) →
      Answers (.stallWritten p) s (fun e =>
        e.loader.written = s.dev.loader.written ++ [p] ∧ e.loadState = 3 ∧ e.loader.running = s.dev.loader.running))
    ∧ (s.dev.loader.staged = some img → s.dev.loadState = 3 → s.dev.loader.full = true →
      img.routes s.dev.chipIndex = [] → s.dev.trestle.reconfiguring = false ∨ s.dev.trestle.written = true → s.dev.aisleQueuesEmpty = true →
      s.dev.bellsRing = true →
      Answers .fullLoadWriteDone s (fun e => e.loadState = 4 ∧ e.loader.loaded = true ∧ e.loader.running = s.dev.loader.running))
    ∧ (∀ ch, ch < 8 → s.dev.loadState = 3 →
      Answers (.loadFailed ch) s (fun e =>
        e.marketHalted = true ∧ e.rb CLK 0 0x014 2 = true ∧ e.loadState = 0 ∧ e.loader.staged = none
          ∧ e.loader.running = s.dev.loader.running))

/-! ### Porters, verdicts and the upkeep of memories -/

/-- A channel's list. GO on a free channel starts its list at descriptor 0 and clears HALTED; on another it sets its bit only. A rota channel at rest takes up the
next descriptor of its slot once START unhushed cycles have passed, unless it is a write-back of adaptation records (R375, assumption 115): with a body of the
slot voided it is passed by, and while one goes on it waits. A descriptor that has moved all it has to ends, and the list goes on at the next one of the slot, or
at the next slot. A free channel reads its descriptor from the Depot: END ends the list with DONE and clears GO, another begins at once. Moves: a plain move
within the Depot, at most once a cycle, moves 32 bytes while at least 32 remain; every Depot word outside the 32 bytes stored to, and every other memory, reads as
it did. A descriptor barred to a free channel halts it. On an egress basket a data word of the generation owed is taken for the oldest slot owed. -/
def Obligations.PorterWork : Prop :=
  (∀ (s : State) (ch : Nat), ch < 64 → s.dev.boot.held = false →
    (s.dev.rf PRT ch 0x010 0 2 = 2 →
      Answers (.porterGo ch) s (fun e =>
        e.pcOf ch = 0 ∧ e.haltedOf ch = false ∧ e.rb PRT ch 0x008 0 = true
          ∧ e.chan ch = { s.dev.chan ch with descs := [], run := some ⟨0, s.dev.work, 0⟩, moved := 0, emitted := 0, emit := [], words := [], tags := [], pays := [] }
          ∧ Only [(PRT, ch, 0x008), (PRT, ch, 0x010), (PRT, ch, 0x104)] s.dev e))
    ∧ (s.dev.rf PRT ch 0x010 0 2 ≠ 2 →
      Answers (.porterGo ch) s (fun e => e.rb PRT ch 0x008 0 = true ∧ e.chans = s.dev.chans ∧ Only [(PRT, ch, 0x008)] s.dev e))
    ∧ (∀ r i x, (s.dev.chan ch).rota = true → (s.dev.chan ch).run = some r → s.dev.bell.hushed = false → s.dev.busyOf ch = false →
      s.dev.haltedOf ch = false → (s.dev.chan ch).nextDesc (s.dev.pcOf ch) r.slot = some i → i < 65536 → (s.dev.chan ch).program.getD i 0 = x →
      (r.at_ + dStart x ≤ s.dev.work → s.dev.bodyVoided x r.slot = false → s.dev.bodyGoesOn x r.slot = false →
        Answers (.descriptorStart ch) s (fun e =>
          e.busyOf ch = true ∧ e.pcOf ch = i ∧ (e.chan ch).moved = 0 ∧ (e.chan ch).emitted = 0 ∧ (e.chan ch).run = some r
            ∧ Only [(PRT, ch, 0x010), (PRT, ch, 0x104)] s.dev e))
      ∧ (r.at_ + dStart x ≤ s.dev.work → s.dev.bodyVoided x r.slot = true → i + 1 < 65536 → ((s.dev.chan ch).nextDesc (i + 1) r.slot).isSome = true →
        Answers (.descriptorStart ch) s (fun e =>
          e.busyOf ch = false ∧ e.pcOf ch = i + 1 ∧ e.chans = s.dev.chans ∧ Only [(PRT, ch, 0x010), (PRT, ch, 0x104)] s.dev e))
      ∧ (s.dev.work < r.at_ + dStart x ∨ (s.dev.bodyVoided x r.slot = false ∧ s.dev.bodyGoesOn x r.slot = true) →
        Answers (.descriptorStart ch) s (fun e => e.chans = s.dev.chans ∧ Only [] s.dev e)))
    ∧ (∀ r, (s.dev.chan ch).rota = true → (s.dev.chan ch).run = some r → s.dev.bell.hushed = false → s.dev.busyOf ch = true →
      s.dev.descMoved ch (s.dev.currentDesc ch) = true → s.dev.pcOf ch + 1 < 65536 →
      (((s.dev.chan ch).nextDesc (s.dev.pcOf ch + 1) r.slot).isSome = true →
        Answers (.descriptorEnd ch) s (fun e =>
          e.busyOf ch = false ∧ e.pcOf ch = s.dev.pcOf ch + 1 ∧ e.chans = s.dev.chans ∧ Only [(PRT, ch, 0x010), (PRT, ch, 0x104)] s.dev e))
      ∧ ((s.dev.chan ch).nextDesc (s.dev.pcOf ch + 1) r.slot = none →
        Answers (.descriptorEnd ch) s (fun e =>
          e.busyOf ch = false ∧ e.pcOf ch = 0 ∧ e.chan ch = (s.dev.chan ch).takeSlot (s.dev.chan ch).due
            ∧ Only [(PRT, ch, 0x010), (PRT, ch, 0x104)] s.dev e)))
    ∧ (∀ x, (s.dev.chan ch).rota = false → (s.dev.chan ch).run.isSome = true → s.dev.busyOf ch = false → s.dev.haltedOf ch = false →
      BitVec.ofNat 256 (leNat (s.dev.depotReadBytes ((s.dev.rf PRT ch 0x100 5 22 * 32 + 32 * s.dev.pcOf ch) % 2 ^ 27) 32).1) = x →
      (dOp x = 1 →
        Answers (.descriptorStart ch) s (fun e =>
          (e.chan ch).run = none ∧ e.rb PRT ch 0x008 0 = false ∧ e.rb PRT ch 0x014 0 = true ∧ e.busyOf ch = false ∧ SameMemory s.dev e))
      ∧ (dOp x ≠ 1 →
        Answers (.descriptorStart ch) s (fun e =>
          (e.chan ch).descs = [x] ∧ e.busyOf ch = true ∧ (e.chan ch).moved = 0 ∧ (e.chan ch).emitted = 0 ∧ SameMemory s.dev e))))
  ∧ (∀ (s : State) (ch : Nat) (x : Desc), ch < 64 → s.dev.boot.held = false → s.dev.currentDesc ch = x → s.dev.porterHeld ch = false →
    s.dev.busyOf ch = true → s.dev.haltedOf ch = false → (s.dev.chan ch).movedAt ≠ some s.dev.now →
    (s.dev.porterBarred ch x = false → dSsp x = 0 → dDsp x = 0 → dCodec x = 0 → (s.dev.chan ch).moved + 32 ≤ dLength x → (s.dev.chan ch).emit = [] →
      Answers (.porterMove ch) s (fun e =>
        (e.chan ch).moved = (s.dev.chan ch).moved + 32 ∧ (e.chan ch).emitted = (s.dev.chan ch).emitted + 4
          ∧ (e.chan ch).movedAt = some s.dev.now ∧ e.pcOf ch = s.dev.pcOf ch ∧ e.busyOf ch = true
          ∧ SameDepotBut (dstAddr x (s.dev.slotOf ch x) + 8 * (s.dev.chan ch).emitted) 32 s.dev e ∧ SameButDepot s.dev e))
    ∧ (s.dev.porterBarred ch x = true →
      Answers (.porterMove ch) s (fun e =>
        e.haltedOf ch = true ∧ e.busyOf ch = false ∧ e.rb PRT ch 0x014 4 = true ∧ e.pcOf ch = s.dev.pcOf ch
          ∧ Only [(PRT, ch, 0x010), (PRT, ch, 0x014), (LDG, 0, 0x030)] s.dev e))
    ∧ (∀ g q w rest, (s.dev.chan ch).rota = true → dEgress x = true → srcAddr x (s.dev.slotOf ch x) % 320 = g → s.dev.firstDue g = some q →
      q.cause = none → (s.dev.egress g).got < q.packets → s.dev.runsVerdict q = true → (s.dev.egress g).packed = w :: rest → w.ctl = false →
      w.gen ≠ q.gen + 1 →
      Answers (.porterMove ch) s (fun e =>
        (e.egress g).packed = rest ∧ (e.egress g).got = (s.dev.egress g).got + b2n w.fin ∧ e.bell.owing = s.dev.bell.owing
          ∧ ((s.dev.egress g).oversize = false → 8 * (s.dev.egress g).staging.length + w.vb ≤ q.limit →
              w.vb ≤ 8 → (e.egress g).staging = (s.dev.egress g).staging ++ [w])
          ∧ SameMemory s.dev e)))

/-- Late data, and delivery. A running rota descriptor that has room at its destination, whose words have all gone on and which lacks its next one sets WAITING,
counts the cycle, raises PORTER_LATE (bit 3) and asks for the hush as source 4. The oldest slot owed on a channel's one egress basket, once ready, is delivered: to
a ring with room, as NDESC descriptors; to a ring without, as one more drop; to the Crier, as one more handover. Then it is owed no more, and what was gathered on the
basket is gone. One that is not ready stays, and in a hush nothing is delivered. -/
def Obligations.LateDataAndDelivery : Prop :=
  ∀ (s : State) (ch : Nat), ch < 64 → s.dev.boot.held = false →
    (∀ x, s.dev.currentDesc ch = x → (s.dev.chan ch).rota = true → dEgress x = false → s.dev.busyOf ch = true → s.dev.haltedOf ch = false →
      s.dev.bell.hushed = false → (s.dev.chan ch).moved < dLength x → (s.dev.chan ch).emit = [] → s.dev.destRoom ch x = true →
      Answers (.lateData ch) s (fun e =>
        e.rb PRT ch 0x010 4 = true ∧ e.regN PRT ch 0x034 = satAdd 0xFFFFFFFF (s.dev.regN PRT ch 0x034) 1 ∧ e.rb PRT ch 0x014 3 = true
          ∧ 4 ∈ e.bell.reqs ∧ e.chans = s.dev.chans ∧ Only [(PRT, ch, 0x010), (PRT, ch, 0x034), (PRT, ch, 0x014)] s.dev e))
    ∧ (∀ g q, s.dev.egressesOf ch = [g] → s.dev.firstDue g = some q →
      (s.dev.bell.hushed = false → s.dev.dueReady q = true →
        Answers (.verdictDeliver ch) s (fun e =>
          e.bell.owing = s.dev.bell.owing.erase q ∧ (e.egress g).staging = [] ∧ (e.egress g).got = 0
            ∧ (q.dsp = 5 → (s.dev.ring (q.daddr % 4096)).enabled = true →
                (s.dev.verdictOf q).ndesc ≤ (s.dev.ring (q.daddr % 4096)).freePos s.dev.now →
                (e.ring (q.daddr % 4096)).pi = ((s.dev.ring (q.daddr % 4096)).pi + (s.dev.verdictOf q).ndesc) % 2 ^ 32
                  ∧ (e.ring (q.daddr % 4096)).drops = 0)
            ∧ (q.dsp = 5 → ((s.dev.ring (q.daddr % 4096)).enabled = false
                ∨ (s.dev.ring (q.daddr % 4096)).freePos s.dev.now < (s.dev.verdictOf q).ndesc) →
                (e.ring (q.daddr % 4096)).pi = (s.dev.ring (q.daddr % 4096)).pi
                  ∧ (e.ring (q.daddr % 4096)).drops = min 65535 ((s.dev.ring (q.daddr % 4096)).drops + 1))
            ∧ (q.dsp ≠ 5 → e.crier.handed.length = s.dev.crier.handed.length + 1 ∧ e.host.rings = s.dev.host.rings)
            ∧ SameMemory s.dev e))
      ∧ (s.dev.bell.hushed = true ∨ s.dev.dueReady q = false →
        Answers (.verdictDeliver ch) s (fun e =>
          e.bell = s.dev.bell ∧ e.arcade = s.dev.arcade ∧ e.host.rings = s.dev.host.rings ∧ e.crier = s.dev.crier ∧ Only [] s.dev e)))

/-- Upkeep of the memories. A refresh is put off while a rota access to its bank waits, up to 8 times, and then collides: REFRESH_COLLISION (bit 2) and a
hush as source 0. The derate bit follows the DRAM. The patrol reader and the scrubber write back a correctable word corrected and an
uncorrectable word spoiled, and leave a clean word alone; the scrubber waits for a bank that another access needs; a failing word of a program store or a look-up
table is recorded only; at the end of a pass the pass count rises by 1 and PASS (bit 2) is raised. The Ledger. The oldest waiting entry goes to the ring: HEAD rises
by 1 modulo 2^32 and ENTRY (bit 0) is raised; a full ring loses its oldest, TAIL rising by 1, and OVERFLOW (bit 1) is raised. Only the Depot's 32 bytes of
the entry are written. An event of firmware joins the waiting entries with its code and its DETAIL when its code is 0xF000 or more; otherwise nothing happens. -/
def Obligations.MemoryAndLedger : Prop :=
  (∀ s : State, s.dev.boot.held = false →
    (∀ chan bank, chan < 6 → Answers (.perBankRefresh chan bank) s (fun e =>
        (s.dev.rotaWaits (bankNo chan bank) = false → KMap.get e.sth.postponed (bankNo chan bank) 0 = 0)
          ∧ (s.dev.rotaWaits (bankNo chan bank) = true → KMap.get s.dev.sth.postponed (bankNo chan bank) 0 < 8 →
              KMap.get e.sth.postponed (bankNo chan bank) 0 = KMap.get s.dev.sth.postponed (bankNo chan bank) 0 + 1)
          ∧ (s.dev.rotaWaits (bankNo chan bank) = true → 8 ≤ KMap.get s.dev.sth.postponed (bankNo chan bank) 0 → e.rb STH 0 0x014 2 = true ∧ 0 ∈ e.bell.reqs)
          ∧ (∀ b, b ≠ bankNo chan bank → KMap.get e.sth.postponed b 0 = KMap.get s.dev.sth.postponed b 0)
          ∧ Only [(STH, 0, 0x014), (STH, 0, 0x038)] s.dev e))
    ∧ (∀ on, Answers (.storehouseDerate on) s (fun e =>
        e.rb STH 0 0x010 1 = on ∧ (∀ i, i < 32 → i ≠ 1 → e.rb STH 0 0x010 i = s.dev.rb STH 0 0x010 i) ∧ Only [(STH, 0, 0x010)] s.dev e))
    ∧ (∀ a r, s.dev.rf STH 0 0x108 0 8 ≠ 0 → a < s.dev.sthBytes → s.dev.rb CLK 0 0x180 8 = true →
      decodeWord (KMap.get s.dev.sth.mem (a / 8) 0) = r →
      Answers (.patrolRead a) s (fun e =>
        (r.ce = true → KMap.get e.sth.mem (a / 8) 0 = encodeWord r.data false ^^^ s.dev.sthFlip ∧ e.rb STH 0 0x014 0 = true)
          ∧ (r.ce = false → r.ue = true → KMap.get e.sth.mem (a / 8) 0 = encodeWord r.data true ^^^ s.dev.sthFlip ∧ e.rb STH 0 0x014 1 = true)
          ∧ (r.ce = false → r.ue = false → Only [] s.dev e)
          ∧ (∀ k, k ≠ a / 8 → KMap.get e.sth.mem k 0 = KMap.get s.dev.sth.mem k 0)))
    ∧ (s.dev.rb LDG 0 0x120 0 = true → s.dev.rb CLK 0 0x180 8 = true →
      (∀ p wa r, p < 6400 → wa < 8192 → decodeWord (s.dev.storeCode p wa) = r →
        (wa % 8 ∉ s.dev.afterPrio4 p →
          Answers (.scrubRead (.stallWord p wa)) s (fun e =>
            (r.ce = true → e.storeCode p wa = s.dev.storedCode p r.data false)
              ∧ (r.ce = false → r.ue = true → e.storeCode p wa = s.dev.storedCode p r.data true)
              ∧ (r.ce = false → r.ue = false → Only [] s.dev e)
              ∧ (∀ q b, (∀ sp, activeSpare (s.dev.stall q).remaps b = some sp → sp < 8) →
                  (∀ x ∈ (s.dev.storePlaces q b).head?, x ∉ s.dev.storePlaces p wa) → e.storeCode q b = s.dev.storeCode q b)))
        ∧ (wa % 8 ∈ s.dev.afterPrio4 p → Answers (.scrubRead (.stallWord p wa)) s (fun e => e.stalls = s.dev.stalls ∧ Only [] s.dev e)))
      ∧ (∀ b word lane r, b < 17 → word < 131072 → lane < 8 → decodeWord (s.dev.depotCode b word lane) = r →
        Answers (.scrubRead (.depotLane b word lane)) s (fun e =>
          (r.ce = true → e.depotCode b word lane = encodeWord r.data false ^^^ s.dev.depotFlip b lane)
            ∧ (r.ce = false → r.ue = true → e.depotCode b word lane = encodeWord r.data true ^^^ s.dev.depotFlip b lane ∧ e.rb DEP b 0x014 2 = true)
            ∧ (r.ce = false → r.ue = false → Only [] s.dev e)
            ∧ (∀ b2 w2 l2, l2 < 8 → (∀ sp, activeSpare (KMap.get s.dev.depot.remaps b2 []) w2 = some sp → sp < 32) →
                (∀ x ∈ (s.dev.depotPlaces b2 w2 l2).head?, x ∉ s.dev.depotPlaces b word lane) → e.depotCode b2 w2 l2 = s.dev.depotCode b2 w2 l2)))
      ∧ (∀ p k pc, p < 6400 → k < 8 → pc < 256 → Answers (.scrubRead (.program p k pc)) s (fun e => e.stalls = s.dev.stalls ∧ Only [(LDG, 0, 0x030)] s.dev e))
      ∧ (∀ p c i, p < 6400 → c < 16 → i < 256 → Answers (.scrubRead (.lut p c i)) s (fun e => e.stalls = s.dev.stalls ∧ Only [(LDG, 0, 0x030)] s.dev e))
      ∧ Answers (.scrubRead .passEnd) s (fun e =>
          e.regN LDG 0 0x128 = (s.dev.regN LDG 0 0x128 + 1) % 2 ^ 32 ∧ e.rb LDG 0 0x014 2 = true ∧ Only [(LDG, 0, 0x128), (LDG, 0, 0x014)] s.dev e)))
  ∧ (∀ s : State, s.dev.boot.held = false →
    (∀ x rest, s.dev.ledger.waiting = x :: rest → s.dev.rf LDG 0 0x104 0 5 ≠ 0 →
      Answers .ledgerEntryWrite s (fun e =>
        e.regN LDG 0 0x108 = (s.dev.regN LDG 0 0x108 + 1) % 2 ^ 32 ∧ e.rb LDG 0 0x014 0 = true
          ∧ (2 ^ s.dev.rf LDG 0 0x104 0 5 ≤ (s.dev.regN LDG 0 0x108 + 2 ^ 32 - s.dev.regN LDG 0 0x10C) % 2 ^ 32 →
              e.regN LDG 0 0x10C = (s.dev.regN LDG 0 0x10C + 1) % 2 ^ 32 ∧ e.rb LDG 0 0x014 1 = true)
          ∧ ((s.dev.regN LDG 0 0x108 + 2 ^ 32 - s.dev.regN LDG 0 0x10C) % 2 ^ 32 < 2 ^ s.dev.rf LDG 0 0x104 0 5 →
              e.regN LDG 0 0x10C = s.dev.regN LDG 0 0x10C)
          ∧ (s.dev.mapOk 0x114 = true → (∀ b, ∀ r ∈ KMap.get s.dev.depot.remaps b [], r.twinOk = true) → e.ledger.waiting = rest)
          ∧ SameDepotBut (s.dev.rf LDG 0 0x100 16 11 * 65536 + 32 * (s.dev.regN LDG 0 0x108 % 2 ^ s.dev.rf LDG 0 0x104 0 5)) 32 s.dev e
          ∧ SameButDepot s.dev e))
    ∧ (∀ code : BitVec 16,
      (0xF000 ≤ code.toNat → s.dev.rf LDG 0 0x104 0 5 ≠ 0 ∨ s.dev.ledger.waiting.length < 64 →
        Answers (.ldgSwCode code) s (fun e =>
          e.ledger.waiting.length = s.dev.ledger.waiting.length + 1
            ∧ (∃ x ∈ e.ledger.waiting, x.code = code.toNat ∧ x.at_ = s.dev.now ∧ x.detail = s.dev.reg LDG 0 0x118 ++ s.dev.reg LDG 0 0x114)
            ∧ Only [] s.dev e))
      ∧ (code.toNat < 0xF000 → Answers (.ldgSwCode code) s (fun e => e.ledger = s.dev.ledger ∧ Only [] s.dev e))))

/-! ### The Gate -/

/-- Frames at a port. A frame with a bad FCS, a runt or one of more than 9,216 bytes is dropped and counted; a PAUSE frame is counted; a frame for the port that is no
IP, other IP or PTP joins the Clerk's queue with its stamp while that has room, and is counted as dropped otherwise; a fragment, a bad header or a bad UDP packet is
counted; a UDP packet that no flow entry and no port of the Clerk wants is counted and recorded as a stranger. A port that is not enabled takes nothing. A frame the
Clerk sends leaves the port, with the stamp of a PTP event. -/
def Obligations.EthernetFrames : Prop :=
  ∀ (s : State) (port : Nat) (f : EthFrame), port < 3 → s.dev.boot.held = false →
    (s.dev.rb GAT 0 0x008 port = false → Answers (.ethernetFrameReceive port f) s (fun e => e.gate = s.dev.gate ∧ Only [] s.dev e))
    ∧ (s.dev.rb GAT 0 0x008 port = true →
      (f.fcsOk = false ∨ f.runt = true ∨ 9216 < f.len →
        Answers (.ethernetFrameReceive port f) s (fun e =>
          e.regN GAT 0 0x038 = satAdd 0xFFFFFFFF (s.dev.regN GAT 0 0x038) 1 ∧ e.gate = s.dev.gate ∧ Only [(GAT, 0, 0x038)] s.dev e))
      ∧ (f.fcsOk = true → f.runt = false → f.len ≤ 9216 →
        (f.body = .pause →
          Answers (.ethernetFrameReceive port f) s (fun e =>
            e.regN GAT 0 0x114 = satAdd 0xFFFFFFFF (s.dev.regN GAT 0 0x114) 1 ∧ e.gate = s.dev.gate ∧ Only [(GAT, 0, 0x114)] s.dev e))
        ∧ (f.toPort = true → f.body = .nonIp ∨ f.body = .ptp ∨ f.body = .ipOther →
          (s.dev.clerkFull = false →
            Answers (.ethernetFrameReceive port f) s (fun e =>
              e.gate = { s.dev.gate with clerkQueue := s.dev.gate.clerkQueue ++ [(port, s.dev.gate.ptpNs, f)] } ∧ Only [] s.dev e))
          ∧ (s.dev.clerkFull = true →
            Answers (.ethernetFrameReceive port f) s (fun e =>
              e.regN GAT 0 0x03C = satAdd 0xFFFFFFFF (s.dev.regN GAT 0 0x03C) 1 ∧ e.gate.clerkQueue = s.dev.gate.clerkQueue
                ∧ Only [(GAT, 0, 0x03C), (LDG, 0, 0x030)] s.dev e)))
        ∧ (f.toPort = true → (f.body = .ipFragment ∨ f.body = .ipBadHeader ∨ ∃ v6 ext u, f.body = .udp v6 ext u ∧ u.checksumOk = false) →
          Answers (.ethernetFrameReceive port f) s (fun e =>
            e.regN GAT 0 0x034 = satAdd 0xFFFFFFFF (s.dev.regN GAT 0 0x034) 1 ∧ e.gate = s.dev.gate ∧ Only [(GAT, 0, 0x034)] s.dev e))
        ∧ (∀ v6 u, f.toPort = true → f.body = .udp v6 false u → u.checksumOk = true → s.dev.flowLookup port f.vlan u = none →
          u.dstPort ≠ 319 → u.dstPort ≠ 320 → s.dev.clerkPort u.dstPort = false → s.dev.stockCall u = false →
          Answers (.ethernetFrameReceive port f) s (fun e =>
            e.regN GAT 0 0x030 = satAdd 0xFFFFFFFF (s.dev.regN GAT 0 0x030) 1
              ∧ e.regN GAT 0 0x230 = u.srcAddr.toNat % 2 ^ 32
              ∧ e.regN GAT 0 0x234 = u.srcPort % 65536 + u.dstPort % 65536 * 65536 ∧ e.regN GAT 0 0x238 = port + 4 * b2n v6
              ∧ (s.dev.regN GAT 0 0x030 = 0 → e.rb GAT 0 0x014 0 = true) ∧ e.gate = s.dev.gate
              ∧ Only [(GAT, 0, 0x030), (GAT, 0, 0x014), (GAT, 0, 0x230), (GAT, 0, 0x234), (GAT, 0, 0x238)] s.dev e))))
    ∧ (∀ bytes ev, Answers (.ethernetFrameTransmit port bytes ev) s (fun e =>
        .ethFrame port bytes ∈ e.outbox ∧ (ev = true → .ptpStamp port s.dev.gate.ptpNs ∈ e.outbox) ∧ e.gate = s.dev.gate ∧ Only [] s.dev e))

/-- Frames of a stream. A reorder timeout, once the gap window has ended, declares lost what is missing before the first held packet, and releases it; before that
nothing happens. The oldest unit of an engine leaves the queue once decoded and is scaled, or is discarded where its parameter sets do not match the record; an engine
fault empties the queues of its engine's streams and raises bit 4; a complete frame stands in its buffer with the cycle, and of the memories only Storehouse lines of its
rows change. -/
def Obligations.StreamFrames : Prop :=
  ∀ (s : State) (i : Nat), i < 512 → s.dev.boot.held = false →
    (∀ h n, (s.dev.stream i).held = [h] → (s.dev.stream i).next = some n → h.seq < 65536 → n < 65536 → s.dev.gapOver i = true →
      Answers (.reorderTimeout i) s (fun e =>
        (e.stream i).lostPkt = (if seqAhead h.seq n = 0 then (s.dev.stream i).lostPkt else
            satAdd 0xFFFF (s.dev.stream i).lostPkt (seqAhead h.seq n))
          ∧ (e.stream i).held = [] ∧ (e.stream i).next = some ((h.seq + 1) % 65536) ∧ (∀ j, j ≠ i → e.stream j = s.dev.stream j)
          ∧ SameMemory s.dev e))
    ∧ (s.dev.gapOver i = false → Answers (.reorderTimeout i) s (fun e => e.gate = s.dev.gate ∧ Only [] s.dev e))
    ∧ (∀ set pic u rest, (s.dev.stream i).units = u :: rest → (s.dev.stream i).state = 1 → (s.dev.stream i).scaling = none →
      s.dev.gate.stopped = false → s.dev.engineBad (s.dev.stream i) = false → s.dev.engineNext (s.dev.stream i) u = true →
      ((s.dev.stream i).unsupported set = none →
        Answers (.decodeDone i set pic) s (fun e =>
          (e.stream i).units = rest ∧ (e.stream i).scaling.isSome = true ∧ (e.stream i).mismatch = none
            ∧ (∀ j, j ≠ i → e.stream j = s.dev.stream j) ∧ Only [] s.dev e))
      ∧ (∀ r, (s.dev.stream i).unsupported set = some r →
        Answers (.decodeDone i set pic) s (fun e =>
          (e.stream i).units = rest ∧ (e.stream i).scaling = none ∧ (e.stream i).mismatch = some r
            ∧ ((s.dev.stream i).mismatch ≠ some r → e.rb GAT 0 0x014 2 = true)
            ∧ (∀ j, j ≠ i → e.stream j = s.dev.stream j) ∧ Only [(GAT, 0, 0x014), (LDG, 0, 0x030)] s.dev e)))
    ∧ (∀ n, n < 33 → Answers (.engineFault n) s (fun e =>
        n ∈ e.gate.badEngines ∧ e.rb GAT 0 0x014 4 = true
          ∧ (∀ st, (i, st) ∈ s.dev.gate.streams → st.state = 1 → s.dev.engineOf (st.f 0 8 5) = n → (e.stream i).units = [])
          ∧ SameMemory s.dev e))
    ∧ (∀ b bytes frame, (s.dev.stream i).scaling = some (b, bytes, frame) → b < (s.dev.stream i).bufs.length →
      Answers (.frameComplete i) s (fun e =>
        (e.stream i).scaling = none ∧ (e.stream i).bufs.getD b {} = { frame with at_ := s.dev.now }
          ∧ (e.stream i).newFrames = (s.dev.stream i).newFrames + 1 ∧ (∀ j, j ≠ i → e.stream j = s.dev.stream j)
          ∧ (∀ k, (∀ j t, j < (s.dev.stream i).f 4 16 12 → t < (s.dev.stream i).f 4 0 12 * (3 + (s.dev.stream i).f 0 7 1) →
                8 * k / 128 ≠ ((s.dev.stream i).bufAddr b + j * (s.dev.stream i).stride + t) / 128) →
              KMap.get e.sth.mem k 0 = KMap.get s.dev.sth.mem k 0)
          ∧ (∀ p wa, e.storeCode p wa = s.dev.storeCode p wa) ∧ e.prog = s.dev.prog ∧ e.depot = s.dev.depot ∧ e.clerk = s.dev.clerk))

/-- The flow table. A WRITE whose entry is not valid, or repeats neither the key nor the stream of another valid entry, puts the twelve data words into the
selected entry and no other, with result 0; lookups of the cycle still use the table as it was. One that repeats a key changes no entry, with result 1; one that
repeats a stream, with result 2. A READ brings the selected entry into the data words. Each ends with FLOW_DONE (bit 7). Stream records. READ brings the record's
eleven words into STREAM_DATA, its counters without the events of the cycle; READ_CLEAR also clears the counters to those events; ADMIT writes its result, and with result
0 the record; DISMISS stops the stream at once; a dismissed record whose reads have ended is free. The commands end with STREAM_DONE (bit 8). -/
def Obligations.GateRecords : Prop :=
  (∀ (s : State) (ent : List Word) (sel : Nat), s.dev.boot.held = false → s.dev.rf GAT 0 0x120 0 11 = sel →
    (List.range 12).map (fun w => s.dev.reg GAT 0 (0x140 + 4 * w)) = ent →
    ((flowValid ent = false ∨ ∀ x ∈ s.dev.gate.flow, x.1 ≠ sel → flowValid x.2 = true → flowKey x.2 ≠ flowKey ent
        ∧ (flowAction ent = 0 → flowAction x.2 = 0 → flowStream x.2 ≠ flowStream ent)) →
      Answers .flowWrite s (fun e =>
        e.flowEntry sel = ent ∧ (∀ k, k ≠ sel → e.flowEntry k = s.dev.flowEntry k)
          ∧ (∀ port vlan u, e.flowLookup port vlan u = s.dev.flowLookup port vlan u) ∧ e.regN GAT 0 0x128 = 0 ∧ e.rb GAT 0 0x014 7 = true
          ∧ Only [(GAT, 0, 0x128), (GAT, 0, 0x014)] s.dev e))
    ∧ ((∃ x ∈ s.dev.gate.flow, x.1 ≠ sel ∧ flowValid x.2 = true ∧ flowKey x.2 = flowKey ent) → flowValid ent = true →
      Answers .flowWrite s (fun e =>
        e.gate = s.dev.gate ∧ e.regN GAT 0 0x128 = 1 ∧ e.rb GAT 0 0x014 7 = true ∧ Only [(GAT, 0, 0x128), (GAT, 0, 0x014)] s.dev e))
    ∧ ((∀ x ∈ s.dev.gate.flow, x.1 ≠ sel → flowValid x.2 = true → flowKey x.2 ≠ flowKey ent) → flowValid ent = true → flowAction ent = 0 →
      (∃ x ∈ s.dev.gate.flow, x.1 ≠ sel ∧ flowValid x.2 = true ∧ flowAction x.2 = 0 ∧ flowStream x.2 = flowStream ent) →
      Answers .flowWrite s (fun e =>
        e.gate = s.dev.gate ∧ e.regN GAT 0 0x128 = 2 ∧ e.rb GAT 0 0x014 7 = true ∧ Only [(GAT, 0, 0x128), (GAT, 0, 0x014)] s.dev e))
    ∧ Answers .flowRead s (fun e =>
        (∀ w, w < 12 → e.reg GAT 0 (0x140 + 4 * w) = (s.dev.flowEntry sel).getD w 0) ∧ e.regN GAT 0 0x128 = 0 ∧ e.rb GAT 0 0x014 7 = true
          ∧ e.gate = s.dev.gate
          ∧ Only ([(GAT, 0, 0x128), (GAT, 0, 0x014)] ++ (List.range 12).map (fun w => (GAT, 0, 0x140 + 4 * w))) s.dev e))
  ∧ (∀ (s : State) (i : Nat), s.dev.boot.held = false → s.dev.rf GAT 0 0x180 0 9 = i →
    (∀ st, (s.dev.stream i).setCounters ((s.dev.stream i).before s.dev.now) = st →
      Answers .streamRead s (fun e =>
        (∀ w, w < 11 → e.regN GAT 0 (0x1C0 + 4 * w) = (st.words.getD w 0) % 2 ^ 32) ∧ e.regN GAT 0 0x188 = 0
          ∧ e.rb GAT 0 0x014 8 = true ∧ e.gate = s.dev.gate
          ∧ Only ([(GAT, 0, 0x188), (GAT, 0, 0x014)] ++ (List.range 11).map (fun w => (GAT, 0, 0x1C0 + 4 * w))) s.dev e)
      ∧ Answers .streamReadClear s (fun e =>
        (∀ w, w < 11 → e.regN GAT 0 (0x1C0 + 4 * w) = (st.words.getD w 0) % 2 ^ 32) ∧ e.regN GAT 0 0x188 = 0
          ∧ e.rb GAT 0 0x014 8 = true ∧ (∀ k, k < 7 → (e.stream i).counters.getD k 0 = ((s.dev.stream i).events s.dev.now).getD k 0)
          ∧ (∀ j, j ≠ i → e.stream j = s.dev.stream j)
          ∧ Only ([(GAT, 0, 0x188), (GAT, 0, 0x014)] ++ (List.range 11).map (fun w => (GAT, 0, 0x1C0 + 4 * w))) s.dev e))
    ∧ (∀ st, (s.dev.stream i).accept s.dev.now ((List.range 7).map (fun w => s.dev.reg GAT 0 (0x1C0 + 4 * w))) = st →
      Answers .streamAdmit s (fun e =>
        e.regN GAT 0 0x188 = s.dev.admitResult i st ∧ e.rb GAT 0 0x014 8 = true
          ∧ (s.dev.admitResult i st = 0 → e.stream i = st ∧ (∀ j, j ≠ i → e.stream j = s.dev.stream j))
          ∧ (s.dev.admitResult i st ≠ 0 → e.gate = s.dev.gate)
          ∧ Only [(GAT, 0, 0x188), (GAT, 0, 0x014)] s.dev e))
    ∧ Answers .dismiss s (fun e =>
        e.regN GAT 0 0x188 = 0 ∧ e.rb GAT 0 0x014 8 = true
          ∧ ((s.dev.stream i).state = 1 → (e.stream i).state = 2 ∧ (e.stream i).leaving = true ∧ (e.stream i).units = [] ∧ (e.stream i).held = [])
          ∧ ((s.dev.stream i).state ≠ 1 → e.stream i = s.dev.stream i)
          ∧ (∀ j, j ≠ i → e.stream j = s.dev.stream j) ∧ Only [(GAT, 0, 0x188), (GAT, 0, 0x014)] s.dev e)
    ∧ (∀ j, j < 512 →
      ((s.dev.stream j).state = 2 → (s.dev.stream j).leaving = false → (s.dev.stream j).reading = false →
        Answers (.streamBuffersReleased j) s (fun e =>
          (e.stream j).state = 0 ∧ (e.stream j).picked = none ∧ (∀ k, k ≠ j → e.stream k = s.dev.stream k) ∧ Only [] s.dev e))
      ∧ ((s.dev.stream j).state ≠ 2 ∨ (s.dev.stream j).leaving = true ∨ (s.dev.stream j).reading = true →
        Answers (.streamBuffersReleased j) s (fun e => e.gate = s.dev.gate ∧ Only [] s.dev e))))

/-- Normalisation, time and cables. The last staged word of a normalisation entry writes value and complement into the selected entry, but not
into a locked shadow entry, which counts a busy write instead, nor for a channel 3. A step of PTP time adds its signed value modulo 2^64. Reflectometry of port 2
takes the link down and ends with four results. A link change sets its bit and raises bit 5. -/
def Obligations.NormTimeCables : Prop :=
  ∀ s : State, s.dev.boot.held = false →
    (∀ val,
      (s.dev.rf GAT 0 0x200 0 2 ≠ 3 → s.dev.shadowLocked = false ∨ s.dev.rf GAT 0 0x200 12 1 = s.dev.activeNorm →
        Answers (.normHiCWrite val) s (fun e =>
          KMap.get e.gate.norm s.dev.normKey (0, 0)
              = (s.dev.reg GAT 0 0x20C ++ s.dev.reg GAT 0 0x208, val ++ s.dev.reg GAT 0 0x210)
            ∧ (∀ k, k ≠ s.dev.normKey → KMap.get e.gate.norm k (0, 0) = KMap.get s.dev.gate.norm k (0, 0))
            ∧ e.gate.streams = s.dev.gate.streams ∧ Only [(GAT, 0, 0x214)] s.dev e))
      ∧ (s.dev.rf GAT 0 0x200 0 2 ≠ 3 → s.dev.shadowLocked = true → s.dev.rf GAT 0 0x200 12 1 ≠ s.dev.activeNorm →
        Answers (.normHiCWrite val) s (fun e =>
          e.gate = s.dev.gate ∧ e.regN WBR 0 0x128 = satAdd 0xFFFF (s.dev.regN WBR 0 0x128) 1
            ∧ Only [(GAT, 0, 0x214), (WBR, 0, 0x128)] s.dev e))
      ∧ (s.dev.rf GAT 0 0x200 0 2 = 3 → Answers (.normHiCWrite val) s (fun e => e.gate = s.dev.gate ∧ Only [(GAT, 0, 0x214)] s.dev e)))
    ∧ (∀ val, Answers (.ptpStepNs val) s (fun e =>
        e.gate = { s.dev.gate with ptpNs := wrapN 64 ((s.dev.gate.ptpNs : Int) + val.toInt) } ∧ Only [] s.dev e))
    ∧ Answers .gateTdrStart s (fun e =>
        e.gate = { s.dev.gate with tdr := true } ∧ .tdrPulse 2 ∈ e.outbox ∧ e.rb GAT 0 0x010 2 = false
          ∧ Only [(GAT, 0, 0x010), (GAT, 0, 0x014), (LDG, 0, 0x030)] s.dev e)
    ∧ (∀ pairs : List (Nat × Nat), pairs.length = 4 →
      (s.dev.gate.tdr = true →
        Answers (.gateTdrDone pairs) s (fun e =>
          e.gate.tdr = false ∧ e.rb GAT 0 0x014 6 = true
            ∧ (∀ k, k < 4 → e.regN GAT 0 (0x304 + 4 * k) = (pairs.getD k (0, 0)).1 % 8 + (pairs.getD k (0, 0)).2 % 4096 * 256)
            ∧ Only [(GAT, 0, 0x014), (GAT, 0, 0x304), (GAT, 0, 0x308), (GAT, 0, 0x30C), (GAT, 0, 0x310)] s.dev e))
      ∧ (s.dev.gate.tdr = false → Answers (.gateTdrDone pairs) s (fun e => e.gate = s.dev.gate ∧ Only [] s.dev e)))
    ∧ (∀ port up speed, port < 3 → speed < 3 →
      Answers (.linkChange port up speed) s (fun e =>
        e.rb GAT 0 0x010 port = up ∧ e.rb GAT 0 0x014 5 = true ∧ (port = 2 → up = true → e.rf GAT 0 0x010 3 2 = speed)
          ∧ (∀ k, k < 3 → k ≠ port → e.rb GAT 0 0x010 k = s.dev.rb GAT 0 0x010 k) ∧ e.gate = s.dev.gate
          ∧ Only [(GAT, 0, 0x010), (GAT, 0, 0x014), (GAT, 0, 0x008), (LDG, 0, 0x030)] s.dev e))

/-! ### The Crier -/

/-- A field segment. The oldest verdict or frame handed over for it becomes a frame at the end of its queue, which displaces the oldest of 64. A frame
that is sent leaves the queue and the chip, and is counted; so is one that is abandoned under CSMA/CD; a segment that is not in use or is measured sends nothing. A frame
of a known sender for the port's address joins the Clerk's queue; a transmit opportunity sets the node's bit of the census, and one of a node that is not expected raises
bit 0; a duplicate ID is counted, and under PLCA raises bit 1; a lost beacon clears the PLCA bit and raises bit 2; reflectometry stops the segment, and its end shows TERM
and the distance. -/
def Obligations.CrierSegments : Prop :=
  ∀ (s : State) (g : Nat), g < 4 → g < s.dev.crier.segs.length → s.dev.boot.held = false →
    (∀ h, s.dev.crier.handed.find? (fun h => decide (h.seg = g)) = some h → (s.dev.seg g).queue.length ≤ 64 →
      Answers (.crierFrameQueue g) s (fun e =>
        (e.seg g).queue.length = min 64 ((s.dev.seg g).queue.length + 1)
          ∧ e.rb CRI g 0x010 1 = decide (64 ≤ (e.seg g).queue.length)
          ∧ e.crier.handed = dropFirst (fun x => decide (x.seg = g)) s.dev.crier.handed
          ∧ (∀ dest stream slot flags bell ts rtp pay, h = .verdict g dest stream slot flags bell ts rtp pay →
              (e.seg g).queue = (if 64 ≤ (s.dev.seg g).queue.length then (s.dev.seg g).queue.drop 1 else (s.dev.seg g).queue)
                ++ [⟨s.dev.verdictFrame g dest stream slot flags bell ts rtp pay, stream⟩])
          ∧ (∀ bytes, h = .frame g bytes → ∃ st,
              (e.seg g).queue = (if 64 ≤ (s.dev.seg g).queue.length then (s.dev.seg g).queue.drop 1 else (s.dev.seg g).queue) ++ [⟨pad60 bytes, st⟩])
          ∧ (∀ k, k ≠ g → e.seg k = s.dev.seg k) ∧ Only [(CRI, g, 0x010), (CRI, g, 0x038), (LDG, 0, 0x030)] s.dev e))
    ∧ (∀ f rest, (s.dev.seg g).queue = f :: rest →
      (s.dev.rb CRI g 0x008 0 = true → (s.dev.seg g).tdr = false →
        Answers (.crierTransmit g true) s (fun e =>
          (e.seg g).queue = rest ∧ .segFrame g f.bytes ∈ e.outbox ∧ e.regN CRI g 0x03C = satAdd 0xFFFFFFFF (s.dev.regN CRI g 0x03C) 1
            ∧ Only [(CRI, g, 0x010), (CRI, g, 0x03C)] s.dev e)
        ∧ (s.dev.plca g = false → Answers (.crierTransmit g false) s (fun e =>
            (e.seg g).queue = rest ∧ e.regN CRI g 0x038 = satAdd 0xFFFFFFFF (s.dev.regN CRI g 0x038) 1
              ∧ Only [(CRI, g, 0x010), (CRI, g, 0x038), (LDG, 0, 0x030)] s.dev e)))
      ∧ (s.dev.rb CRI g 0x008 0 = false ∨ (s.dev.seg g).tdr = true →
        ∀ sent, Answers (.crierTransmit g sent) s (fun e => e.crier = s.dev.crier ∧ Only [] s.dev e)))
    ∧ (∀ f, s.dev.rb CRI g 0x008 0 = true → s.dev.knownMac g f.src.toNat = true → f.dst.toNat = s.dev.segMac g → s.dev.clerkFull = false →
      Answers (.segmentFrameReceive g f) s (fun e =>
        e.gate.segQueue = s.dev.gate.segQueue ++ [(g, f)] ∧ e.crier = s.dev.crier ∧ Only [(TRS, 0, 0x034), (LDG, 0, 0x030)] s.dev e))
    ∧ (∀ f, s.dev.rb CRI g 0x008 0 = false → Answers (.segmentFrameReceive g f) s (fun e => e.gate = s.dev.gate ∧ e.crier = s.dev.crier ∧ Only [] s.dev e))
    ∧ (s.dev.rb CRI g 0x008 0 = true →
      (∀ node, node < 32 → s.dev.rb CRI g 0x008 1 = true →
        Answers (.plcaOpportunity g node) s (fun e =>
          e.rb CRI g 0x108 node = true ∧ (∀ k, k < 32 → k ≠ node → e.rb CRI g 0x108 k = s.dev.rb CRI g 0x108 k)
            ∧ e.rb CRI g 0x010 0 = true ∧ (e.seg g).fellBack = false ∧ (s.dev.rb CRI g 0x10C node = false → e.rb CRI g 0x014 0 = true)
            ∧ Only [(CRI, g, 0x108), (CRI, g, 0x010), (CRI, g, 0x014), (CRI, g, 0x034), (LDG, 0, 0x030)] s.dev e))
      ∧ (∀ node, node < 32 → Answers (.dupId g node) s (fun e =>
          e.regN CRI g 0x030 = satAdd 0xFFFFFFFF (s.dev.regN CRI g 0x030) 1 ∧ (s.dev.plca g = true → e.rb CRI g 0x014 1 = true)
            ∧ (s.dev.plca g = false → Only [(CRI, g, 0x030)] s.dev e) ∧ e.crier = s.dev.crier ∧ SameMemory s.dev e))
      ∧ (s.dev.rb CRI g 0x008 1 = true → s.dev.rf CRI g 0x100 0 5 ≠ 0 →
        Answers (.beaconLost g) s (fun e =>
          e.rb CRI g 0x010 0 = false ∧ e.rb CRI g 0x014 2 = true ∧ (e.seg g).fellBack = true
            ∧ Only [(CRI, g, 0x010), (CRI, g, 0x014), (LDG, 0, 0x030)] s.dev e)))
    ∧ Answers (.segmentTdrStart g) s (fun e =>
        (e.seg g).tdr = true ∧ (e.seg g).queue = (s.dev.seg g).queue ∧ .tdrPulse (4 + g) ∈ e.outbox ∧ Only [] s.dev e)
    ∧ (∀ term dist, term < 8 → dist < 1024 → (s.dev.seg g).tdr = true →
      Answers (.termFault g term dist) s (fun e =>
        (e.seg g).tdr = false ∧ e.regN CRI g 0x11C = term + dist * 16 ∧ e.rb CRI g 0x014 4 = true
          ∧ (term ≠ 0 → e.rb CRI g 0x014 3 = true) ∧ Only [(CRI, g, 0x11C), (CRI, g, 0x014), (LDG, 0, 0x030)] s.dev e))

/-! ### The Aisles -/

/-- Flits of a link that is up. A bad one is counted and discarded, and the link waits for a replay with source 1 asking for the hush; the expected one moves the
expected number on by 1 modulo 4,096, ends the wait, and its message is kept, as are its words unless it is marked held; another changes neither. A replay of 128 cycles
is slow: LINK_SLOW (bit 2). Cells. In a cell of a channel with credit its oldest word joins the flit of the cycle and the count falls by 1; with none the cell is
empty and CREDIT_WAIT counts it; a CRED bit returns a credit that is owed. A position is sent once a cycle and not in a hush. A word leaves a receive queue for the Depot,
or for its edge position when there is room and no hush, and a credit is owed. -/
def Obligations.AisleFlitsAndCells : Prop :=
  (∀ (s : State) (l : Nat), l < 8 → l < s.dev.aisles.links.length → s.dev.boot.held = false →
    (∀ f, s.dev.linkIsUp l = true →
      (f.good = false →
        Answers (.flitReceive l f) s (fun e =>
          (e.link l).rxSeq = (s.dev.link l).rxSeq ∧ (e.link l).badNow = true ∧ (e.link l).inbox = (s.dev.link l).inbox
            ∧ e.regN AIS l 0x030 = satAdd 0xFFFFFFFF (s.dev.regN AIS l 0x030) 1 ∧ e.aisles.ins = s.dev.aisles.ins
            ∧ ((s.dev.link l).badNow = false → 1 ∈ e.bell.reqs) ∧ Only [(AIS, l, 0x030), (AIS, l, 0x034)] s.dev e))
      ∧ (f.good = true → f.seq = (s.dev.link l).rxSeq →
        Answers (.flitReceive l f) s (fun e =>
          (e.link l).rxSeq = ((s.dev.link l).rxSeq + 1) % 4096 ∧ (e.link l).badNow = false
            ∧ (e.link l).inbox = (s.dev.link l).inbox ++ f.msg.toList
            ∧ (f.held = true → e.aisles.ins = s.dev.aisles.ins ∧ e.aisles.outs = s.dev.aisles.outs)
            ∧ (f.held = false → ∀ ch c, KMap.get s.dev.aisles.ins ch none = some c → c.link = l →
                KMap.get e.aisles.ins ch none = some { c with
                  queue := c.queue ++ (List.range 27).filterMap (fun p => if (p, f.wpos) ∈ c.cells then f.cell p else none) })
            ∧ Only [(AIS, l, 0x034)] s.dev e))
      ∧ (f.good = true → f.seq ≠ (s.dev.link l).rxSeq →
        Answers (.flitReceive l f) s (fun e =>
          (e.link l).rxSeq = (s.dev.link l).rxSeq ∧ (e.link l).inbox = (s.dev.link l).inbox ∧ e.aisles.ins = s.dev.aisles.ins
            ∧ e.aisles.outs = s.dev.aisles.outs ∧ e.bell = s.dev.bell ∧ Only [(AIS, l, 0x034)] s.dev e)))
    ∧ (∀ f, s.dev.linkIsUp l = false → Answers (.flitReceive l f) s (fun e => e.aisles = s.dev.aisles ∧ e.bell = s.dev.bell ∧ Only [] s.dev e))
    ∧ ((s.dev.link l).badNow = true → (s.dev.link l).slow = false → (s.dev.link l).badSince + 128 ≤ s.dev.now →
      Answers (.replaySlow l) s (fun e => (e.link l).slow = true ∧ e.rb AIS l 0x014 2 = true ∧ Only [(AIS, l, 0x014), (LDG, 0, 0x030)] s.dev e))
    ∧ ((s.dev.link l).badNow = false ∨ (s.dev.link l).slow = true ∨ s.dev.now < (s.dev.link l).badSince + 128 →
      Answers (.replaySlow l) s (fun e => e.aisles = s.dev.aisles ∧ e.bell = s.dev.bell ∧ Only [] s.dev e)))
  ∧ (∀ (s : State) (l pos : Nat), l < 8 → l < s.dev.aisles.links.length → pos < 27 → s.dev.boot.held = false →
    (s.dev.bell.hushed = false → s.dev.linkIsUp l = true →
      ((s.dev.link l).txCells.any (fun kv => decide (kv.1 = pos)) = false → ∀ k c, s.dev.cellOut l pos = some (k, c) →
        (∀ w rest, c.queue = w :: rest → c.credit ≠ 0 →
          Answers (.cellSend l pos) s (fun e =>
            e.outChan k = some { c with queue := rest, credit := c.credit - 1 } ∧ KMap.get (e.link l).txCells pos none = some w ∧ Only [] s.dev e))
        ∧ (∀ w rest, c.queue = w :: rest → c.credit = 0 →
          Answers (.cellSend l pos) s (fun e =>
            e.aisles.outs = s.dev.aisles.outs ∧ KMap.get (e.link l).txCells pos none = none
              ∧ e.regN AIS l 0x038 = satAdd 0xFFFFFFFF (s.dev.regN AIS l 0x038) 1 ∧ Only [(AIS, l, 0x038)] s.dev e))
        ∧ (c.queue = [] →
          Answers (.cellSend l pos) s (fun e =>
            e.aisles.outs = s.dev.aisles.outs ∧ KMap.get (e.link l).txCells pos none = none ∧ Only [] s.dev e)))
      ∧ ((s.dev.link l).txCells.any (fun kv => decide (kv.1 = pos)) = true →
        Answers (.cellSend l pos) s (fun e => e.aisles.outs = s.dev.aisles.outs ∧ (e.link l).txCells = (s.dev.link l).txCells ∧ Only [] s.dev e))
      ∧ (∀ ch c, s.dev.cellIn l pos = some (ch, c) → c.owed ≠ 0 → pos ∉ (s.dev.link l).txCred →
        Answers (.cellSend l pos) s (fun e =>
          KMap.get e.aisles.ins ch none = some { c with owed := c.owed - 1 } ∧ pos ∈ (e.link l).txCred ∧ Only [(AIS, l, 0x038)] s.dev e)))
    ∧ (s.dev.bell.hushed = true ∨ s.dev.linkIsUp l = false → Answers (.cellSend l pos) s (fun e => e.aisles = s.dev.aisles ∧ Only [] s.dev e)))
  ∧ (∀ (s : State) (ch : Nat) (c : InChan) (w : BWord) (rest : List BWord), ch < 128 → s.dev.boot.held = false →
    KMap.get s.dev.aisles.ins ch none = some c → c.queue = w :: rest →
    (c.depot = true → c.dsize ≠ 0 →
      Answers (.receiveQueueDrain ch) s (fun e =>
        KMap.get e.aisles.ins ch none = some { c with queue := rest, owed := c.owed + 1, wptr := (c.wptr + 8) % c.dsize }
          ∧ SameDepotBut (c.dbase + c.wptr) 8 s.dev e ∧ SameButDepot s.dev e))
    ∧ (c.depot = false → s.dev.bell.hushed = false → s.dev.edgeRoom c.edge = true →
      Answers (.receiveQueueDrain ch) s (fun e =>
        KMap.get e.aisles.ins ch none = some { c with queue := rest, owed := c.owed + 1 } ∧ SameMemory s.dev e))
    ∧ (c.depot = false → s.dev.bell.hushed = true ∨ s.dev.edgeRoom c.edge = false →
      Answers (.receiveQueueDrain ch) s (fun e => e.aisles = s.dev.aisles ∧ e.stalls = s.dev.stalls ∧ Only [] s.dev e)))

/-- Links going down and up. Each cause of R476 takes a link that is up down, with its reason; a link in use halts the market; without its cause nothing happens. With
LANE_MAP 7 and no other lane lost, a lane that loses lock leaves the link up; with another lost or mapped out it goes down with reason 1. CTRL.EN from 0 to 1 trains the
link, but for one in use that has gone down; training ends with the link up and the partner shown, or down with its reason: no lock (1), a raw latency above 32 cycles (2), a
partner of another market (3). -/
def Obligations.AisleLinks : Prop :=
  ∀ (s : State) (l : Nat), l < 8 → l < s.dev.aisles.links.length → s.dev.boot.held = false →
    (∀ reason, reason < 7 →
      (s.dev.linkIsUp l = true →
        ((reason = 4 ∧ 8 ≤ (s.dev.link l).nakCount) ∨ (reason = 5 ∧ (s.dev.link l).lastFlit + 64 ≤ s.dev.now)
          ∨ (reason = 6 ∧ 256 ≤ (s.dev.link l).unacked.length) ∨ (reason = 1 ∧ (s.dev.link l).lostLanes ≠ [])) →
        Answers (.linkDown l reason) s (fun e =>
          e.rf AIS l 0x010 0 3 = 3 ∧ e.rf AIS l 0x010 4 3 = reason ∧ e.rb AIS l 0x014 1 = true ∧ (e.link l).unacked = [] ∧ (e.link l).down = true
            ∧ (s.dev.rb AIS l 0x010 8 = true → e.bell.halting = true) ∧ Only [(AIS, l, 0x010), (AIS, l, 0x014), (LDG, 0, 0x030)] s.dev e))
      ∧ (s.dev.linkIsUp l = false → Answers (.linkDown l reason) s (fun e => e.aisles = s.dev.aisles ∧ e.bell = s.dev.bell ∧ Only [] s.dev e)))
    ∧ (s.dev.linkIsUp l = true →
      ((s.dev.link l).lastFlit + 64 ≤ s.dev.now →
        Answers (.linkSilentTimeout l) s (fun e =>
          e.rf AIS l 0x010 0 3 = 3 ∧ e.rf AIS l 0x010 4 3 = 5 ∧ e.rb AIS l 0x014 1 = true
            ∧ Only [(AIS, l, 0x010), (AIS, l, 0x014), (LDG, 0, 0x030)] s.dev e))
      ∧ (s.dev.now < (s.dev.link l).lastFlit + 64 →
        Answers (.linkSilentTimeout l) s (fun e => e.aisles = s.dev.aisles ∧ e.bell = s.dev.bell ∧ Only [] s.dev e)))
    ∧ (∀ lane, lane < 4 → s.dev.linkIsUp l = true →
      Answers (.laneLosesLock l lane) s (fun e =>
        lane ∈ (e.link l).lostLanes
          ∧ (s.dev.aisles.laneMaps.getD l 7 = 7 → (∀ x ∈ (s.dev.link l).lostLanes, x = lane) → e.linkIsUp l = true)
          ∧ (s.dev.aisles.laneMaps.getD l 7 ≠ 7 ∨ (∃ x ∈ (s.dev.link l).lostLanes, x ≠ lane) → e.rf AIS l 0x010 0 3 = 3 ∧ e.rf AIS l 0x010 4 3 = 1)
          ∧ SameMemory s.dev e))
    ∧ (s.dev.rb AIS l 0x008 0 = false →
      (s.dev.rb AIS l 0x010 8 = false ∨ (s.dev.link l).down = false →
        Answers (.linkTrain l) s (fun e =>
          e.rf AIS l 0x010 0 3 = 1 ∧ e.rb AIS l 0x008 0 = true ∧ .train l ∈ e.outbox ∧ e.aisles.index = s.dev.rf AIS 8 0x100 0 15
            ∧ Only [(AIS, l, 0x008), (AIS, l, 0x010)] s.dev e))
      ∧ (s.dev.rb AIS l 0x010 8 = true → (s.dev.link l).down = true →
        Answers (.linkTrain l) s (fun e =>
          e.rf AIS l 0x010 0 3 = 3 ∧ e.rb AIS l 0x008 0 = true ∧ e.aisles = s.dev.aisles ∧ Only [(AIS, l, 0x008), (AIS, l, 0x010)] s.dev e)))
    ∧ (s.dev.rf AIS l 0x010 0 3 = 1 →
      (∀ partner plink rev market digest raw ms,
        (raw ≤ 2048 → market = s.dev.aisles.market →
          Answers (.linkUp l (.up partner plink rev market digest raw ms)) s (fun e =>
            e.linkIsUp l = true ∧ e.rf AIS l 0x108 0 15 = partner % 2 ^ 15 ∧ e.rf AIS l 0x108 16 3 = plink % 8 ∧ e.regN AIS l 0x10C = raw
              ∧ e.rb AIS l 0x014 0 = true ∧ (e.link l).partnerDigest = digest
              ∧ Only [(AIS, l, 0x010), (AIS, l, 0x014), (AIS, l, 0x108), (AIS, l, 0x10C), (AIS, l, 0x110), (LDG, 0, 0x030)] s.dev e))
        ∧ (2048 < raw → Answers (.linkUp l (.up partner plink rev market digest raw ms)) s (fun e =>
            e.rf AIS l 0x010 0 3 = 3 ∧ e.rf AIS l 0x010 4 3 = 2 ∧ SameMemory s.dev e))
        ∧ (raw ≤ 2048 → market ≠ s.dev.aisles.market → Answers (.linkUp l (.up partner plink rev market digest raw ms)) s (fun e =>
            e.rf AIS l 0x010 0 3 = 3 ∧ e.rf AIS l 0x010 4 3 = 3 ∧ SameMemory s.dev e)))
      ∧ Answers (.linkUp l .noLock) s (fun e => e.rf AIS l 0x010 0 3 = 3 ∧ e.rf AIS l 0x010 4 3 = 1 ∧ SameMemory s.dev e)
      ∧ Answers (.linkUp l .tooLong) s (fun e => e.rf AIS l 0x010 0 3 = 3 ∧ e.rf AIS l 0x010 4 3 = 2 ∧ SameMemory s.dev e))
    ∧ (s.dev.rf AIS l 0x010 0 3 ≠ 1 → ∀ res, Answers (.linkUp l res) s (fun e => e.aisles = s.dev.aisles ∧ Only [] s.dev e))

/-- Flooded messages. The first arrival goes on, into the control queue of every other link that is up and has room there: HUSH_START (one hop more) records the request
of its chip and the cycle it hushes from; HUSH_END ends the open request; a BELL that agrees with the bell count sets ROUND_ERR and the length of the round; DECIDE records
the decision, or halts the market as CMD_LATE (bit 4) when it comes at or after its bell; DISCOVER records the latency, and one of this chip's own index with another digest
is a duplicate (bit 3). A message that came before, or from this chip, changes no register and no part of the bell. Messages between neighbours, and a bell that is missed.
UP_READY is remembered by its kind and link; UP_HALT halts the market at the chip that rings the bell and goes on towards it elsewhere; EQ_REQ keeps a
preset for the next bell; with no message of its type a command does nothing. A follower whose bell has not come counts BELL_MISS, and the second in a row is
MASTER_LOST. -/
def Obligations.AisleMessages : Prop :=
  (∀ (s : State) (l : Nat) (m : AisleMsg), l < 8 → s.dev.aisles.links.length = 8 → s.dev.boot.held = false →
    (s.dev.link l).inbox.find? (fun x => decide (x.type = m.type)) = some m →
    (m.type = 1 → s.dev.seenMsg m = false →
      Answers (.hushStart l) s (fun e =>
        (∃ r ∈ e.aisles.remote, r.origin = m.origin ∧ r.stamp = s.dev.stampCycle m.a m.b ∧ r.to_ = none
            ∧ (s.dev.stampCycle m.a m.b + 3 + 32 * m.c < s.dev.now → r.from_ = s.dev.now + 1)
            ∧ (s.dev.now ≤ s.dev.stampCycle m.a m.b + 3 + 32 * m.c → (r.from_ : Int) = s.dev.stampCycle m.a m.b + 3 + 32 * m.c))
          ∧ (∀ x ∈ s.dev.upLinks, x ≠ l → (s.dev.link x).ctl.length < 32 → AisleMsg.hop m ∈ (e.link x).ctl)
          ∧ Only [(AIS, 8, 0x030), (AIS, 8, 0x014), (LDG, 0, 0x030)] s.dev e))
    ∧ (∀ r, m.type = 2 → s.dev.seenMsg m = false →
      (s.dev.aisles.remote.reverse).find? (fun x => decide (x.origin = m.origin) && x.to_.isNone) = some r →
      Answers (.hushEnd l) s (fun e =>
        r ∉ e.aisles.remote ∧ (∀ x ∈ s.dev.upLinks, x ≠ l → (s.dev.link x).ctl.length < 32 → AisleMsg.hop m ∈ (e.link x).ctl)
          ∧ Only [(AIS, 8, 0x030), (AIS, 8, 0x014), (LDG, 0, 0x030)] s.dev e))
    ∧ (m.type = 3 → s.dev.seenMsg m = false →
      (s.dev.follows = true → s.dev.bellsRing = true → m.a = s.dev.bell.count % 65536 →
        Answers (.bellMessage l) s (fun e =>
          e.regN AIS 8 0x114 = wrapN 16 ((s.dev.masterLat : Int) - 64 * s.dev.rf BEL 0 0x128 0 24)
            ∧ e.rf BEL 0 0x12C 0 24 = ((m.b : Int) - clampI (-2) 2 (rheDiv ((s.dev.masterLat : Int) - 64 * s.dev.rf BEL 0 0x128 0 24) 64)).toNat
                % 2 ^ 24
            ∧ e.aisles.bellSeen = true ∧ e.aisles.missed = false
            ∧ (∀ x ∈ s.dev.upLinks, x ≠ l → (s.dev.link x).ctl.length < 32 → m ∈ (e.link x).ctl)
            ∧ Only [(AIS, 8, 0x114), (BEL, 0, 0x12C)] s.dev e))
      ∧ (s.dev.follows = true → s.dev.bellsRing = false → m.a = 0 →
        Answers (.bellMessage l) s (fun e => e.bell.count = 0 ∧ e.aisles.bellSeen = true ∧ e.aisles.missed = false))
      ∧ (s.dev.follows = false ∨ (s.dev.bellsRing = true ∧ m.a ≠ s.dev.bell.count % 65536) ∨ (s.dev.bellsRing = false ∧ m.a ≠ 0) →
        Answers (.bellMessage l) s (fun e => e.bell = s.dev.bell ∧ Only [] s.dev e)))
    ∧ (m.type = 6 → s.dev.seenMsg m = false →
      Answers (.decideMsg l) s (fun e =>
        ((m.b + 2 ^ 24 - s.dev.nextBell % 2 ^ 24) % 2 ^ 24 < 2 ^ 23 → (m.a, m.b) ∈ e.bell.decided)
          ∧ (2 ^ 23 ≤ (m.b + 2 ^ 24 - s.dev.nextBell % 2 ^ 24) % 2 ^ 24 →
              e.rb AIS 8 0x014 4 = true ∧ e.bell.halting = true ∧ e.bell.decided = s.dev.bell.decided)
          ∧ (∀ x ∈ s.dev.upLinks, x ≠ l → (s.dev.link x).ctl.length < 32 → m ∈ (e.link x).ctl)
          ∧ Only [(AIS, 8, 0x014), (LDG, 0, 0x030)] s.dev e))
    ∧ (m.type = 7 → s.dev.seenMsg m = false →
      Answers (.discover l) s (fun e =>
        (l, m.origin, 64 * (m.b + hopLatency)) ∈ e.aisles.lats ∧ (∃ g, (m.origin, g) ∈ e.aisles.digests)
          ∧ e.regN AIS 8 0x10C = (e.aisles.digests.length + 1) % 2 ^ 32
          ∧ (∀ x ∈ s.dev.upLinks, x ≠ l → (s.dev.link x).ctl.length < 32 → { m with b := m.b + hopLatency } ∈ (e.link x).ctl)
          ∧ Only [(AIS, 8, 0x10C), (AIS, 8, 0x110), (AIS, 8, 0x014), (LDG, 0, 0x030)] s.dev e))
    ∧ (m.type = 7 → m.origin = s.dev.chipIndex → m.a ≠ s.dev.digest32 →
      Answers (.discover l) s (fun e => e.rb AIS 8 0x014 3 = true ∧ Only [(AIS, 8, 0x014), (LDG, 0, 0x030)] s.dev e))
    ∧ (s.dev.seenMsg m = true →
      ∀ c : Nat × Instr, c ∈ [(1, Instr.hushStart l), (2, .hushEnd l), (3, .bellMessage l), (6, .decideMsg l)] → m.type = c.1 →
        Answers c.2 s (fun e => e.aisles.remote = s.dev.aisles.remote ∧ e.bell = s.dev.bell ∧ Only [] s.dev e)))
  ∧ (∀ s : State, s.dev.boot.held = false →
    (∀ l m, l < 8 → s.dev.aisles.links.length = 8 → (s.dev.link l).inbox.find? (fun x => decide (x.type = m.type)) = some m →
      (m.type = 4 → Answers (.upReady l) s (fun e => (m.a, l) ∈ e.aisles.upSeen ∧ Only [(BEL, 0, 0x008)] s.dev e))
      ∧ (m.type = 5 → Answers (.upHalt l) s (fun e =>
          (s.dev.follows = false → e.bell.halting = true)
            ∧ (s.dev.follows = true → (s.dev.link (s.dev.rf AIS 8 0x010 4 3)).ctl.length < 32 → m ∈ (e.link (s.dev.rf AIS 8 0x010 4 3)).ctl)
            ∧ Only [] s.dev e))
      ∧ (m.type = 8 → Answers (.eqReq l) s (fun e =>
          (e.link l).preset = (s.dev.link l).preset ++ [(m.a, m.b)] ∧ e.bell = s.dev.bell ∧ Only [] s.dev e)))
    ∧ (∀ l, l < 8 → ∀ c : Nat × Instr, c ∈ [(1, Instr.hushStart l), (2, .hushEnd l), (3, .bellMessage l), (4, .upReady l), (5, .upHalt l),
        (6, .decideMsg l), (7, .discover l), (8, .eqReq l)] → (∀ x ∈ (s.dev.link l).inbox, x.type ≠ c.1) →
      Answers c.2 s (fun e => e.aisles = s.dev.aisles ∧ e.bell = s.dev.bell ∧ Only [] s.dev e))
    ∧ (s.dev.follows = true → s.dev.bellsRing = true → s.dev.aisles.bellSeen = false →
      Answers .bellMiss s (fun e =>
        e.regN AIS 8 0x034 = satAdd 0xFFFF (s.dev.regN AIS 8 0x034) 1 ∧ e.rb AIS 8 0x014 0 = true ∧ e.aisles.missed = true
          ∧ (s.dev.aisles.missed = true → e.rb AIS 8 0x014 1 = true ∧ e.rb AIS 8 0x010 0 = true)
          ∧ Only [(AIS, 8, 0x034), (AIS, 8, 0x014), (AIS, 8, 0x010), (LDG, 0, 0x030)] s.dev e))
    ∧ (s.dev.follows = false ∨ s.dev.bellsRing = false ∨ s.dev.aisles.bellSeen = true →
      Answers .bellMiss s (fun e => e.aisles = s.dev.aisles ∧ e.bell = s.dev.bell ∧ Only [] s.dev e)))

/-! ### The host interface -/

/-- BAR0 accepts only naturally aligned 4-byte accesses: of any other, a read returns 0 and a write is discarded, BAD_ACCESS (bit 2) is raised
and the offset recorded in BAD_ADDR. An access at an offset that no page, window or table occupies reads 0 and is ignored. -/
def Obligations.BadBar0Access : Prop :=
  ∀ s : State, s.dev.boot.held = false →
    (∀ off size w val, off < 67108864 → size ≠ 4 ∨ off % 4 ≠ 0 →
      Answers (.bar0Access off size w val) s (fun e =>
        e.regN HST 0 0x104 = off ∧ e.rb HST 0 0x014 2 = true ∧ (w = false → e.reply.value = 0)
          ∧ SameSquare s.dev e ∧ Only [(HST, 0, 0x104), (HST, 0, 0x014), (LDG, 0, 0x030)] s.dev e))
    ∧ (∀ off w val, off < 67108864 → off % 4 = 0 → inMsixTable off = false → inPba off = false → s.dev.barPage off = none →
      Answers (.bar0Access off 4 w val) s (fun e =>
        (w = false → e.reply.value = 0) ∧ SameSquare s.dev e ∧ Only [] s.dev e))

/-- The host's accesses. An aligned BAR0 access to a page is that page's register write, or a read by the host; one to the MSI-X table is a dword of it, whose reserved
bits stay 0. A BAR2 read returns the data bits as stored, poisoned when the lane is spoiled; a BAR2 write changes the Depot's bytes that it covers and no other, and a
flip mask that aims at its lane is taken. During boot reads return 0 and writes are dropped. A WIN_SEL field takes every value but 3. -/
def Obligations.HostAccesses : Prop :=
  ∀ s : State, s.dev.boot.held = false →
    (∀ off val b u, off < 67108864 → off % 4 = 0 → inMsixTable off = false → inPba off = false → s.dev.barPage off = some (b, u) →
      Answers (.bar0Access off 4 true val) s (fun e => exec (.registerWrite ⟨b, u⟩ (off % 4096) val) s = .next { s with dev := e })
      ∧ Answers (.bar0Access off 4 false val) s (fun e => exec (.rcCounterRead .host ⟨b, u⟩ (off % 4096)) s = .next { s with dev := e }))
    ∧ (∀ off val i, off < 67108864 → off % 4 = 0 → inMsixTable off = true → (off - 0x200000) / 4 = i →
      Answers (.bar0Access off 4 false val) s (fun e => e.reply.value = (s.dev.msixDword i).toNat ∧ SameSquare s.dev e ∧ Only [] s.dev e)
      ∧ Answers (.bar0Access off 4 true val) s (fun e =>
          e.msixDword i = (if i % 4 = 0 then val &&& ~~~3#32 else if i % 4 = 3 then val &&& 1#32 else val)
            ∧ (∀ j, j ≠ i → e.msixDword j = s.dev.msixDword j) ∧ SameSquare s.dev e ∧ Only [] s.dev e))
    ∧ (∀ off, off + 8 ≤ 134217728 → off % 8 = 0 → s.dev.boot.booting = false →
      Answers (.bar2Read off 8) s (fun e =>
          e.reply.bytes = bytesOf (decodeWord (s.dev.depotCode (s.dev.depotBank (depotLb off)) (depotWord off) (depotLane off))).data
            ∧ e.reply.poisoned
                = (decodeWord (s.dev.depotCode (s.dev.depotBank (depotLb off)) (depotWord off) (depotLane off))).spoil
            ∧ (e.reply.poisoned = true → e.rb HST 0 0x014 3 = true ∧ e.regN HST 0 0x108 = off ∧ e.rb HST 0 0x10C 0 = false)
            ∧ SameMemory s.dev e)
      ∧ (∀ bytes poisoned, bytes.length = 8 →
        Answers (.bar2Write off bytes poisoned) s (fun e =>
          e.depotCode (s.dev.depotBank (depotLb off)) (depotWord off) (depotLane off)
              = encodeWord (wordOf bytes) poisoned ^^^ s.dev.depotFlip (s.dev.depotBank (depotLb off)) (depotLane off)
            ∧ (poisoned = true → e.rb HST 0 0x014 4 = true ∧ e.regN HST 0 0x108 = off ∧ e.rb HST 0 0x10C 0 = true)
            ∧ SameDepotBut off 8 s.dev e ∧ SameButDepot s.dev e)))
    ∧ (∀ off bytes poisoned, off + bytes.length ≤ 134217728 →
      (s.dev.boot.booting = true →
        Answers (.bar2Write off bytes poisoned) s (fun e => SameSquare s.dev e ∧ Only [] s.dev e)
        ∧ Answers (.bar2Read off bytes.length) s (fun e =>
            e.reply.bytes = List.replicate bytes.length 0 ∧ e.reply.poisoned = false ∧ SameSquare s.dev e ∧ Only [] s.dev e))
      ∧ (s.dev.boot.booting = false →
        Answers (.bar2Write off bytes poisoned) s (fun e => SameDepotBut off bytes.length s.dev e ∧ SameButDepot s.dev e)
        ∧ Answers (.bar2Read off bytes.length) s (fun e => e.reply.bytes.length = bytes.length ∧ SameMemory s.dev e)))
    ∧ (∀ val : Word, Answers (.winSelWrite val) s (fun e =>
        e.rf HST 0 0x100 0 2 = (if fld val.toNat 0 2 = 3 then s.dev.rf HST 0 0x100 0 2 else fld val.toNat 0 2)
          ∧ e.rf HST 0 0x100 2 2 = (if fld val.toNat 2 2 = 3 then s.dev.rf HST 0 0x100 2 2 else fld val.toNat 2 2)
          ∧ SameSquare s.dev e ∧ Only [(HST, 0, 0x100)] s.dev e))

/-- Host rings. A doorbell moves CI when the new value lies no further from CI than PI does, and is otherwise counted as an error; while BUSY
holds, the value is parked, and it is applied once BUSY ends; a disabled ring ignores it. RING_CMD writes, enables or disables the selected ring, or refuses an enabled
ring (1) or a size out of range (2). Once COAL_US has passed a coalescing timeout signals what is unsignalled. The HRB pin, host reset and the link. A busy cause
takes HRB low and sets BUSY; its end, after 2,000 cycles at least, takes HRB high, clears BUSY and raises bit 6; attention is a low of 200 cycles after at least 800 high
ones. A host reset disables every ring and returns the host pages to their reset values, and no other block's register but a lost Ledger
event changes. The PCI Express link shows its speed and width. -/
def Obligations.HostRingsAndPin : Prop :=
  (∀ s : State, s.dev.boot.held = false →
    (∀ n (val : Word), n < 4096 →
      (s.dev.rb HST 0 0x010 0 = true →
        Answers (.doorbellWrite (256 * n) val) s (fun e =>
          (e.ring n).parked = some val ∧ (e.ring n).ci = (s.dev.ring n).ci
            ∧ (s.dev.boot.booting = false → e.regN HST 0 0x034 = satAdd 0xFFFFFFFF (s.dev.regN HST 0 0x034) 1)
            ∧ (∀ k, k ≠ n → e.ring k = s.dev.ring k) ∧ Only [(HST, 0, 0x034)] s.dev e))
      ∧ (s.dev.rb HST 0 0x010 0 = false → (s.dev.ring n).enabled = true →
        ((val.toNat + 2 ^ 32 - (s.dev.ring n).ci) % 2 ^ 32 ≤ ((s.dev.ring n).pi + 2 ^ 32 - (s.dev.ring n).ci) % 2 ^ 32 →
          Answers (.doorbellWrite (256 * n) val) s (fun e =>
            (e.ring n).ci = val.toNat ∧ (e.ring n).pi = (s.dev.ring n).pi ∧ (∀ k, k ≠ n → e.ring k = s.dev.ring k) ∧ Only [] s.dev e))
        ∧ (((s.dev.ring n).pi + 2 ^ 32 - (s.dev.ring n).ci) % 2 ^ 32 < (val.toNat + 2 ^ 32 - (s.dev.ring n).ci) % 2 ^ 32 →
          Answers (.doorbellWrite (256 * n) val) s (fun e =>
            e.host.rings = s.dev.host.rings ∧ e.regN HST 0 0x038 = satAdd 0xFFFFFFFF (s.dev.regN HST 0 0x038) 1
              ∧ e.rb HST 0 0x014 1 = true ∧ Only [(HST, 0, 0x038), (HST, 0, 0x014), (LDG, 0, 0x030)] s.dev e)))
      ∧ (s.dev.rb HST 0 0x010 0 = false → (s.dev.ring n).enabled = false →
        Answers (.doorbellWrite (256 * n) val) s (fun e => e.host.rings = s.dev.host.rings ∧ Only [] s.dev e)))
    ∧ (∀ off (val : Word), off < 1048576 → off % 256 ≠ 0 →
      Answers (.doorbellWrite off val) s (fun e => e.host.rings = s.dev.host.rings ∧ Only [] s.dev e))
    ∧ (s.dev.rb HST 0 0x010 0 = false →
      Answers .parkedDoorbellsApply s (fun e =>
        (∀ n, (e.ring n).parked = none)
          ∧ (∀ n v, (s.dev.ring n).parked = some v → (s.dev.ring n).enabled = true →
              (v.toNat + 2 ^ 32 - (s.dev.ring n).ci) % 2 ^ 32 ≤ ((s.dev.ring n).pi + 2 ^ 32 - (s.dev.ring n).ci) % 2 ^ 32 → (e.ring n).ci = v.toNat)
          ∧ Only [(HST, 0, 0x038), (HST, 0, 0x014), (LDG, 0, 0x030)] s.dev e))
    ∧ (s.dev.rb HST 0 0x010 0 = true → Answers .parkedDoorbellsApply s (fun e => e.host.rings = s.dev.host.rings ∧ Only [] s.dev e))
    ∧ Answers .ringWrite s (fun e =>
        ((s.dev.ring s.dev.ringSel).enabled = true → e.rf HST 0 0x118 0 3 = 1 ∧ e.host.rings = s.dev.host.rings)
          ∧ ((s.dev.ring s.dev.ringSel).enabled = false → (s.dev.rf HST 0 0x128 0 5 < 6 ∨ 16 < s.dev.rf HST 0 0x128 0 5) →
              e.rf HST 0 0x118 0 3 = 2 ∧ e.host.rings = s.dev.host.rings)
          ∧ ((s.dev.ring s.dev.ringSel).enabled = false → 6 ≤ s.dev.rf HST 0 0x128 0 5 → s.dev.rf HST 0 0x128 0 5 ≤ 16 →
              e.rf HST 0 0x118 0 3 = 0 ∧ (e.ring s.dev.ringSel).size = s.dev.rf HST 0 0x128 0 5
                ∧ (e.ring s.dev.ringSel).vector = s.dev.rf HST 0 0x128 16 11
                ∧ (e.ring s.dev.ringSel).addr = s.dev.rf HST 0 0x120 12 20 * 4096 + s.dev.regN HST 0 0x124 * 2 ^ 32
                ∧ (e.ring s.dev.ringSel).coalCnt = s.dev.rf HST 0 0x12C 0 8 ∧ (e.ring s.dev.ringSel).coalUs = s.dev.rf HST 0 0x12C 8 16
                ∧ (e.ring s.dev.ringSel).enabled = false)
          ∧ (∀ k, k ≠ s.dev.ringSel → e.ring k = s.dev.ring k) ∧ Only [(HST, 0, 0x118)] s.dev e)
    ∧ Answers .ringEnable s (fun e =>
        (e.ring s.dev.ringSel).enabled = true ∧ (e.ring s.dev.ringSel).pi = 0 ∧ (e.ring s.dev.ringSel).ci = 0
          ∧ e.rf HST 0 0x118 0 3 = 0 ∧ (∀ k, k ≠ s.dev.ringSel → e.ring k = s.dev.ring k) ∧ Only [(HST, 0, 0x118)] s.dev e)
    ∧ Answers .ringDisable s (fun e =>
        (e.ring s.dev.ringSel).enabled = false ∧ e.rf HST 0 0x118 0 3 = 0 ∧ (∀ k, k ≠ s.dev.ringSel → e.ring k = s.dev.ring k)
          ∧ Only [(HST, 0, 0x118)] s.dev e)
    ∧ (∀ n, n < 4096 →
      ((s.dev.ring n).enabled = true → (s.dev.ring n).coalUs ≠ 0 → (s.dev.ring n).unsignalled ≠ 0 →
        (s.dev.ring n).firstAt + 200 * (s.dev.ring n).coalUs ≤ s.dev.now →
        Answers (.ringCoalesceTimeout n) s (fun e =>
          (e.ring n).unsignalled = 0 ∧ (s.dev.vectorMasked (s.dev.ring n).vector = false → .msix (s.dev.ring n).vector ∈ e.outbox)
            ∧ (s.dev.vectorMasked (s.dev.ring n).vector = true → (s.dev.ring n).vector ∈ e.host.pba)
            ∧ (∀ k, k ≠ n → e.ring k = s.dev.ring k) ∧ Only [] s.dev e))
      ∧ ((s.dev.ring n).enabled = false ∨ (s.dev.ring n).unsignalled = 0 ∨ s.dev.now < (s.dev.ring n).firstAt + 200 * (s.dev.ring n).coalUs →
        Answers (.ringCoalesceTimeout n) s (fun e => e.host.rings = s.dev.host.rings ∧ Only [] s.dev e))))
  ∧ (∀ s : State, s.dev.boot.held = false →
    (s.dev.rb HST 0 0x010 0 = false → s.dev.busySrc ≠ 0 →
      Answers .hrbBusyBegin s (fun e =>
        e.rb HST 0 0x010 0 = true ∧ e.host.hrbHigh = false ∧ e.host.pulse = 0 ∧ e.host.busyAt = s.dev.now ∧ SameSquare s.dev e
          ∧ Only [(HST, 0, 0x010)] s.dev e))
    ∧ (s.dev.rb HST 0 0x010 0 = true ∨ s.dev.busySrc = 0 → Answers .hrbBusyBegin s (fun e => e.host.hrbHigh = s.dev.host.hrbHigh ∧ Only [] s.dev e))
    ∧ (s.dev.rb HST 0 0x010 0 = true → s.dev.busySrc = 0 → s.dev.host.busyAt + 2000 ≤ s.dev.now →
      Answers .hrbBusyEnd s (fun e =>
        e.rb HST 0 0x010 0 = false ∧ e.host.hrbHigh = true ∧ e.rb HST 0 0x014 6 = true ∧ SameSquare s.dev e
          ∧ Only [(HST, 0, 0x010), (HST, 0, 0x014)] s.dev e))
    ∧ (s.dev.busySrc ≠ 0 ∨ s.dev.now < s.dev.host.busyAt + 2000 →
      Answers .hrbBusyEnd s (fun e => e.host.hrbHigh = s.dev.host.hrbHigh ∧ Only [] s.dev e))
    ∧ (s.dev.host.attn = true → s.dev.host.hrbHigh = true → s.dev.rb HST 0 0x010 0 = false → 800 ≤ s.dev.host.highFor →
      Answers .attentionPulse s (fun e =>
        e.host.hrbHigh = false ∧ e.host.pulse = 200 ∧ (s.dev.host.lastSum = s.dev.sumType → e.host.attn = false)
          ∧ SameSquare s.dev e ∧ Only [] s.dev e))
    ∧ (s.dev.host.attn = false ∨ s.dev.host.hrbHigh = false ∨ s.dev.host.highFor < 800 →
      Answers .attentionPulse s (fun e => e.host.hrbHigh = s.dev.host.hrbHigh ∧ e.host.pulse = s.dev.host.pulse ∧ Only [] s.dev e))
    ∧ (∀ kind, kind < 3 → Answers (.hostReset kind) s (fun e =>
        (∀ n, (e.ring n).enabled = false) ∧ e.host.msix = [] ∧ e.rb HST 0 0x014 5 = true
          ∧ (∀ u o, u < 2 → o < 4096 → (u, o) ≠ (0, 0x010) → (u, o) ≠ (0, 0x014) → e.reg HST u o = regReset HST u o)
          ∧ (∀ b u o, b ≠ HST → u < 8192 → o < 4096 → (b, u, o) ≠ (LDG, 0, 0x030) → e.reg b u o = s.dev.reg b u o)
          ∧ SameSquare s.dev e ∧ SameMemory s.dev e))
    ∧ (∀ speed width, speed < 6 → width ≤ 8 → Answers (.pcieLink speed width) s (fun e =>
        e.rf HST 0 0x010 8 4 = speed ∧ e.rf HST 0 0x010 12 4 = width ∧ e.rb HST 0 0x010 0 = s.dev.rb HST 0 0x010 0 ∧ SameSquare s.dev e
          ∧ Only [(HST, 0, 0x010), (LDG, 0, 0x030)] s.dev e)))

/-! ### The Trestle -/

/-- The Trestle. A written configuration stream is noted while it is awaited, and CONFIG_DONE (bit 10) raised once; the set-reset net follows GSR_FORCE and the
loader; a rising user line raises its bit; the fourth reading in a row outside the band puts a configured bank in safe state (bit 8), and
BANK_RELEASE takes out of it the banks whose reading lies in the band. User logic takes the oldest word of a port, at most one a cycle, none from EDGE_IN in a hush and none
while the net is asserted; what it gives to EGRESS_OUT takes a place, and to EDGE_OUT needs room. A frame of user logic is handed to its segment, or discarded and counted. -/
def Obligations.TrestleCommands : Prop :=
  ∀ s : State, s.dev.boot.held = false →
    (s.dev.trestle.reconfiguring = true → s.dev.loadState = 3 → s.dev.loader.wroteAll = false →
      Answers .trestleStreamWritten s (fun e => e.trestle = { s.dev.trestle with written := true } ∧ Only [] s.dev e))
    ∧ (s.dev.trestle.reconfiguring = false ∨ s.dev.loadState ≠ 3 → Answers .trestleStreamWritten s (fun e => e.trestle = s.dev.trestle ∧ Only [] s.dev e))
    ∧ (∀ t, s.dev.trestle.running = some t → s.dev.trestle.doneDue = true →
      Answers .configDone s (fun e =>
        e.trestle = { s.dev.trestle with doneDue := false } ∧ e.rb TRS 0 0x014 10 = true ∧ Only [(TRS, 0, 0x014), (LDG, 0, 0x030)] s.dev e))
    ∧ (s.dev.trestle.running = none ∨ s.dev.trestle.doneDue = false → Answers .configDone s (fun e => e.trestle = s.dev.trestle ∧ Only [] s.dev e))
    ∧ (∀ on, Answers (.gsrForce on) s (fun e =>
        e.rb TRS 0 0x008 0 = on ∧ e.gsr = (s.dev.trestle.held || on) ∧ e.trestle = s.dev.trestle ∧ Only [(TRS, 0, 0x008), (TRS, 0, 0x010)] s.dev e))
    ∧ (∀ line, line < 8 → Answers (.userIrq line) s (fun e =>
        e.rb TRS 0 0x014 line = true ∧ (∀ k, k < 32 → k ≠ line → e.rb TRS 0 0x014 k = s.dev.rb TRS 0 0x014 k)
          ∧ SameSquare s.dev e ∧ Only [(TRS, 0, 0x014)] s.dev e))
    ∧ (∀ b (x : Byte), b < 6 → b < s.dev.trestle.outs.length →
      Answers (.bankVccioSample b x) s (fun e =>
        e.regN TRS 0 (0x100 + 4 * b) = x.toNat + 256
          ∧ (bankInBand (s.dev.rf TRS 0 (0x120 + 4 * b) 0 4) x.toNat = true ∨ s.dev.rb TRS 0 0x010 0 = false →
              e.trestle.outs.getD b 0 = 0 ∧ e.rb TRS 0 0x010 (8 + b) = s.dev.rb TRS 0 0x010 (8 + b))
          ∧ (bankInBand (s.dev.rf TRS 0 (0x120 + 4 * b) 0 4) x.toNat = false → s.dev.rb TRS 0 0x010 0 = true →
              e.trestle.outs.getD b 0 = s.dev.trestle.outs.getD b 0 + 1
                ∧ (s.dev.trestle.outs.getD b 0 = 3 → s.dev.rb TRS 0 0x010 (8 + b) = false → e.rb TRS 0 0x010 (8 + b) = true ∧ e.rb TRS 0 0x014 8 = true))
          ∧ Only [(TRS, 0, 0x100 + 4 * b), (TRS, 0, 0x120 + 4 * b), (TRS, 0, 0x010), (TRS, 0, 0x014), (LDG, 0, 0x030)] s.dev e))
    ∧ (∀ banks : BitVec 6, Answers (.bankRelease banks) s (fun e =>
        (∀ b, b < 6 → e.rb TRS 0 0x010 (8 + b) = (s.dev.rb TRS 0 0x010 (8 + b) && !(banks.getLsbD b && s.dev.bankGood b)))
          ∧ Only ((TRS, 0, 0x010) :: (List.range 6).map (fun b => (TRS, 0, 0x120 + 4 * b))) s.dev e))
    ∧ (∀ tp t, tp < 16 → s.dev.trestle.ports[tp]? = some t →
      (s.dev.gsr = false → tp ∉ s.dev.trestle.movedNow →
        (∀ w rest, t.words = w :: rest → (t.kind = 1 ∨ t.kind = 6 ∨ (t.kind = 2 ∧ s.dev.bell.hushed = false)) →
          Answers (.trestlePortWord tp none) s (fun e =>
            (e.trestle.ports.getD tp {}).words = rest ∧ tp ∈ e.trestle.movedNow ∧ .userWord tp w ∈ e.outbox ∧ Only [] s.dev e))
        ∧ (∀ w, t.kind = 3 → s.dev.bell.hushed = false → s.dev.edgeOutStopped = false → s.dev.edgeRoom t.edge = true →
          Answers (.trestlePortWord tp (some w)) s (fun e =>
            tp ∈ e.trestle.movedNow ∧ ((s.dev.edgeStall t.edge).isSome = true → e.edgeFreeOf t.edge = s.dev.edgeFreeOf t.edge - 1)
              ∧ (∀ k, (e.trestle.ports.getD k {}).words = (s.dev.trestle.ports.getD k {}).words) ∧ SameMemory s.dev e))
        ∧ (∀ w, t.kind = 4 → s.dev.bell.hushed = false → t.free ≠ 0 →
          Answers (.trestlePortWord tp (some w)) s (fun e =>
            (e.trestle.ports.getD tp {}).free = t.free - 1 ∧ tp ∈ e.trestle.movedNow ∧ SameMemory s.dev e)))
      ∧ (s.dev.gsr = true ∨ tp ∈ s.dev.trestle.movedNow →
        ∀ w, Answers (.trestlePortWord tp w) s (fun e => e.trestle = s.dev.trestle ∧ SameSquare s.dev e ∧ Only [] s.dev e))
      ∧ (∀ words, t.kind = 5 →
        (∀ bytes, s.dev.gsr = false → frameOf words = some bytes →
          Answers (.crierTxFrame tp words) s (fun e =>
            e.crier = { s.dev.crier with handed := s.dev.crier.handed ++ [.frame t.seg bytes] } ∧ Only [] s.dev e))
        ∧ (s.dev.gsr = false → frameOf words = none →
          Answers (.crierTxFrame tp words) s (fun e =>
            e.crier = s.dev.crier ∧ e.regN TRS 0 0x034 = satAdd 0xFFFFFFFF (s.dev.regN TRS 0 0x034) words.length
              ∧ Only [(TRS, 0, 0x034), (LDG, 0, 0x030)] s.dev e))
        ∧ (s.dev.gsr = true → Answers (.crierTxFrame tp words) s (fun e => e.crier = s.dev.crier ∧ Only [] s.dev e))))

/-! ### The Warden -/

/-- The Warden. A staged image that passes every step of R557 is noted with its SVN and digest; one that fails is counted and refuses the load with its
code. A REPORT writes the report behind the nonce, or waits while one must not be made; ENROLL and RELEASE accept a record that verifies,
and refuse another with its code; COMMIT_SVN raises its counter to the SVN of what runs and never lowers it; a command during another is refused with 1; a re-signing moves
STATE_SEQ on by 1. -/
def Obligations.WardenCommands : Prop :=
  ∀ s : State, s.dev.boot.held = false →
    (∀ o,
      (s.dev.loadState = 1 → s.dev.loader.reload = false → s.dev.verifies o 2 (2 ^ 30 - 512) false = none →
        Answers (.verify o) s (fun e =>
          e.warden = { s.dev.warden with stagedOk := true, stagedSvn := o.svn, stagedDigest := sha (o.part 0 512 ++ o.content) }
            ∧ SameSquare s.dev e ∧ Only [] s.dev e))
      ∧ (∀ code, s.dev.loadState = 1 → s.dev.loader.reload = false → s.dev.verifies o 2 (2 ^ 30 - 512) false = some code →
        Answers (.verify o) s (fun e =>
          e.regN CLK 0 0x114 = code % 2 ^ 32 ∧ e.rb CLK 0 0x014 1 = true ∧ e.loadState = s.dev.restState
            ∧ e.regN WRD 0 0x030 = satAdd 0xFFFF (s.dev.regN WRD 0 0x030) 1 ∧ SameMemory s.dev e))
      ∧ (s.dev.loadState ≠ 1 ∨ s.dev.loader.reload = true →
        Answers (.verify o) s (fun e => e.warden = s.dev.warden ∧ e.loader = s.dev.loader ∧ Only [] s.dev e)))
    ∧ (s.dev.warden.reportDue = true →
      ∀ c ∈ [Instr.report, .enroll, .release, .commitSvn false, .commitSvn true], Answers c s (fun e =>
        e.regN WRD 0 0x108 = 1 ∧ e.rb WRD 0 0x014 2 = true ∧ e.warden = s.dev.warden ∧ Only [(WRD, 0, 0x108), (WRD, 0, 0x014)] s.dev e))
    ∧ (s.dev.warden.reportDue = false →
      (s.dev.idFail = true → Answers .report s (fun e =>
          e.regN WRD 0 0x108 = 0x9009 ∧ e.rb WRD 0 0x014 2 = true ∧ e.warden = s.dev.warden
            ∧ Only ((WRD, 0, 0x108) :: (LDG, 0, 0x030) :: eventRegs WRD 0) s.dev e))
      ∧ (s.dev.idFail = false → s.dev.reportWaits = true → Answers .report s (fun e =>
          e.warden = { s.dev.warden with reportDue := true } ∧ e.rb WRD 0 0x010 4 = true ∧ Only [(WRD, 0, 0x010)] s.dev e))
      ∧ (s.dev.idFail = false → s.dev.reportWaits = false → Answers .report s (fun e =>
          e.regN WRD 0 0x108 = 0 ∧ e.rb WRD 0 0x014 0 = true ∧ e.warden.reportDue = false ∧ e.warden.signs = s.dev.warden.signs + 2
            ∧ SameDepotBut (s.dev.wrdAddr + 64) e.warden.report.length s.dev e ∧ SameButDepot s.dev e))
      ∧ (∀ r, s.dev.readRecord = r →
        (r.2.verifies r.1 3 3584 false = none → Answers .enroll s (fun e =>
            e.warden.owner = some (ownerOf r.1) ∧ e.regN WRD 0 0x108 = 0 ∧ e.rb WRD 0 0x014 1 = true ∧ e.rb WRD 0 0x010 1 = true
              ∧ e.warden.resignDue = true ∧ SameMemory s.dev e))
        ∧ (∀ code, r.2.verifies r.1 3 3584 false = some code → Answers .enroll s (fun e =>
            e.warden = s.dev.warden ∧ e.regN WRD 0 0x108 = code % 2 ^ 32 ∧ e.rb WRD 0 0x014 2 = true ∧ SameMemory s.dev e))
        ∧ (r.2.verifies r.1 4 3584 false = none → s.dev.idFail = false →
          (r.1.content.take 64 = sha s.dev.idPub →
            Answers .release s (fun e =>
              e.warden.owner = none ∧ e.regN WRD 0 0x108 = 0 ∧ e.rb WRD 0 0x014 1 = true ∧ e.rb WRD 0 0x010 1 = false
                ∧ e.warden.resignDue = true ∧ SameMemory s.dev e))
          ∧ (r.1.content.take 64 ≠ sha s.dev.idPub →
            Answers .release s (fun e =>
              e.warden = s.dev.warden ∧ e.regN WRD 0 0x108 = 0 ∧ e.rb WRD 0 0x014 1 = true ∧ SameMemory s.dev e)))
        ∧ (∀ code, r.2.verifies r.1 4 3584 false = some code → Answers .release s (fun e =>
            e.warden = s.dev.warden ∧ e.regN WRD 0 0x108 = code % 2 ^ 32 ∧ e.rb WRD 0 0x014 2 = true ∧ SameMemory s.dev e)))
      ∧ (∀ target : Bool, 4 ≤ s.dev.warden.counters.length →
        (s.dev.rb WRD 0 0x010 2 = true → s.dev.warden.rpmcOk = true → Answers (.commitSvn target) s (fun e =>
            e.warden.counters.getD (if target then 2 else 1) 0
                = max (s.dev.warden.counters.getD (if target then 2 else 1) 0) (if target then s.dev.warden.imgSvn else s.dev.warden.fwSvn)
              ∧ (∀ k, k ≠ (if target then 2 else 1) → e.warden.counters.getD k 0 = s.dev.warden.counters.getD k 0)
              ∧ e.regN WRD 0 0x108 = 0 ∧ e.rb WRD 0 0x014 1 = true ∧ e.warden.resignDue = true ∧ SameMemory s.dev e))
        ∧ (s.dev.rb WRD 0 0x010 2 = true → s.dev.warden.rpmcOk = false → Answers (.commitSvn target) s (fun e =>
            e.warden = s.dev.warden ∧ e.regN WRD 0 0x108 = 0x900A ∧ e.rb WRD 0 0x014 2 = true ∧ SameMemory s.dev e))
        ∧ (s.dev.rb WRD 0 0x010 2 = false → Answers (.commitSvn target) s (fun e =>
            e.warden.counters = s.dev.warden.counters ∧ e.regN WRD 0 0x108 = 0 ∧ e.rb WRD 0 0x014 1 = true ∧ e.warden.resignDue = true
              ∧ Only [(WRD, 0, 0x108), (WRD, 0, 0x014), (WRD, 0, 0x010)] s.dev e))))
    ∧ (s.dev.warden.resignDue = true →
      (s.dev.idFail = false → Answers .resigned s (fun e =>
          e.regN WRD 0 0x10C = (s.dev.regN WRD 0 0x10C + 1) % 2 ^ 32 ∧ e.rb WRD 0 0x014 3 = true ∧ e.warden.resignDue = false
            ∧ (s.dev.warden.reportDue = false → SameMemory s.dev e)))
      ∧ (s.dev.idFail = true → Answers .resigned s (fun e =>
          e.regN WRD 0 0x10C = s.dev.regN WRD 0 0x10C ∧ e.regN WRD 0 0x108 = 0x9009 ∧ e.warden.resignDue = false ∧ SameMemory s.dev e)))
    ∧ (s.dev.warden.resignDue = false → Answers .resigned s (fun e => e.warden = s.dev.warden ∧ Only [] s.dev e))

/-! ### The Steward -/

/-- Supplies and temperature. The second reading in a row outside UV and OV raises SUPPLY_FAULT (bit 2) and halts the market. A droop makes its rail ask, from the next
cycle, for the hush as source 3, counted; it ends when no rail asks, or after 2,000 cycles with bit 1. The hottest sensor is recorded, the lowest-numbered of equals; a
level it calls for raises bit 0, and level 3 and a trip act a cycle later. A throttle period asks as source 2 unless THR_EN or the duty is 0 or level 1 has spent its
budget. The PMBus. A command of an enabled, idle master starts its transaction, with the bytes of PMB_DATA it sends; during a transaction it is counted and nothing
starts. The end of a transaction raises bit 4 with what was read, or bit 5. An alert raises bit 6. Polling fills the words of each regulator that POLL_ADDR enables, and
stands back during a transaction. -/
def Obligations.StewardCommands : Prop :=
  (∀ s : State, s.dev.boot.held = false →
    (∀ i (x : BitVec 10), i < 16 →
      Answers (.railSample i x) s (fun e =>
        e.regN STW 0 (0x100 + 4 * i) = x.toNat + 2 ^ 16
          ∧ ((s.dev.rf STW 0 (0x180 + 4 * i) 0 10 ≤ x.toNat ∧ x.toNat ≤ s.dev.rf STW 0 (0x180 + 4 * i) 16 10) →
              (e.rail i).outs = 0 ∧ SameRegsBut [(STW, 0, 0x100 + 4 * i)] s.dev e)
          ∧ ((x.toNat < s.dev.rf STW 0 (0x180 + 4 * i) 0 10 ∨ s.dev.rf STW 0 (0x180 + 4 * i) 16 10 < x.toNat) →
              (e.rail i).outs = (s.dev.rail i).outs + 1
                ∧ ((s.dev.rail i).outs = 1 → e.rb STW 0 0x014 2 = true ∧ e.bell.halting = true))
          ∧ Only [(STW, 0, 0x100 + 4 * i), (STW, 0, 0x014), (LDG, 0, 0x030)] s.dev e))
    ∧ (∀ i, i < 16 →
      (s.dev.rb STW 0 0x008 1 = true → (s.dev.rail i).requesting = false → (s.dev.rail i).due = false →
        ((s.dev.rail i).blocked = false ∨ (∃ g, (s.dev.rail i).goodSince = some g ∧ g + 64 ≤ s.dev.now) →
          Answers (.droopDetect i) s (fun e =>
            (e.rail i).due = true ∧ (e.rail i).blocked = false ∧ (e.rail i).requesting = false ∧ e.bell.reqs = s.dev.bell.reqs
              ∧ Only [] s.dev e))
        ∧ ((s.dev.rail i).blocked = true → (∀ g, (s.dev.rail i).goodSince = some g → s.dev.now < g + 64) →
          Answers (.droopDetect i) s (fun e =>
            (e.rail i).due = false ∧ (e.rail i).blocked = true ∧ (e.rail i).goodSince = none ∧ e.bell.reqs = s.dev.bell.reqs ∧ Only [] s.dev e)))
      ∧ (s.dev.rb STW 0 0x008 1 = false ∨ (s.dev.rail i).requesting = true ∨ (s.dev.rail i).due = true →
        Answers (.droopDetect i) s (fun e => e.steward = s.dev.steward ∧ e.bell.reqs = s.dev.bell.reqs ∧ Only [] s.dev e))
      ∧ ((s.dev.rail i).requesting = true →
        Answers (.droopRecover i) s (fun e =>
          (e.rail i).requesting = false
            ∧ ((∀ j, j < 16 → j ≠ i → (s.dev.rail j).requesting = false) → 3 ∉ e.bell.reqs ∧ e.rb STW 0 0x010 3 = false)
            ∧ ((∃ j, j < 16 ∧ j ≠ i ∧ (s.dev.rail j).requesting = true) → 3 ∈ e.bell.reqs ∧ e.rb STW 0 0x010 3 = true)
            ∧ Only [(STW, 0, 0x010)] s.dev e)
        ∧ ((s.dev.rail i).since + 2000 ≤ s.dev.now →
          Answers (.droopLong i) s (fun e =>
            (e.rail i).blocked = true ∧ (e.rail i).requesting = false ∧ e.rb STW 0 0x014 1 = true
              ∧ ((∀ j, j < 16 → j ≠ i → (s.dev.rail j).requesting = false) → 3 ∉ e.bell.reqs)
              ∧ Only [(STW, 0, 0x010), (STW, 0, 0x014), (LDG, 0, 0x030)] s.dev e)))
      ∧ ((s.dev.rail i).requesting = false → Answers (.droopRecover i) s (fun e =>
          (e.rail i).requesting = false ∧ e.bell.reqs = s.dev.bell.reqs
            ∧ ((s.dev.rail i).blocked = true → (s.dev.rail i).goodSince = none → (e.rail i).goodSince = some s.dev.now) ∧ Only [] s.dev e))
      ∧ ((s.dev.rail i).requesting = false ∨ s.dev.now < (s.dev.rail i).since + 2000 →
        Answers (.droopLong i) s (fun e => e.steward = s.dev.steward ∧ e.bell.reqs = s.dev.bell.reqs ∧ Only [] s.dev e)))
    ∧ (∀ temps : List Int, temps.length = 24 →
      Answers (.thermalSample temps) s (fun e =>
        (∀ k, k < 24 → e.regN STW 0 (0x200 + 4 * k) = wrapN 12 (temps.getD k 0) + 2 ^ 16)
          ∧ (∃ k, k < 24 ∧ (∀ j, j < 24 → temps.getD j 0 ≤ temps.getD k 0) ∧ (∀ j, j < k → temps.getD j 0 < temps.getD k 0)
              ∧ e.regN STW 0 0x260 = wrapN 12 (temps.getD k 0) + k * 2 ^ 16
              ∧ (s.dev.level < s.dev.levelFor (temps.getD k 0) → e.level = s.dev.levelFor (temps.getD k 0) ∧ e.rb STW 0 0x014 0 = true
                  ∧ (e.level = 3 → e.steward.critDue = true))
              ∧ (s.dev.threshold 3 ≤ temps.getD k 0 → e.steward.tripDue = some (k, wrapN 12 (temps.getD k 0))))
          ∧ Only ((List.range 24).map (fun k => (STW, 0, 0x200 + 4 * k)) ++ [(STW, 0, 0x260), (STW, 0, 0x010), (STW, 0, 0x014), (LDG, 0, 0x030)])
              s.dev e))
    ∧ (s.dev.rb STW 0 0x008 0 = true → s.dev.duty s.dev.level ≠ 0 →
      (s.dev.level = 1 → s.dev.steward.spent = false ∧ s.dev.steward.budget < s.dev.rf STW 0 0x26C 0 24) →
      Answers .throttlePeriodStart s (fun e =>
        2 ∈ e.bell.reqs ∧ e.steward.throttling = true ∧ e.steward.level = s.dev.level ∧ e.steward.periodAt = s.dev.now ∧ Only [] s.dev e))
    ∧ (s.dev.rb STW 0 0x008 0 = false ∨ s.dev.duty s.dev.level = 0
        ∨ (s.dev.level = 1 ∧ (s.dev.steward.spent = true ∨ s.dev.rf STW 0 0x26C 0 24 ≤ s.dev.steward.budget)) →
      Answers .throttlePeriodStart s (fun e =>
        e.steward.throttling = false ∧ (s.dev.steward.throttling = true → 2 ∉ e.bell.reqs) ∧ e.steward.level = s.dev.level
          ∧ Only [] s.dev e))
    ∧ Answers .throttleRequestEnd s (fun e =>
        e.steward.throttling = false ∧ (s.dev.steward.throttling = true → 2 ∉ e.bell.reqs)
          ∧ (s.dev.steward.throttling = false → e.bell.reqs = s.dev.bell.reqs) ∧ Only [] s.dev e))
  ∧ (∀ d : Device,
    (∀ i, i < 16 →
      let e := d.droopBegin i
      3 ∈ e.bell.reqs ∧ e.rb STW 0 0x010 3 = true ∧ (e.rail i).requesting = true ∧ (e.rail i).due = false ∧ (e.rail i).since = d.now
        ∧ e.regN STW 0 0x030 = satAdd 0xFFFFFFFF (d.regN STW 0 0x030) 1 ∧ Only [(STW, 0, 0x010), (STW, 0, 0x030)] d e)
    ∧ (d.steward.critDue = true →
      d.critBegin.bell.halting = true ∧ d.critBegin.rb STW 0 0x014 3 = true ∧ d.critBegin.steward.critDue = false
        ∧ (d.rb STW 0 0x008 0 = true → d.now < d.steward.periodAt + 896 → 2 ∈ d.critBegin.bell.reqs)
        ∧ Only [(STW, 0, 0x014)] d d.critBegin)
    ∧ (∀ sensor reading, d.boot.tripped = false →
      let e := d.thermalTrip sensor reading
      e.boot.tripped = true ∧ e.gate.stopped = true ∧ e.rb STW 0 0x010 2 = true ∧ .thermtrip true ∈ e.outbox
        ∧ Only [(STW, 0, 0x010), (LDG, 0, 0x030)] d e))
  ∧ (∀ s : State, s.dev.boot.held = false →
    (∀ (a : BitVec 7) (c : Byte) pec len, 1 ≤ len → len ≤ 8 →
      (s.dev.rb STW 0 0x010 4 = false → s.dev.rb STW 0 0x28C 1 = true →
        ∀ k : Nat × Nat × Instr, k ∈ [(0, 0, Instr.pmbSendByte a c pec), (1, 1, Instr.pmbWriteByte a c pec), (2, 2, Instr.pmbWriteWord a c pec),
            (3, 0, Instr.pmbReadByte a c pec), (4, 0, Instr.pmbReadWord a c pec), (5, 0, Instr.pmbBlockRead a c pec len)] →
          Answers k.2.2 s (fun e =>
            e.rb STW 0 0x010 4 = true ∧ .pmbus a.toNat c.toNat k.1 pec (s.dev.pmbData k.2.1) ∈ e.outbox ∧ Only [(STW, 0, 0x010)] s.dev e))
      ∧ (∀ k ∈ [Instr.pmbSendByte a c pec, Instr.pmbWriteByte a c pec, Instr.pmbWriteWord a c pec, Instr.pmbReadByte a c pec,
            Instr.pmbReadWord a c pec, Instr.pmbBlockRead a c pec len],
        (s.dev.rb STW 0 0x010 4 = true → Answers k s (fun e =>
            e.regN STW 0 0x038 = satAdd 0xFFFFFFFF (s.dev.regN STW 0 0x038) 1 ∧ e.steward = s.dev.steward ∧ Only [(STW, 0, 0x038)] s.dev e))
        ∧ (s.dev.rb STW 0 0x010 4 = false → s.dev.rb STW 0 0x28C 1 = false → Answers k s (fun e =>
            e.steward = s.dev.steward ∧ Only [] s.dev e))))
    ∧ (s.dev.rb STW 0 0x010 4 = true →
      (∀ bytes, Answers (.pmbDone (.done bytes)) s (fun e =>
          e.rb STW 0 0x010 4 = false ∧ e.rb STW 0 0x014 4 = true
            ∧ (s.dev.steward.pmb.len ≤ bytes.length → s.dev.steward.pmb.len ≤ 8 →
                e.pmbData s.dev.steward.pmb.len = bytes.take s.dev.steward.pmb.len)
            ∧ Only [(STW, 0, 0x010), (STW, 0, 0x284), (STW, 0, 0x288), (STW, 0, 0x014)] s.dev e))
      ∧ Answers (.pmbDone .nak) s (fun e =>
          e.rb STW 0 0x010 4 = false ∧ e.rb STW 0 0x014 5 = true ∧ e.pmbData 8 = s.dev.pmbData 8
            ∧ Only [(STW, 0, 0x010), (STW, 0, 0x014), (LDG, 0, 0x030)] s.dev e))
    ∧ (∀ res, s.dev.rb STW 0 0x010 4 = false → Answers (.pmbDone res) s (fun e => e.steward = s.dev.steward ∧ Only [] s.dev e))
    ∧ Answers .pmbAlert s (fun e => e.rb STW 0 0x014 6 = true ∧ Only [(STW, 0, 0x014)] s.dev e)
    ∧ (∀ words : List (List (BitVec 16)), words.length = 8 →
      (s.dev.rb STW 0 0x010 4 = false → s.dev.rb STW 0 0x28C 1 = true →
        Answers (.poll words) s (fun e =>
          (∀ j m, j < 8 → m < 3 → e.regN STW 0 (0x2C0 + 16 * j + 4 * m)
              = (if s.dev.rb STW 0 (0x2A0 + 4 * j) 7 then ((words.getD j []).getD m 0).toNat + 2 ^ 16
                 else s.dev.regN STW 0 (0x2C0 + 16 * j + 4 * m)))
            ∧ Only ((List.range 24).map (fun x => (STW, 0, 0x2C0 + 16 * (x / 3) + 4 * (x % 3)))) s.dev e))
      ∧ (s.dev.rb STW 0 0x010 4 = true ∨ s.dev.rb STW 0 0x28C 1 = false → Answers (.poll words) s (fun e => Only [] s.dev e))))

/-! ### The Reserve -/

/-- The Reserve. BIST is refused with 1 while a test runs and with 2 for units in use of a market that runs, and else begins; the end of a test
clears BIST, raises bit 1, and leaves every word of a tested stall store and Depot bank zero, but where a flip mask aims, and the words of an untested one as they were.
ADD and DROP put the selected unit among the candidates or take it out; during a test RESULT is 1. That ADD of a unit the chip lacks adds none is the model's reading
(assumption 127). The first wear count is the baseline; a decline past the limit asks for a self-test. A reload starts stage 1 of a full load. A record that is due is
written, or raises bit 4. -/
def Obligations.ReserveCommands : Prop :=
  ∀ s : State, s.dev.boot.held = false →
    (∀ scope : BitVec 4,
      (s.dev.rb RSV 0 0x010 2 = true → Answers (.bist scope) s (fun e =>
          e.regN RSV 0 0x108 = 1 ∧ e.reserve = s.dev.reserve ∧ Only [(RSV, 0, 0x108)] s.dev e))
      ∧ (s.dev.rb RSV 0 0x010 2 = false → s.dev.scopeUnits scope.toNat = none →
          Answers (.bist scope) s (fun e => e.reserve = s.dev.reserve ∧ Only [] s.dev e))
      ∧ (∀ u, s.dev.rb RSV 0 0x010 2 = false → s.dev.scopeUnits scope.toNat = some u →
        ((s.dev.bellsRing && !s.dev.marketHalted && u.1.any (fun x => s.dev.unitInUse x.1 x.2)) = true →
          Answers (.bist scope) s (fun e => e.regN RSV 0 0x108 = 2 ∧ e.reserve = s.dev.reserve ∧ Only [(RSV, 0, 0x108)] s.dev e))
        ∧ ((s.dev.bellsRing && !s.dev.marketHalted && u.1.any (fun x => s.dev.unitInUse x.1 x.2)) = false →
          Answers (.bist scope) s (fun e =>
            e.regN RSV 0 0x108 = 0 ∧ e.rb RSV 0 0x010 2 = true ∧ e.reserve.bistUnits = u.1
              ∧ Only [(RSV, 0, 0x108), (RSV, 0, 0x010)] s.dev e))))
    ∧ (∀ units, s.dev.rb RSV 0 0x010 2 = true → (∀ u ∈ s.dev.reserve.bistUnits, u.2 < 6400) →
      Answers (.bistDone units) s (fun e =>
        e.rb RSV 0 0x010 2 = false ∧ e.rb RSV 0 0x014 1 = true ∧ e.reserve.bistUnits = []
          ∧ (∀ p wa, wa < 8192 → (0, p) ∉ s.dev.reserve.bistUnits ∨ s.dev.rf LDG 0 0x130 0 13 ≠ p ∨ s.dev.storeFlip = 0 →
              KMap.get e.store (8192 * p + wa) 0
                = (if (0, p) ∈ s.dev.reserve.bistUnits then 0 else KMap.get s.dev.store (8192 * p + wa) 0))
          ∧ (∀ b i, i < 1048576 → (1, b) ∉ s.dev.reserve.bistUnits ∨ (∀ lane, lane < 8 → s.dev.depotFlip b lane = 0) →
              KMap.get e.depot.mem (1048576 * b + i) 0
                = (if (1, b) ∈ s.dev.reserve.bistUnits then 0 else KMap.get s.dev.depot.mem (1048576 * b + i) 0))
          ∧ e.sth.mem = s.dev.sth.mem ∧ e.clerk = s.dev.clerk))
    ∧ (∀ units, s.dev.rb RSV 0 0x010 2 = false →
      Answers (.bistDone units) s (fun e => e.reserve = s.dev.reserve ∧ Only [] s.dev e))
    ∧ (s.dev.rb RSV 0 0x010 2 = false →
      (s.dev.rsvUnit.onChip = true → Answers .add s (fun e =>
        s.dev.rsvUnit ∈ e.reserve.cands ∧ (∀ c ∈ s.dev.reserve.cands, c ∈ e.reserve.cands) ∧ e.regN RSV 0 0x108 = 0
          ∧ (s.dev.rsvUnit ∉ s.dev.reserve.cands → e.rb RSV 0 0x014 0 = true) ∧ SameMemory s.dev e))
      ∧ (s.dev.rsvUnit.onChip = false → Answers .add s (fun e =>
        e.reserve = s.dev.reserve ∧ e.regN RSV 0 0x108 = 0 ∧ Only [(RSV, 0, 0x108)] s.dev e))
      ∧ Answers .drop s (fun e =>
        s.dev.rsvUnit ∉ e.reserve.cands ∧ (∀ c ∈ s.dev.reserve.cands, c ≠ s.dev.rsvUnit → c ∈ e.reserve.cands)
          ∧ e.regN RSV 0 0x108 = 0 ∧ SameMemory s.dev e))
    ∧ (s.dev.rb RSV 0 0x010 2 = true →
      ∀ k ∈ [Instr.add, Instr.drop], Answers k s (fun e =>
        e.regN RSV 0 0x108 = 1 ∧ e.reserve = s.dev.reserve ∧ Only [(RSV, 0, 0x108)] s.dev e))
    ∧ (∀ osc (n : BitVec 16), osc < 698 →
      (s.dev.rb RSV 0 0x008 1 = false → Answers (.wearCount osc n) s (fun e => e.reserve = s.dev.reserve ∧ Only [] s.dev e))
      ∧ (s.dev.rb RSV 0 0x008 1 = true →
        (KMap.get s.dev.reserve.baselines osc 0 = 0 →
          Answers (.wearCount osc n) s (fun e => KMap.get e.reserve.baselines osc 0 = n.toNat + 1 ∧ Only [] s.dev e))
        ∧ (∀ b, KMap.get s.dev.reserve.baselines osc 0 = b + 1 →
          (b ≠ 0 → n.toNat ≤ b → s.dev.rf RSV 0 0x10C 8 10 * b ≤ (b - n.toNat) * 1024 →
            Answers (.wearCount osc n) s (fun e =>
              e.rb RSV 0 (0x120 + 4 * (osc / 32)) (osc % 32) = true ∧ e.rb RSV 0 0x014 3 = true ∧ e.reserve = s.dev.reserve
                ∧ Only [(RSV, 0, 0x014), (RSV, 0, 0x120 + 4 * (osc / 32)), (LDG, 0, 0x030)] s.dev e))
          ∧ (b = 0 ∨ b < n.toNat ∨ (b - n.toNat) * 1024 < s.dev.rf RSV 0 0x10C 8 10 * b →
            Answers (.wearCount osc n) s (fun e => e.reserve = s.dev.reserve ∧ Only [] s.dev e)))))
    ∧ (s.dev.marketHalted = true → s.dev.rb RSV 0 0x008 0 = true → s.dev.rb RSV 0 0x010 0 = true → s.dev.loader.running.isSome = true →
      s.dev.loadState = 0 →
      Answers .reserveReload s (fun e =>
        e.loadState = 1 ∧ e.loader.full = true ∧ e.loader.reload = true ∧ e.rb RSV 0 0x010 1 = true ∧ e.rb CLK 0 0x014 3 = true
          ∧ e.loader.running = s.dev.loader.running ∧ SameMemory s.dev e))
    ∧ (s.dev.marketHalted = false ∨ s.dev.rb RSV 0 0x008 0 = false ∨ s.dev.rb RSV 0 0x010 0 = false ∨ s.dev.loader.running = none
        ∨ s.dev.loadState ≠ 0 →
      Answers .reserveReload s (fun e => e.loader = s.dev.loader ∧ Only [] s.dev e))
    ∧ (s.dev.loader.reserveDue = true ∨ s.dev.reserve.baseDue = true → s.dev.warden.resignDue = false →
      (s.dev.idFail = false →
        Answers (.reserveRecordWrite true) s (fun e =>
          e.loader.reserveDue = false ∧ e.reserve.baseDue = false ∧ e.reserve.recordSvn = s.dev.reserve.recordSvn + 1
            ∧ (∃ bytes, .flashWrite 0x2000 bytes ∈ e.outbox) ∧ SameMemory s.dev e)
        ∧ Answers (.reserveRecordWrite false) s (fun e =>
          e.loader.reserveDue = false ∧ e.reserve = { s.dev.reserve with baseDue := false } ∧ e.rb RSV 0 0x014 4 = true
            ∧ Only [(RSV, 0, 0x014)] s.dev e))
      ∧ (∀ ok, s.dev.idFail = true → Answers (.reserveRecordWrite ok) s (fun e =>
          e.loader.reserveDue = false ∧ e.reserve = { s.dev.reserve with baseDue := false } ∧ SameMemory s.dev e)))
    ∧ (∀ ok, (s.dev.loader.reserveDue = false ∧ s.dev.reserve.baseDue = false) ∨ s.dev.warden.resignDue = true →
      Answers (.reserveRecordWrite ok) s (fun e => e.loader = s.dev.loader ∧ e.reserve = s.dev.reserve ∧ Only [] s.dev e))

/-! ### Reset, boot, stock mode and boundary scan -/

/-- Resets. Power-on and PERST# hold the device with every register but RESET_CAUSE's own at its reset value and no word in any memory, what the flash keeps kept; PERST#
rising latches the straps and releases it, unless the TAP holds its pins; the watchdog resets the chip only once its count has reached MS, and only the key 0x5A3C restarts
that count. In the TAP an instruction that takes pins becomes BYPASS while PERST# is high, which bit 2 of the next capture shows, and ends a reset that it held; else it
puts the boundary register on the pins, but HIGHZ. What scans left in that register is open (assumption 126). -/
def Obligations.Resets : Prop :=
  ∀ s : State,
    Answers .powerOnReset s (fun e =>
        e.boot.held = true ∧ (∀ b u o, u < 8192 → o < 4096 → e.reg b u o = regReset b u o) ∧ e.store = [] ∧ e.depot.mem = []
          ∧ e.sth.mem = [] ∧ e.prog = [] ∧ e.clerk = [] ∧ e.warden.counters = s.dev.warden.counters ∧ e.reserve.cut = s.dev.reserve.cut
          ∧ e.jtag = {})
    ∧ Answers .perstAssert s (fun e =>
        e.boot.held = true ∧ e.rf CLK 0 0x180 0 3 = 1 ∧ e.rb CLK 0 0x180 3 = s.dev.tripKept
          ∧ (∀ b u o, u < 8192 → o < 4096 → (b, u, o) ≠ (CLK, 0, 0x180) → e.reg b u o = regReset b u o) ∧ e.store = [] ∧ e.depot.mem = []
          ∧ e.sth.mem = [] ∧ e.prog = [] ∧ e.clerk = [] ∧ e.warden.counters = s.dev.warden.counters ∧ e.reserve.cut = s.dev.reserve.cut
          ∧ e.jtag = s.dev.jtag)
    ∧ (∀ st, s.dev.boot.perstHigh = false →
      Answers (.perstRelease st) s (fun e =>
        e.boot.perstHigh = true
          ∧ (takesPins s.dev.jtag.ir = false → e.boot.held = false ∧ e.rb WRD 0 0x010 3 = st.enroll ∧ e.rb TRS 0 0x010 3 = st.pullCfg
              ∧ e.rb CLK 0 0x184 0 = st.pullCfg ∧ e.rb CLK 0 0x184 1 = st.enroll ∧ e.rb CLK 0 0x184 4 = st.refclkSel
              ∧ e.rb CLK 0 0x184 5 = st.stockForce ∧ e.rf CLK 0 0x184 2 2 = (if st.flashMode = 3 then 0 else st.flashMode.toNat)
              ∧ Only [(CLK, 0, 0x184), (TRS, 0, 0x010), (WRD, 0, 0x010)] s.dev e)
          ∧ (takesPins s.dev.jtag.ir = true → e.boot.held = s.dev.boot.held ∧ Only [] s.dev e)))
    ∧ (∀ st, s.dev.boot.perstHigh = true → Answers (.perstRelease st) s (fun e => e.boot = s.dev.boot ∧ Only [] s.dev e))
    ∧ (s.dev.boot.held = false →
      (s.dev.rf CLK 0 0x188 0 16 ≠ 0 → s.dev.rf CLK 0 0x188 0 16 ≤ s.dev.boot.wdog →
        Answers .watchdogExpire s (fun e =>
          e.rf CLK 0 0x180 0 3 = 2 ∧ e.boot.held = false ∧ e.boot.romDone = false ∧ e.store = [] ∧ e.depot.mem = [] ∧ e.sth.mem = []
            ∧ e.prog = [] ∧ e.clerk = [] ∧ e.host.msix = s.dev.host.msix ∧ e.warden.counters = s.dev.warden.counters))
      ∧ (s.dev.rf CLK 0 0x188 0 16 = 0 ∨ s.dev.boot.wdog < s.dev.rf CLK 0 0x188 0 16 →
        Answers .watchdogExpire s (fun e => e.boot = s.dev.boot ∧ Only [] s.dev e))
      ∧ (∀ key : BitVec 16, Answers (.wdogKick key) s (fun e =>
          e.boot.wdog = (if key = 0x5A3C then 0 else s.dev.boot.wdog)
            ∧ e.boot.wdogCycles = (if key = 0x5A3C then 0 else s.dev.boot.wdogCycles) ∧ Only [] s.dev e)))
    ∧ (∀ code : Byte, Answers (.jtagUpdateIr code) s (fun e =>
        (takesPins code = true → s.dev.boot.perstHigh = true → e.jtag.ir = 0xFF ∧ e.jtag.replaced = true)
          ∧ (takesPins code = false ∨ s.dev.boot.perstHigh = false → e.jtag.ir = code ∧ e.jtag.replaced = false)
          ∧ (scansBoundary s.dev.jtag.ir = false → e.jtag.boundary = s.dev.jtag.boundary)
          ∧ e.jtag.pins = (if takesPins code = true ∧ s.dev.boot.perstHigh = false ∧ code ≠ 3 then some e.jtag.boundary else none)
          ∧ (s.dev.boot.held = true → s.dev.boot.perstHigh = true → e.boot.held = false)
          ∧ (s.dev.boot.held = false ∨ s.dev.boot.perstHigh = false → e.boot = s.dev.boot ∧ SameRegsBut [] s.dev e)
          ∧ Only [(CLK, 0, 0x184), (TRS, 0, 0x010), (WRD, 0, 0x010)] s.dev e))
    ∧ Answers .tapReset s (fun e =>
        e.jtag.ir = 0x02 ∧ e.jtag.replaced = false ∧ e.jtag.pins = none
          ∧ (scansBoundary s.dev.jtag.ir = false → e.jtag.boundary = s.dev.jtag.boundary) ∧ e.boot = s.dev.boot ∧ Only [] s.dev e)
    ∧ Answers .captureIr s (fun e =>
        e.jtag = { s.dev.jtag with shift := if s.dev.jtag.replaced then 0x05 else 0x01 } ∧ Only [] s.dev e)

/-- Boot. The boot ROM runs once the PLLs have locked and no rail is low: a forced or failed identity is a reason for stock mode, and otherwise
the firmware runs or stock mode is due with reason 0; a rail that stays low holds the supplies. Boot firmware zeroes the memories and ends
the boot; the Storehouse is trained to its capacity and zeroed; PREP_DONE lets a load that waited start. Stock mode. It starts for a reason
of the boot ROM, or by firmware without an image: STOCK is set, the boot ends and the bell runs. After 30 s without a lease port 2 uses a link-local address; the first
packet of a group admits its stream with its flow entry, and 10 s of silence dismisses it and takes the entry away. -/
def Obligations.BootAndStock : Prop :=
  (∀ s : State, s.dev.boot.held = false →
    (∀ inp,
      (s.dev.boot.romDone = false → s.dev.rb CLK 0 0x180 9 = false → inp.railsLow = false →
        Answers (.pllLockBoot inp) s (fun e =>
          e.boot.romDone = true
            ∧ (s.dev.rb CLK 0 0x184 5 = true → e.boot.stockDue = true ∧ e.rf CLK 0 0x180 6 2 = 2)
            ∧ (s.dev.rb CLK 0 0x184 5 = false → inp.pufOk = false → e.boot.stockDue = true ∧ e.rf CLK 0 0x180 6 2 = 1 ∧ e.idFail = true)
            ∧ (s.dev.rb CLK 0 0x184 5 = false → inp.pufOk = true →
                e.boot.firmware = true ∨ (e.boot.stockDue = true ∧ e.rf CLK 0 0x180 6 2 = 0))
            ∧ e.store = s.dev.store ∧ e.depot.mem = s.dev.depot.mem))
      ∧ (s.dev.boot.romDone = true ∨ s.dev.rb CLK 0 0x180 9 = true ∨ inp.railsLow = true →
        Answers (.pllLockBoot inp) s (fun e => e.boot = s.dev.boot ∧ Only [] s.dev e)))
    ∧ (s.dev.boot.romDone = false → Answers .supplyHold s (fun e =>
        e.rb CLK 0 0x180 9 = true ∧ Only [(CLK, 0, 0x180), (LDG, 0, 0x030)] s.dev e))
    ∧ (s.dev.boot.romDone = true → Answers .supplyHold s (fun e => e.boot = s.dev.boot ∧ Only [] s.dev e))
    ∧ (∀ owner reserve,
      (s.dev.boot.firmware = true → s.dev.boot.zeroed = false →
        Answers (.bootFirmwareStart owner reserve) s (fun e =>
          e.boot.zeroed = true ∧ e.boot.booting = false ∧ e.store = [] ∧ e.depot.mem = [] ∧ 8 ≤ e.rf LDG 0 0x104 0 5
            ∧ e.rf LDG 0 0x104 0 5 ≤ 16))
      ∧ (s.dev.boot.firmware = false ∨ s.dev.boot.zeroed = true →
        Answers (.bootFirmwareStart owner reserve) s (fun e => e.boot = s.dev.boot ∧ Only [] s.dev e)))
    ∧ (∀ gib, 1 ≤ gib → gib ≤ 96 →
      (s.dev.boot.zeroed = true → s.dev.boot.sthZeroed = false →
        Answers (.storehouseTrained gib) s (fun e =>
          e.sth.mem = [] ∧ e.sthBytes = gib * 2 ^ 30 / 8 * 7 ∧ e.rb STH 0 0x010 0 = true ∧ e.boot.sthZeroed = true
            ∧ SameRegsBut [(STH, 0, 0x010)] s.dev e ∧ e.store = s.dev.store ∧ e.depot = s.dev.depot))
      ∧ (s.dev.boot.zeroed = false ∨ s.dev.boot.sthZeroed = true →
        Answers (.storehouseTrained gib) s (fun e => e.boot = s.dev.boot ∧ Only [] s.dev e)))
    ∧ (s.dev.boot.sthZeroed = true → s.dev.rb CLK 0 0x180 8 = false →
      Answers .prepDone s (fun e =>
        e.rb CLK 0 0x180 8 = true ∧ (s.dev.loader.waitPrep ≠ none → e.loadState = 1)
          ∧ (s.dev.loader.waitPrep = none → SameRegsBut [(CLK, 0, 0x180)] s.dev e) ∧ SameMemory s.dev e))
    ∧ (s.dev.boot.sthZeroed = false ∨ s.dev.rb CLK 0 0x180 8 = true →
      Answers .prepDone s (fun e => e.loader = s.dev.loader ∧ Only [] s.dev e)))
  ∧ (∀ s : State, s.dev.boot.held = false →
    (s.dev.stockMode = false → s.dev.boot.stockDue = true →
      Answers .stockModeStart s (fun e =>
        e.stockMode = true ∧ e.boot.booting = false ∧ e.boot.stockDue = false ∧ e.rb BEL 0 0x008 0 = true
          ∧ e.rf CLK 0 0x180 6 2 = s.dev.rf CLK 0 0x180 6 2 ∧ e.sth.mem = s.dev.sth.mem))
    ∧ (s.dev.stockMode = false → s.dev.boot.stockDue = false →
      (s.dev.boot.firmware = true → s.dev.rb CLK 0 0x180 8 = true → s.dev.loader.running = none → s.dev.loadState = 0 →
        Answers .stockModeStart s (fun e =>
          e.stockMode = true ∧ e.boot.booting = false ∧ e.rb BEL 0 0x008 0 = true ∧ e.rf CLK 0 0x180 6 2 = 3
            ∧ e.sth.mem = s.dev.sth.mem))
      ∧ (s.dev.boot.firmware = false ∨ s.dev.rb CLK 0 0x180 8 = false ∨ s.dev.loader.running.isSome = true ∨ s.dev.loadState ≠ 0 →
        Answers .stockModeStart s (fun e => e.boot = s.dev.boot ∧ Only [] s.dev e)))
    ∧ (s.dev.stockMode = true → Answers .stockModeStart s (fun e => e.boot = s.dev.boot ∧ Only [] s.dev e))
    ∧ (s.dev.stockMode = true → s.dev.rb GAT 0 0x010 2 = true →
        Answers .dhcpFallback s (fun e => e.gate.linkLocal = true ∧ Only [] s.dev e))
    ∧ (s.dev.stockMode = false ∨ s.dev.rb GAT 0 0x010 2 = false →
        Answers .dhcpFallback s (fun e => e.gate = s.dev.gate ∧ Only [] s.dev e))
    ∧ (∀ i pt, i < 512 →
      (s.dev.stockMode = true → pt = 96 ∨ pt = 98 →
        s.dev.admitResult i { (s.dev.stream i).accept s.dev.now (stockRecordOf i pt) with stock := true } = 0 →
        Answers (.stockAdmit i pt) s (fun e =>
          (e.stream i).state = 1 ∧ (e.stream i).stock = true ∧ (e.stream i).data = stockRecordOf i pt ∧ e.flowEntry i = stockFlow i pt
            ∧ (∀ k, k ≠ i → e.stream k = s.dev.stream k ∧ e.flowEntry k = s.dev.flowEntry k) ∧ Only [] s.dev e))
      ∧ (s.dev.stockMode = false ∨ (pt ≠ 96 ∧ pt ≠ 98)
          ∨ s.dev.admitResult i { (s.dev.stream i).accept s.dev.now (stockRecordOf i pt) with stock := true } ≠ 0 →
        Answers (.stockAdmit i pt) s (fun e => e.gate = s.dev.gate ∧ Only [] s.dev e)))
    ∧ (∀ i, i < 512 →
      (s.dev.stockMode = true → (s.dev.stream i).stock = true → (s.dev.stream i).state = 1 →
        Answers (.stockStreamIdle i) s (fun e =>
          (e.stream i).state = 2 ∧ flowValid (e.flowEntry i) = false
            ∧ (∀ k, k ≠ i → e.stream k = s.dev.stream k ∧ e.flowEntry k = s.dev.flowEntry k) ∧ Only [] s.dev e))
      ∧ (s.dev.stockMode = false ∨ (s.dev.stream i).stock = false ∨ (s.dev.stream i).state ≠ 1 →
        Answers (.stockStreamIdle i) s (fun e => e.gate = s.dev.gate ∧ Only [] s.dev e))))

/-! ### The code of the stored words -/

/-- The SECDED (72,64) code of every store. What is written is read: a word written clean reads clean, one written spoiled keeps its data bits
and reads spoiled, not counted. Any one bit of a clean word that has turned over is corrected, and named. Any two are never delivered as
clean or corrected: the word reads spoiled with its data bits as stored, and counts as uncorrectable unless they are the data bits 48 + k
and 63 - k for a k from 0 to 7, which read as the stored spoiled form. -/
def Obligations.SecdedCode : Prop :=
  (∀ (w : DWord) (sp : Bool), decodeWord (encodeWord w sp) = ⟨w, sp, false, false, 0⟩)
  ∧ (∀ (w : DWord) (i : Nat), i < 72 → decodeWord (encodeWord w false ^^^ (1#72 <<< i)) = ⟨w, false, true, false, i⟩)
  ∧ (∀ (w : DWord) (i j : Nat), i < j → j < 72 →
      let c : CodeWord := encodeWord w false ^^^ (1#72 <<< i) ^^^ (1#72 <<< j)
      (decodeWord c).spoil = true ∧ (decodeWord c).ce = false ∧ (decodeWord c).data = c.setWidth 64
        ∧ ((decodeWord c).ue = false ↔ 48 ≤ i ∧ i + j = 111))
end

