-- ==== Sys2Proof/Laws/Cells.lean ====
section
/-! SUPPORT. The CRC of a flit: it reads the low bits only, stays below 2^32, and a flit that carries the CRC of its body is good (R467, R474). -/

namespace Sys2Proof.Laws

open Sys2Proof Sys2Proof.Machine

/-- The CRC over `n` bits reads no bit above them. -/
theorem crc32_congr {n v w : Nat} (h : ∀ i, i < n → tb v i = tb w i) : crc32 n v = crc32 n w := by
  have key : ∀ (l : List Nat) (c : Nat), (∀ i ∈ l, i < n) →
      l.foldl (fun c i => crcBit c (tb v i)) c = l.foldl (fun c i => crcBit c (tb w i)) c := by
    intro l
    induction l with
    | nil => intro c _; rfl
    | cons i l ih =>
      intro c hl
      simp only [List.foldl_cons, h i (hl i (by simp))]
      exact ih _ (fun j hj => hl j (by simp [hj]))
  simp only [crc32, key (List.range n) _ (fun i hi => List.mem_range.1 hi)]

/-- One bit keeps the CRC within 32 bits. -/
theorem crcBit_lt {c : Nat} (b : Bool) (h : c < 2 ^ 32) : crcBit c b < 2 ^ 32 := by
  unfold crcBit
  split
  · exact Nat.xor_lt_two_pow (by omega) (by omega)
  · omega

/-- The CRC has 32 bits. -/
theorem crc32_lt (n v : Nat) : crc32 n v < 2 ^ 32 := by
  have key : ∀ (l : List Nat) (c : Nat), c < 2 ^ 32 → l.foldl (fun c i => crcBit c (tb v i)) c < 2 ^ 32 := by
    intro l
    induction l with
    | nil => intro c h; exact h
    | cons i l ih => intro c h; exact ih _ (crcBit_lt _ h)
  exact Nat.xor_lt_two_pow (key _ _ (by omega)) (by omega)

/-- A value of `m` bits with one of `n` bits above it has `m + n` bits. -/
theorem stacked_lt {m n x c : Nat} (hx : x < 2 ^ m) (hc : c < 2 ^ n) : x + c * 2 ^ m < 2 ^ (m + n) := by
  calc x + c * 2 ^ m < 2 ^ m + c * 2 ^ m := Nat.add_lt_add_right hx _
    _ = (c + 1) * 2 ^ m := by rw [Nat.add_mul, Nat.one_mul, Nat.add_comm]
    _ ≤ 2 ^ n * 2 ^ m := Nat.mul_le_mul_right _ hc
    _ = 2 ^ (m + n) := by rw [← Nat.pow_add, Nat.add_comm]

/-- The bits of a flit: a body of 2,080 bits, and its CRC above them. -/
theorem flit_toNat {body : Nat} (hb : body < 2 ^ 2080) :
    (BitVec.ofNat 2112 (body + crc32 2080 body * 2 ^ 2080)).toNat = body + crc32 2080 body * 2 ^ 2080 := by
  rw [BitVec.toNat_ofNat, Nat.mod_eq_of_lt (stacked_lt hb (crc32_lt 2080 body))]

/-- What stands above `m` bits changes none of them. -/
theorem tb_low {m x c i : Nat} (hx : x < 2 ^ m) (hi : i < m) : tb (x + c * 2 ^ m) i = tb x i := by
  simp only [tb, ← Nat.testBit_eq_decide_div_mod_eq, Nat.add_comm x, Nat.mul_comm _ (2 ^ m)]
  rw [Nat.testBit_two_pow_mul_add _ hx, if_pos hi]

/-- What stands above `m` bits changes no field of them. -/
theorem fld_low {m x c lo n : Nat} (h : lo + n ≤ m) : fld (x + c * 2 ^ m) lo n = fld x lo n := by
  obtain ⟨k, rfl⟩ := Nat.exists_eq_add_of_le h
  have e : c * 2 ^ (lo + n + k) = 2 ^ n * (c * 2 ^ k) * 2 ^ lo := by
    rw [Nat.pow_add, Nat.pow_add, Nat.mul_comm (2 ^ lo) (2 ^ n)]
    ac_rfl
  rw [fld, fld, e, Nat.add_mul_div_right _ _ (Nat.two_pow_pos lo), Nat.add_mul_mod_self_left]

/-- A flit whose last 32 bits are the CRC of the 2,080 before them is good unless FEC has failed. -/
theorem flit_good {fec : Fec} {body : Nat} (hf : fec ≠ .failed) (hb : body < 2 ^ 2080) :
    (⟨fec, BitVec.ofNat 2112 (body + crc32 2080 body * 2 ^ 2080)⟩ : Flit).good = true := by
  have ht : crc32 2080 (body + crc32 2080 body * 2 ^ 2080) = crc32 2080 body :=
    crc32_congr fun i hi => tb_low hb hi
  simp only [Flit.good, Flit.crc, flit_toNat hb, ht, decide_eq_true hf, Bool.true_and, decide_eq_true_eq, fld]
  rw [Nat.add_mul_div_right _ _ (Nat.two_pow_pos 2080), Nat.div_eq_of_lt hb, Nat.zero_add, Nat.mod_eq_of_lt (crc32_lt 2080 body)]

end Sys2Proof.Laws
end

