-- ==== Sys2Proof/Laws/KMap.lean ====
section
/-! SUPPORT. The sparse map: what a read gives after a write, and that every write keeps the canonical form. -/

namespace Sys2Proof.KMap

variable {α : Type}

@[simp] theorem get_nil (k : Nat) (d : α) : get [] k d = d := rfl

theorem get_put (m : KMap α) (k k' : Nat) (v d : α) : get (put m k v) k' d = if k' = k then v else get m k' d := by
  induction m with
  | nil => by_cases h : k = k' <;> simp [put, get, h, eq_comm]
  | cons e rest ih =>
    obtain ⟨q, w⟩ := e
    simp only [put]
    split
    · by_cases h : k = k' <;> simp [get, h, eq_comm]
    · split
      · rename_i h; subst h
        by_cases h : k = k' <;> simp [get, h, eq_comm]
      · by_cases hq : q = k'
        · subst hq; simp [get, Ne.symm ‹¬ k = q›]
        · simp [get, hq, ih]

theorem get_del (m : KMap α) (k k' : Nat) (d : α) : get (del m k) k' d = if k' = k then d else get m k' d := by
  induction m with
  | nil => simp [del, get]
  | cons e rest ih =>
    obtain ⟨q, w⟩ := e
    simp only [del]
    by_cases hk : q = k
    · by_cases h : k' = k
      · subst hk; rw [if_pos rfl, ih]; simp [h]
      · simp [hk, ih, h, get, Ne.symm h]
    · by_cases hq : q = k'
      · subst hq; simp [get, hk]
      · simp [get, hk, hq, ih]

/-- A read after a write: the value written at its key, and the old value at every other. -/
theorem get_set [DecidableEq α] (m : KMap α) (k k' : Nat) (v d : α) :
    get (set m k v d) k' d = if k' = k then v else get m k' d := by
  unfold set
  split
  · rename_i h; rw [get_del, h]
  · exact get_put m k k' v d

@[simp] theorem get_set_same [DecidableEq α] (m : KMap α) (k : Nat) (v d : α) : get (set m k v d) k d = v := by
  simp [get_set]

theorem get_set_other [DecidableEq α] (m : KMap α) {k k' : Nat} (v d : α) (h : k' ≠ k) :
    get (set m k v d) k' d = get m k' d := by
  simp [get_set, h]

@[simp] theorem get_put_same (m : KMap α) (k : Nat) (v d : α) : get (put m k v) k d = v := by
  simp [get_put]

theorem get_put_other (m : KMap α) {k k' : Nat} (v d : α) (h : k' ≠ k) : get (put m k v) k' d = get m k' d := by
  simp [get_put, h]

/-! ### The canonical form -/

theorem sortedFrom_mono {lo hi : Nat} {m : KMap α} (h : lo ≤ hi) (hm : sortedFrom hi m = true) : sortedFrom lo m = true := by
  cases m with
  | nil => rfl
  | cons e rest => simp [sortedFrom] at *; exact ⟨by omega, hm.2⟩

theorem sortedFrom_put {lo k : Nat} {m : KMap α} (v : α) (hk : lo ≤ k) (hm : sortedFrom lo m = true) :
    sortedFrom lo (put m k v) = true := by
  induction m generalizing lo with
  | nil => simp [put, sortedFrom, hk]
  | cons e rest ih =>
    obtain ⟨q, w⟩ := e
    simp [sortedFrom] at hm
    simp only [put]
    split
    · simp [sortedFrom, hk, hm]; omega
    · split
      · subst_vars; simp [sortedFrom, hm]
      · simp [sortedFrom, hm.1]; exact ih (by omega) hm.2

theorem sortedFrom_del {lo k : Nat} {m : KMap α} (hm : sortedFrom lo m = true) : sortedFrom lo (del m k) = true := by
  induction m generalizing lo with
  | nil => rfl
  | cons e rest ih =>
    obtain ⟨q, w⟩ := e
    simp [sortedFrom] at hm
    simp only [del]
    split
    · exact sortedFrom_mono (by omega) (ih hm.2)
    · simp [sortedFrom, hm.1, ih hm.2]

theorem mem_put {m : KMap α} {k : Nat} {v : α} {e : Nat × α} (h : e ∈ put m k v) : e = (k, v) ∨ e ∈ m := by
  induction m with
  | nil => simpa [put] using h
  | cons q rest ih =>
    obtain ⟨q, w⟩ := q
    simp only [put] at h
    split at h
    · simpa using h
    · split at h
      · rcases List.mem_cons.mp h with h | h
        · exact .inl h
        · exact .inr (List.mem_cons_of_mem _ h)
      · rcases List.mem_cons.mp h with h | h
        · exact .inr (by simp [h])
        · exact (ih h).imp id (List.mem_cons_of_mem _)

theorem mem_del {m : KMap α} {k : Nat} {e : Nat × α} (h : e ∈ del m k) : e ∈ m := by
  induction m with
  | nil => simp [del] at h
  | cons q rest ih =>
    obtain ⟨q, w⟩ := q
    simp only [del] at h
    split at h
    · exact List.mem_cons_of_mem _ (ih h)
    · simp at h ⊢
      rcases h with h | h
      · exact .inl h
      · exact .inr (ih h)

@[simp] theorem wf_nil [DecidableEq α] (d : α) : wf d ([] : KMap α) = true := rfl

/-- Writing keeps the canonical form, whatever is written. -/
theorem wf_set [DecidableEq α] {d : α} {m : KMap α} (k : Nat) (v : α) (h : wf d m = true) : wf d (set m k v d) = true := by
  simp only [wf, Bool.and_eq_true, List.all_eq_true, decide_eq_true_eq] at h ⊢
  unfold set
  split
  · exact ⟨sortedFrom_del h.1, fun e he => h.2 e (mem_del he)⟩
  · rename_i hv
    refine ⟨sortedFrom_put v (by omega) h.1, fun e he => ?_⟩
    rcases mem_put he with rfl | he
    · exact hv
    · exact h.2 e he

theorem sortedFrom_filter {lo : Nat} {m : KMap α} (p : Nat × α → Bool) (hm : sortedFrom lo m = true) :
    sortedFrom lo (m.filter p) = true := by
  induction m generalizing lo with
  | nil => rfl
  | cons e rest ih =>
    obtain ⟨q, w⟩ := e
    simp [sortedFrom] at hm
    simp only [List.filter]
    split
    · simp [sortedFrom, hm.1, ih hm.2]
    · exact sortedFrom_mono (by omega) (ih hm.2)

theorem wf_filter [DecidableEq α] {d : α} {m : KMap α} (p : Nat × α → Bool) (h : wf d m = true) : wf d (m.filter p) = true := by
  simp only [wf, Bool.and_eq_true, List.all_eq_true, decide_eq_true_eq] at h ⊢
  exact ⟨sortedFrom_filter p h.1, fun e he => h.2 e (List.mem_filter.mp he).1⟩

theorem get_of_lt {lo k : Nat} {m : KMap α} {d : α} (hm : sortedFrom lo m = true) (hk : k < lo) : get m k d = d := by
  induction m generalizing lo with
  | nil => rfl
  | cons e rest ih =>
    obtain ⟨q, w⟩ := e
    simp [sortedFrom] at hm
    simp [get, show q ≠ k by omega, ih hm.2 (by omega)]

/-- Maps in canonical form that read alike are the same list. -/
theorem ext_of_wf [DecidableEq α] {d : α} {m n : KMap α} (hm : wf d m = true) (hn : wf d n = true)
    (h : ∀ k, get m k d = get n k d) : m = n := by
  have go : ∀ (lo : Nat) (m n : KMap α), sortedFrom lo m = true → sortedFrom lo n = true →
      (∀ e ∈ m, e.2 ≠ d) → (∀ e ∈ n, e.2 ≠ d) → (∀ k, get m k d = get n k d) → m = n := by
    intro lo m
    induction m generalizing lo with
    | nil =>
      intro n _ hn _ dn h
      cases n with
      | nil => rfl
      | cons e rest => exact absurd (by simpa [get] using (h e.1).symm) (dn e (by simp))
    | cons e rest ih =>
      intro n hm hn dm dn h
      obtain ⟨q, w⟩ := e
      cases n with
      | nil => exact absurd (by simpa [get] using h q) (dm (q, w) (by simp))
      | cons e' rest' =>
        obtain ⟨q', w'⟩ := e'
        simp [sortedFrom] at hm hn
        rcases Nat.lt_trichotomy q q' with hq | hq | hq
        · have := h q
          simp [get, show q' ≠ q by omega, get_of_lt hn.2 (show q < q' + 1 by omega)] at this
          exact absurd this (dm (q, w) (by simp))
        · subst hq
          have hw : w = w' := by simpa [get] using h q
          subst hw
          congr 1
          refine ih (q + 1) rest' hm.2 hn.2 (fun e he => dm e (by simp [he])) (fun e he => dn e (by simp [he])) (fun k => ?_)
          by_cases hk : q = k
          · subst hk; rw [get_of_lt hm.2 (by omega), get_of_lt hn.2 (by omega)]
          · simpa [get, hk] using h k
        · have := h q'
          simp [get, show q ≠ q' by omega, get_of_lt hm.2 (show q' < q + 1 by omega)] at this
          exact absurd this.symm (dn (q', w') (by simp))
  simp only [wf, Bool.and_eq_true, List.all_eq_true, decide_eq_true_eq] at hm hn
  exact go 0 m n hm.1 hn.1 hm.2 hn.2 h

end Sys2Proof.KMap
end

