-- ==== Sys2Proof/Laws/Memory.lean ====
section
/-! SUPPORT. The stored words of the device: what leaves them alone, that every operation that writes them keeps their canonical form,
and that a read after a write gives what was written. -/

namespace Sys2Proof.Machine

/-- All the stored words are as they were. -/
structure SameStored (d e : Device) : Prop where
  store : e.store = d.store
  storeSpare : e.storeSpare = d.storeSpare
  prog : e.prog = d.prog
  mem : e.depot.mem = d.depot.mem
  spares : e.depot.spares = d.depot.spares
  sth : e.sth.mem = d.sth.mem
  clerk : e.clerk = d.clerk

namespace SameStored

theorem refl (d : Device) : SameStored d d := ⟨rfl, rfl, rfl, rfl, rfl, rfl, rfl⟩

theorem trans {a b c : Device} (h : SameStored a b) (g : SameStored b c) : SameStored a c :=
  ⟨g.store.trans h.store, g.storeSpare.trans h.storeSpare, g.prog.trans h.prog, g.mem.trans h.mem, g.spares.trans h.spares,
    g.sth.trans h.sth, g.clerk.trans h.clerk⟩

theorem wf {d e : Device} (h : SameStored d e) (hd : Memory.wf d = true) : Memory.wf e = true := by
  unfold Memory.wf at *
  rw [h.store, h.storeSpare, h.prog, h.mem, h.spares, h.sth, h.clerk]
  exact hd

/-- A chain of operations each of which leaves the stored words alone leaves them alone. -/
theorem foldl {α : Type} {f : Device → α → Device} (h : ∀ a x, SameStored a (f a x)) (l : List α) (d : Device) :
    SameStored d (l.foldl f d) := by
  induction l generalizing d with
  | nil => exact refl d
  | cons x l ih => exact (h d x).trans (ih (f d x))

theorem ite {c : Prop} [Decidable c] {d a b : Device} (ha : SameStored d a) (hb : SameStored d b) :
    SameStored d (if c then a else b) := by split <;> assumption

theorem setReg (d : Device) (b u o : Nat) (v : Word) : SameStored d (d.setReg b u o v) := ⟨rfl, rfl, rfl, rfl, rfl, rfl, rfl⟩
theorem setN (d : Device) (b u o v : Nat) : SameStored d (d.setN b u o v) := setReg d b u o _
theorem setF (d : Device) (b u o lo n x : Nat) : SameStored d (d.setF b u o lo n x) := setReg d b u o _
theorem setB (d : Device) (b u o i : Nat) (x : Bool) : SameStored d (d.setB b u o i x) := setReg d b u o _
theorem raise (d : Device) (b u bit : Nat) : SameStored d (d.raise b u bit) := ⟨rfl, rfl, rfl, rfl, rfl, rfl, rfl⟩
theorem bumpBy (d : Device) (b u o cap n : Nat) : SameStored d (d.bumpBy b u o cap n) := ⟨rfl, rfl, rfl, rfl, rfl, rfl, rfl⟩
theorem count16 (d : Device) (b u o : Nat) : SameStored d (d.count16 b u o) := bumpBy d b u o _ _
theorem count32 (d : Device) (b u o : Nat) : SameStored d (d.count32 b u o) := bumpBy d b u o _ _
theorem orRC (d : Device) (b u o bits : Nat) : SameStored d (d.orRC b u o bits) := ⟨rfl, rfl, rfl, rfl, rfl, rfl, rfl⟩
theorem maxRC (d : Device) (b u o v : Nat) : SameStored d (d.maxRC b u o v) := ⟨rfl, rfl, rfl, rfl, rfl, rfl, rfl⟩
theorem emit (d : Device) (o : Output) : SameStored d (d.emit o) := ⟨rfl, rfl, rfl, rfl, rfl, rfl, rfl⟩
theorem useFree (d : Device) : SameStored d d.useFree := ⟨rfl, rfl, rfl, rfl, rfl, rfl, rfl⟩
theorem setStall (d : Device) (p : Nat) (s : Stall) : SameStored d (d.setStall p s) := ⟨rfl, rfl, rfl, rfl, rfl, rfl, rfl⟩
theorem updStall (d : Device) (p : Nat) (f : Stall → Stall) : SameStored d (d.updStall p f) := setStall d p _

theorem logAt (d : Device) (bell code : Nat) (page loc : Word) (detail : DWord) : SameStored d (d.logAt bell code page loc detail) :=
  ite (count16 d _ _ _) ⟨rfl, rfl, rfl, rfl, rfl, rfl, rfl⟩
theorem log (d : Device) (code b u : Nat) (loc : Word) (detail : Nat) : SameStored d (d.log code b u loc detail) := logAt d _ _ _ _ _

/-- Recording a fault writes registers and the Ledger's buffer only (R348). -/
theorem fault (d : Device) (b u code : Nat) (loc : Word) : SameStored d (d.fault b u code loc) := by
  unfold Device.fault
  extract_lets when_ key now_ rec_ src d1 d2
  have h1 : SameStored d d1 :=
    ite ⟨rfl, rfl, rfl, rfl, rfl, rfl, rfl⟩ (refl d)
  have h2 : SameStored d d2 := h1.trans (raise _ _ _ _)
  refine h2.trans (trans (b := { d2 with newFaults := d2.newFaults ++ [(regKey b u 0, code, loc, when_)] }) ?_ (logAt _ _ _ _ _ _))
  exact ⟨rfl, rfl, rfl, rfl, rfl, rfl, rfl⟩

theorem integ (d : Device) (b u off : Nat) : SameStored d (d.integ b u off) := fault d _ _ _ _

theorem remapCheck (d : Device) (l : List Remap) (addr : Nat) : SameStored d (d.remapCheck l addr) := ite (integ d _ _ _) (refl d)

theorem mapCheck (d : Device) (o : Nat) : SameStored d (d.mapCheck o) := ite (refl d) (integ d _ _ _)

/-! Reads correct in flight and leave the stored words alone (R109, R385). -/

theorem storeRead (d : Device) (p wa : Nat) : SameStored d (d.storeRead p wa).2 :=
  .trans (.trans (remapCheck d _ _) (ite (.trans (count16 _ _ _ _) (raise _ _ _ _)) (refl _)))
    (ite (.trans (raise _ _ _ _) (log _ _ _ _ _ _)) (refl _))

theorem depotRead (d : Device) (off : Nat) : SameStored d (d.depotRead off).2 :=
  .trans (.trans ((mapCheck d 0x114).trans (remapCheck _ _ _)) (ite (.trans (.trans (count16 _ _ _ _) (raise _ _ _ _)) (setN _ _ _ _ _)) (refl _)))
    (ite (.trans (.trans (.trans (count16 _ _ _ _) (raise _ _ _ _)) (setN _ _ _ _ _)) (log _ _ _ _ _ _)) (refl _))

theorem sthRead (d : Device) (a : Nat) : SameStored d (d.sthRead a).2 := by
  unfold Device.sthRead
  split
  · exact .trans (ite (.trans (.trans (count16 _ _ _ _) (raise _ _ _ _)) (.trans (setN _ _ _ _ _) (setN _ _ _ _ _))) (refl _))
      (ite (.trans (.trans (.trans (count16 _ _ _ _) (raise _ _ _ _)) (.trans (setN _ _ _ _ _) (setN _ _ _ _ _))) (log _ _ _ _ _ _))
        (refl _))
  · exact useFree d

theorem depotReadBytes (d : Device) (off n : Nat) : SameStored d (d.depotReadBytes off n).2.2 := by
  unfold Device.depotReadBytes
  have h : ∀ (l : List Nat) (acc : List Byte × Bool × Device), SameStored acc.2.2
      (l.foldl (fun (acc : List Byte × Bool × Device) i =>
        let x := acc.2.2.depotRead ((off - off % 8 + 8 * i) % 2 ^ 27)
        (acc.1 ++ bytesOf x.1.data, acc.2.1 || x.1.spoil, x.2)) acc).2.2 := by
    intro l
    induction l with
    | nil => intro acc; exact refl _
    | cons i l ih => intro acc; rw [List.foldl_cons]; refine .trans ?_ (ih _); exact depotRead acc.2.2 _
  exact h _ ([], false, d)

end SameStored

/-! ### The canonical form -/

theorem Memory.wf_iff (d : Device) : Memory.wf d = true ↔
    KMap.wf 0 d.store = true ∧ KMap.wf 0 d.storeSpare = true ∧ KMap.wf 0 d.prog = true ∧ KMap.wf 0 d.depot.mem = true
      ∧ KMap.wf 0 d.depot.spares = true ∧ KMap.wf 0 d.sth.mem = true ∧ KMap.wf 0 d.clerk = true := by
  simp [Memory.wf, and_assoc]

/-- Reset memory lists nothing. -/
theorem Memory.wf_reset : Memory.wf State.reset.dev = true := rfl

section
open KMap

theorem Memory.wf_storePutCode {d : Device} (p wa : Nat) (c : CodeWord) (h : Memory.wf d = true) :
    Memory.wf (d.storePutCode p wa c) = true := by
  unfold Device.storePutCode
  extract_lets aimed c1 d1 rs
  have h1 : Memory.wf d1 = true :=
    (SameStored.ite (((SameStored.setN d _ _ _ _).trans (.setN _ _ _ _ _)).trans (.setN _ _ _ _ _)) (.refl d)).wf h
  rw [Memory.wf_iff] at h1
  split
  · rw [Memory.wf_iff]; exact ⟨h1.1, wf_set _ _ h1.2.1, h1.2.2⟩
  · split
    · rw [Memory.wf_iff]; exact ⟨wf_set _ _ h1.1, wf_set _ _ h1.2.1, h1.2.2⟩
    · rw [Memory.wf_iff]; exact ⟨wf_set _ _ h1.1, h1.2⟩

theorem Memory.wf_depotPutCode {d : Device} (pb word lane : Nat) (c : CodeWord) (h : Memory.wf d = true) :
    Memory.wf (d.depotPutCode pb word lane c) = true := by
  unfold Device.depotPutCode
  extract_lets c1 d1 rs
  have h1 : Memory.wf d1 = true :=
    (((SameStored.setN d _ _ _ _).trans (.setN _ _ _ _ _)).trans (.setN _ _ _ _ _)).wf h
  rw [Memory.wf_iff] at h1
  obtain ⟨a, b, p, m, s, r⟩ := h1
  split
  · rw [Memory.wf_iff]; exact ⟨a, b, p, m, wf_set _ _ s, r⟩
  · split
    · rw [Memory.wf_iff]; exact ⟨a, b, p, wf_set _ _ m, wf_set _ _ s, r⟩
    · rw [Memory.wf_iff]; exact ⟨a, b, p, wf_set _ _ m, s, r⟩

theorem Memory.wf_sthPutCode {d : Device} (addr : Nat) (c : CodeWord) (first : Bool) (h : Memory.wf d = true) :
    Memory.wf (d.sthPutCode addr c first) = true := by
  unfold Device.sthPutCode
  split
  · extract_lets c1 d1
    have h1 : Memory.wf d1 = true :=
      (SameStored.ite (((SameStored.setN d _ _ _ _).trans (.setN _ _ _ _ _)).trans (.setN _ _ _ _ _)) (.refl d)).wf h
    rw [Memory.wf_iff] at h1
    obtain ⟨a, b, p, m, s, t, k⟩ := h1
    rw [Memory.wf_iff]; exact ⟨a, b, p, m, s, wf_set _ _ t, k⟩
  · exact h

/-! Owner writes. -/

theorem Memory.wf_storeWrite {d : Device} (p wa : Nat) (v : DWord) (spoil : Bool) (h : Memory.wf d = true) :
    Memory.wf (d.storeWrite p wa v spoil) = true := by
  have h1 := Memory.wf_storePutCode p wa (encodeWord v spoil) ((SameStored.remapCheck d (d.stall p).remaps wa).wf h)
  exact (SameStored.ite (.refl _) (.updStall _ _ _)).wf h1

theorem Memory.wf_storeFillFlip {d : Device} (p : Nat) (code : Nat → CodeWord) (h : Memory.wf d = true) :
    Memory.wf (d.storeFillFlip p code) = true := by
  unfold Device.storeFillFlip
  split
  · exact h
  · extract_lets wa d1
    have h1 : Memory.wf d1 = true := (((SameStored.useFree d).trans (.setN _ _ _ _ _)).trans ((SameStored.setN _ _ _ _ _).trans (.setN _ _ _ _ _))).wf h
    rw [Memory.wf_iff] at h1 ⊢
    exact ⟨wf_set _ _ h1.1, h1.2⟩

theorem Memory.wf_depotWriteLane {d : Device} (off : Nat) (v : DWord) (spoil : Bool) (h : Memory.wf d = true) :
    Memory.wf (d.depotWriteLane off v spoil) = true := by
  unfold Device.depotWriteLane
  extract_lets pb d1 ts
  have h1 : Memory.wf d1 = true :=
    Memory.wf_depotPutCode _ _ _ _ (((SameStored.mapCheck d 0x114).trans (SameStored.remapCheck _ _ _)).wf h)
  split
  · exact h1
  · exact h1

theorem Memory.wf_depotWriteIn {d : Device} (off : Nat) (bytes : List Byte) (spoil : Bool) (h : Memory.wf d = true) :
    Memory.wf (d.depotWriteIn off bytes spoil) = true := by
  unfold Device.depotWriteIn
  split
  · exact Memory.wf_depotWriteLane _ _ _ h
  · exact Memory.wf_depotWriteLane _ _ _ ((SameStored.depotRead d off).wf h)

/-- A chain of operations each of which keeps the canonical form keeps it. -/
theorem Memory.wf_foldl {α : Type} {f : Device → α → Device} (hf : ∀ a x, Memory.wf a = true → Memory.wf (f a x) = true)
    (l : List α) {d : Device} (h : Memory.wf d = true) : Memory.wf (l.foldl f d) = true := by
  induction l generalizing d with
  | nil => exact h
  | cons x l ih => exact ih (hf d x h)

theorem Memory.wf_depotWrite {d : Device} (off : Nat) (bytes : List Byte) (spoil : Bool) (h : Memory.wf d = true) :
    Memory.wf (d.depotWrite off bytes spoil) = true :=
  Memory.wf_foldl (fun _ _ ha => Memory.wf_depotWriteIn _ _ _ ha) _ h

theorem Memory.wf_sthWrite {d : Device} (addr : Nat) (bytes : List Byte) (spoil whole : Bool) (h : Memory.wf d = true) :
    Memory.wf (d.sthWrite addr bytes spoil whole) = true := by
  unfold Device.sthWrite
  split
  · exact Memory.wf_sthPutCode _ _ _ h
  · refine Memory.wf_foldl (fun a i ha => ?_) _ h
    have hr := fun x => (SameStored.sthRead a x).wf ha
    dsimp only
    split <;> exact Memory.wf_sthPutCode _ _ _ (hr _)

/-! Whole memories: zeroing, self-test, the copy of a bank and promotions (R612, R591, R594, R408). -/

theorem Memory.wf_zeroMemories {d : Device} (h : Memory.wf d = true) : Memory.wf d.zeroMemories = true := by
  rw [Memory.wf_iff] at h ⊢
  exact ⟨rfl, rfl, h.2.2.1, rfl, rfl, h.2.2.2.2.2⟩

theorem Memory.wf_depotFillFlip {d : Device} (pb : Nat) (code : Nat → Nat → CodeWord) (h : Memory.wf d = true) :
    Memory.wf (d.depotFillFlip pb code) = true := by
  refine Memory.wf_foldl (fun a lane ha => ?_) _ h
  split
  · exact ha
  · extract_lets w d1
    have h1 : Memory.wf d1 = true := (((SameStored.useFree a).trans (.setN _ _ _ _ _)).trans ((SameStored.setN _ _ _ _ _).trans (.setN _ _ _ _ _))).wf ha
    rw [Memory.wf_iff] at h1 ⊢
    exact ⟨h1.1, h1.2.1, h1.2.2.1, wf_set _ _ h1.2.2.2.1, h1.2.2.2.2⟩

theorem Memory.wf_wipeBank {d : Device} (b : Nat) (h : Memory.wf d = true) : Memory.wf (d.wipeBank b) = true := by
  refine Memory.wf_depotFillFlip b _ ?_
  rw [Memory.wf_iff] at h ⊢
  exact ⟨h.1, h.2.1, h.2.2.1, wf_filter _ h.2.2.2.1, wf_filter _ h.2.2.2.2.1, h.2.2.2.2.2⟩

theorem wf_foldl_set {α β : Type} [DecidableEq α] {d : α} (f : β → Nat) (g : β → α) (l : List β) {m : KMap α}
    (h : wf d m = true) : wf d (l.foldl (fun m x => KMap.set m (f x) (g x) d) m) = true := by
  induction l generalizing m with
  | nil => exact h
  | cons x l ih => exact ih (wf_set _ _ h)

theorem Memory.wf_wipeStall {d : Device} (p : Nat) (h : Memory.wf d = true) : Memory.wf (d.wipeStall p) = true := by
  rw [Memory.wf_iff] at h
  unfold Device.wipeStall
  extract_lets free prog d1 put d2 d3 accs planes window tiles d4
  have hp : KMap.wf 0 prog = true := by
    have hq := wf_foldl_set (d := 0) (fun i => 2048 * p + i) (fun i => (free i).setWidth 33) (List.range 2048) h.2.2.1
    exact hq
  clear_value prog
  have h1 : Memory.wf d1 = true := by
    rw [Memory.wf_iff]
    exact ⟨wf_filter _ h.1, wf_filter _ h.2.1, hp, h.2.2.2⟩
  clear_value d1
  have h2 : Memory.wf d2 = true :=
    (SameStored.foldl (f := put) (fun a x => SameStored.foldl (fun a i => SameStored.setN a _ _ _ _) (List.range x.2.1) a) _ _).wf h1
  clear_value d2
  have h3 : Memory.wf d3 = true := (SameStored.foldl (fun a i => SameStored.setN a _ _ _ _) (List.range 32) d2).wf h2
  clear_value d3 accs planes window tiles
  have h4 : SameStored d3 d4 := ⟨rfl, rfl, rfl, rfl, rfl, rfl, rfl⟩
  exact (SameStored.updStall _ _ _).wf (Memory.wf_storeFillFlip p _ (h4.wf h3))

theorem Memory.wf_copyBank {d : Device} (b : Nat) (h : Memory.wf d = true) : Memory.wf (d.copyBank b) = true := by
  unfold Device.copyBank
  extract_lets size others plain words mem
  refine Memory.wf_depotFillFlip 16 _ ?_
  rw [Memory.wf_iff] at h ⊢
  refine ⟨h.1, h.2.1, h.2.2.1, ?_, h.2.2.2.2⟩
  have nested : ∀ (l : List Remap) (m : KMap CodeWord), KMap.wf 0 m = true → KMap.wf 0 (l.foldl (fun m r => (List.range 8).foldl (fun m' lane =>
      KMap.set m' (depotKey 16 r.addr lane) (carried (d.depotCode b r.addr lane)) 0) m) m) = true := by
    intro l
    induction l with
    | nil => intro m hm; exact hm
    | cons r l ih => intro m hm; exact ih _ (wf_foldl_set _ _ _ hm)
  exact nested _ _ (wf_foldl_set _ _ _ (wf_filter _ h.2.2.2.1))

end

/-! ### A read after a write -/

/-- Storing a codeword under a flip mask of zero: the word reads as it was written, in the place that reads use (R408, R410). -/
theorem Device.storeCode_storePutCode (d : Device) (p wa : Nat) (c : CodeWord)
    (hf : d.rf LDG 0 0x130 0 13 ≠ p ∨ d.storeFlip = 0) : (d.storePutCode p wa c).storeCode p wa = c := by
  have hc : (if decide (d.rf LDG 0 0x130 0 13 = p) = true then c ^^^ d.storeFlip else c) = c := by
    rcases hf with hf | hf <;> simp [hf]
  unfold Device.storePutCode Device.storeCode
  simp only [hc]
  have hs : ∀ e : Device, e = (if decide (d.rf LDG 0 0x130 0 13 = p) = true then
      ((d.setN LDG 0 0x134 0).setN LDG 0 0x138 0).setN LDG 0 0x13C 0 else d) → e.stalls = d.stalls := by
    intro e he; subst he; split <;> rfl
  cases ha : activeSpare (d.stall p).remaps wa with
  | some s =>
    have : ∀ e : Device, e.stalls = d.stalls → activeSpare (e.stall p).remaps wa = some s := by
      intro e he; simp only [Device.stall, he]; exact ha
    simp only []
    rw [this _ (by split <;> rfl)]
    exact KMap.get_set_same _ _ _ _
  | none =>
    have : ∀ e : Device, e.stalls = d.stalls → activeSpare (e.stall p).remaps wa = none := by
      intro e he; simp only [Device.stall, he]; exact ha
    simp only []
    cases hp : pendingSpare (d.stall p).remaps wa with
    | some s => simp only []; rw [this _ (by split <;> rfl)]; exact KMap.get_set_same _ _ _ _
    | none => simp only []; rw [this _ (by split <;> rfl)]; exact KMap.get_set_same _ _ _ _

end Sys2Proof.Machine
end

