-- ==== Sys2Proof/Laws/State.lean ====
section
/-! SUPPORT. For each update of the device, what each field holds after it: a lemma per field that the update leaves alone. -/

namespace Sys2Proof.Machine.Device

variable (d : Device)

/-! setReg -/

@[simp] theorem setReg_now (b u o : Nat) (v : Word) : (d.setReg b u o v).now = d.now := rfl
@[simp] theorem setReg_work (b u o : Nat) (v : Word) : (d.setReg b u o v).work = d.work := rfl
@[simp] theorem setReg_twins (b u o : Nat) (v : Word) : (d.setReg b u o v).twins = d.twins := rfl
@[simp] theorem setReg_fresh (b u o : Nat) (v : Word) : (d.setReg b u o v).fresh = d.fresh := rfl
@[simp] theorem setReg_newFaults (b u o : Nat) (v : Word) : (d.setReg b u o v).newFaults = d.newFaults := rfl
@[simp] theorem setReg_frees (b u o : Nat) (v : Word) : (d.setReg b u o v).frees = d.frees := rfl
@[simp] theorem setReg_reply (b u o : Nat) (v : Word) : (d.setReg b u o v).reply = d.reply := rfl
@[simp] theorem setReg_outbox (b u o : Nat) (v : Word) : (d.setReg b u o v).outbox = d.outbox := rfl
@[simp] theorem setReg_stalls (b u o : Nat) (v : Word) : (d.setReg b u o v).stalls = d.stalls := rfl
@[simp] theorem setReg_store (b u o : Nat) (v : Word) : (d.setReg b u o v).store = d.store := rfl
@[simp] theorem setReg_storeSpare (b u o : Nat) (v : Word) : (d.setReg b u o v).storeSpare = d.storeSpare := rfl
@[simp] theorem setReg_prog (b u o : Nat) (v : Word) : (d.setReg b u o v).prog = d.prog := rfl
@[simp] theorem setReg_arcade (b u o : Nat) (v : Word) : (d.setReg b u o v).arcade = d.arcade := rfl
@[simp] theorem setReg_bell (b u o : Nat) (v : Word) : (d.setReg b u o v).bell = d.bell := rfl
@[simp] theorem setReg_loader (b u o : Nat) (v : Word) : (d.setReg b u o v).loader = d.loader := rfl
@[simp] theorem setReg_wbr (b u o : Nat) (v : Word) : (d.setReg b u o v).wbr = d.wbr := rfl
@[simp] theorem setReg_depot (b u o : Nat) (v : Word) : (d.setReg b u o v).depot = d.depot := rfl
@[simp] theorem setReg_sth (b u o : Nat) (v : Word) : (d.setReg b u o v).sth = d.sth := rfl
@[simp] theorem setReg_clerk (b u o : Nat) (v : Word) : (d.setReg b u o v).clerk = d.clerk := rfl
@[simp] theorem setReg_chans (b u o : Nat) (v : Word) : (d.setReg b u o v).chans = d.chans := rfl
@[simp] theorem setReg_ledger (b u o : Nat) (v : Word) : (d.setReg b u o v).ledger = d.ledger := rfl
@[simp] theorem setReg_scrub (b u o : Nat) (v : Word) : (d.setReg b u o v).scrub = d.scrub := rfl
@[simp] theorem setReg_gate (b u o : Nat) (v : Word) : (d.setReg b u o v).gate = d.gate := rfl
@[simp] theorem setReg_crier (b u o : Nat) (v : Word) : (d.setReg b u o v).crier = d.crier := rfl
@[simp] theorem setReg_aisles (b u o : Nat) (v : Word) : (d.setReg b u o v).aisles = d.aisles := rfl
@[simp] theorem setReg_host (b u o : Nat) (v : Word) : (d.setReg b u o v).host = d.host := rfl
@[simp] theorem setReg_trestle (b u o : Nat) (v : Word) : (d.setReg b u o v).trestle = d.trestle := rfl
@[simp] theorem setReg_warden (b u o : Nat) (v : Word) : (d.setReg b u o v).warden = d.warden := rfl
@[simp] theorem setReg_steward (b u o : Nat) (v : Word) : (d.setReg b u o v).steward = d.steward := rfl
@[simp] theorem setReg_reserve (b u o : Nat) (v : Word) : (d.setReg b u o v).reserve = d.reserve := rfl
@[simp] theorem setReg_boot (b u o : Nat) (v : Word) : (d.setReg b u o v).boot = d.boot := rfl
@[simp] theorem setReg_jtag (b u o : Nat) (v : Word) : (d.setReg b u o v).jtag = d.jtag := rfl

/-! emit -/

@[simp] theorem emit_now (o : Output) : (d.emit o).now = d.now := rfl
@[simp] theorem emit_work (o : Output) : (d.emit o).work = d.work := rfl
@[simp] theorem emit_regs (o : Output) : (d.emit o).regs = d.regs := rfl
@[simp] theorem emit_twins (o : Output) : (d.emit o).twins = d.twins := rfl
@[simp] theorem emit_fresh (o : Output) : (d.emit o).fresh = d.fresh := rfl
@[simp] theorem emit_newFaults (o : Output) : (d.emit o).newFaults = d.newFaults := rfl
@[simp] theorem emit_frees (o : Output) : (d.emit o).frees = d.frees := rfl
@[simp] theorem emit_reply (o : Output) : (d.emit o).reply = d.reply := rfl
@[simp] theorem emit_stalls (o : Output) : (d.emit o).stalls = d.stalls := rfl
@[simp] theorem emit_store (o : Output) : (d.emit o).store = d.store := rfl
@[simp] theorem emit_storeSpare (o : Output) : (d.emit o).storeSpare = d.storeSpare := rfl
@[simp] theorem emit_prog (o : Output) : (d.emit o).prog = d.prog := rfl
@[simp] theorem emit_arcade (o : Output) : (d.emit o).arcade = d.arcade := rfl
@[simp] theorem emit_bell (o : Output) : (d.emit o).bell = d.bell := rfl
@[simp] theorem emit_loader (o : Output) : (d.emit o).loader = d.loader := rfl
@[simp] theorem emit_wbr (o : Output) : (d.emit o).wbr = d.wbr := rfl
@[simp] theorem emit_depot (o : Output) : (d.emit o).depot = d.depot := rfl
@[simp] theorem emit_sth (o : Output) : (d.emit o).sth = d.sth := rfl
@[simp] theorem emit_clerk (o : Output) : (d.emit o).clerk = d.clerk := rfl
@[simp] theorem emit_chans (o : Output) : (d.emit o).chans = d.chans := rfl
@[simp] theorem emit_ledger (o : Output) : (d.emit o).ledger = d.ledger := rfl
@[simp] theorem emit_scrub (o : Output) : (d.emit o).scrub = d.scrub := rfl
@[simp] theorem emit_gate (o : Output) : (d.emit o).gate = d.gate := rfl
@[simp] theorem emit_crier (o : Output) : (d.emit o).crier = d.crier := rfl
@[simp] theorem emit_aisles (o : Output) : (d.emit o).aisles = d.aisles := rfl
@[simp] theorem emit_host (o : Output) : (d.emit o).host = d.host := rfl
@[simp] theorem emit_trestle (o : Output) : (d.emit o).trestle = d.trestle := rfl
@[simp] theorem emit_warden (o : Output) : (d.emit o).warden = d.warden := rfl
@[simp] theorem emit_steward (o : Output) : (d.emit o).steward = d.steward := rfl
@[simp] theorem emit_reserve (o : Output) : (d.emit o).reserve = d.reserve := rfl
@[simp] theorem emit_boot (o : Output) : (d.emit o).boot = d.boot := rfl
@[simp] theorem emit_jtag (o : Output) : (d.emit o).jtag = d.jtag := rfl

/-! useFree -/

@[simp] theorem useFree_now : d.useFree.now = d.now := rfl
@[simp] theorem useFree_work : d.useFree.work = d.work := rfl
@[simp] theorem useFree_regs : d.useFree.regs = d.regs := rfl
@[simp] theorem useFree_twins : d.useFree.twins = d.twins := rfl
@[simp] theorem useFree_fresh : d.useFree.fresh = d.fresh := rfl
@[simp] theorem useFree_newFaults : d.useFree.newFaults = d.newFaults := rfl
@[simp] theorem useFree_reply : d.useFree.reply = d.reply := rfl
@[simp] theorem useFree_outbox : d.useFree.outbox = d.outbox := rfl
@[simp] theorem useFree_stalls : d.useFree.stalls = d.stalls := rfl
@[simp] theorem useFree_store : d.useFree.store = d.store := rfl
@[simp] theorem useFree_storeSpare : d.useFree.storeSpare = d.storeSpare := rfl
@[simp] theorem useFree_prog : d.useFree.prog = d.prog := rfl
@[simp] theorem useFree_arcade : d.useFree.arcade = d.arcade := rfl
@[simp] theorem useFree_bell : d.useFree.bell = d.bell := rfl
@[simp] theorem useFree_loader : d.useFree.loader = d.loader := rfl
@[simp] theorem useFree_wbr : d.useFree.wbr = d.wbr := rfl
@[simp] theorem useFree_depot : d.useFree.depot = d.depot := rfl
@[simp] theorem useFree_sth : d.useFree.sth = d.sth := rfl
@[simp] theorem useFree_clerk : d.useFree.clerk = d.clerk := rfl
@[simp] theorem useFree_chans : d.useFree.chans = d.chans := rfl
@[simp] theorem useFree_ledger : d.useFree.ledger = d.ledger := rfl
@[simp] theorem useFree_scrub : d.useFree.scrub = d.scrub := rfl
@[simp] theorem useFree_gate : d.useFree.gate = d.gate := rfl
@[simp] theorem useFree_crier : d.useFree.crier = d.crier := rfl
@[simp] theorem useFree_aisles : d.useFree.aisles = d.aisles := rfl
@[simp] theorem useFree_host : d.useFree.host = d.host := rfl
@[simp] theorem useFree_trestle : d.useFree.trestle = d.trestle := rfl
@[simp] theorem useFree_warden : d.useFree.warden = d.warden := rfl
@[simp] theorem useFree_steward : d.useFree.steward = d.steward := rfl
@[simp] theorem useFree_reserve : d.useFree.reserve = d.reserve := rfl
@[simp] theorem useFree_boot : d.useFree.boot = d.boot := rfl
@[simp] theorem useFree_jtag : d.useFree.jtag = d.jtag := rfl

/-! setStall -/

@[simp] theorem setStall_now (p : Nat) (x : Stall) : (d.setStall p x).now = d.now := rfl
@[simp] theorem setStall_work (p : Nat) (x : Stall) : (d.setStall p x).work = d.work := rfl
@[simp] theorem setStall_regs (p : Nat) (x : Stall) : (d.setStall p x).regs = d.regs := rfl
@[simp] theorem setStall_twins (p : Nat) (x : Stall) : (d.setStall p x).twins = d.twins := rfl
@[simp] theorem setStall_fresh (p : Nat) (x : Stall) : (d.setStall p x).fresh = d.fresh := rfl
@[simp] theorem setStall_newFaults (p : Nat) (x : Stall) : (d.setStall p x).newFaults = d.newFaults := rfl
@[simp] theorem setStall_frees (p : Nat) (x : Stall) : (d.setStall p x).frees = d.frees := rfl
@[simp] theorem setStall_reply (p : Nat) (x : Stall) : (d.setStall p x).reply = d.reply := rfl
@[simp] theorem setStall_outbox (p : Nat) (x : Stall) : (d.setStall p x).outbox = d.outbox := rfl
@[simp] theorem setStall_store (p : Nat) (x : Stall) : (d.setStall p x).store = d.store := rfl
@[simp] theorem setStall_storeSpare (p : Nat) (x : Stall) : (d.setStall p x).storeSpare = d.storeSpare := rfl
@[simp] theorem setStall_prog (p : Nat) (x : Stall) : (d.setStall p x).prog = d.prog := rfl
@[simp] theorem setStall_arcade (p : Nat) (x : Stall) : (d.setStall p x).arcade = d.arcade := rfl
@[simp] theorem setStall_bell (p : Nat) (x : Stall) : (d.setStall p x).bell = d.bell := rfl
@[simp] theorem setStall_loader (p : Nat) (x : Stall) : (d.setStall p x).loader = d.loader := rfl
@[simp] theorem setStall_wbr (p : Nat) (x : Stall) : (d.setStall p x).wbr = d.wbr := rfl
@[simp] theorem setStall_depot (p : Nat) (x : Stall) : (d.setStall p x).depot = d.depot := rfl
@[simp] theorem setStall_sth (p : Nat) (x : Stall) : (d.setStall p x).sth = d.sth := rfl
@[simp] theorem setStall_clerk (p : Nat) (x : Stall) : (d.setStall p x).clerk = d.clerk := rfl
@[simp] theorem setStall_chans (p : Nat) (x : Stall) : (d.setStall p x).chans = d.chans := rfl
@[simp] theorem setStall_ledger (p : Nat) (x : Stall) : (d.setStall p x).ledger = d.ledger := rfl
@[simp] theorem setStall_scrub (p : Nat) (x : Stall) : (d.setStall p x).scrub = d.scrub := rfl
@[simp] theorem setStall_gate (p : Nat) (x : Stall) : (d.setStall p x).gate = d.gate := rfl
@[simp] theorem setStall_crier (p : Nat) (x : Stall) : (d.setStall p x).crier = d.crier := rfl
@[simp] theorem setStall_aisles (p : Nat) (x : Stall) : (d.setStall p x).aisles = d.aisles := rfl
@[simp] theorem setStall_host (p : Nat) (x : Stall) : (d.setStall p x).host = d.host := rfl
@[simp] theorem setStall_trestle (p : Nat) (x : Stall) : (d.setStall p x).trestle = d.trestle := rfl
@[simp] theorem setStall_warden (p : Nat) (x : Stall) : (d.setStall p x).warden = d.warden := rfl
@[simp] theorem setStall_steward (p : Nat) (x : Stall) : (d.setStall p x).steward = d.steward := rfl
@[simp] theorem setStall_reserve (p : Nat) (x : Stall) : (d.setStall p x).reserve = d.reserve := rfl
@[simp] theorem setStall_boot (p : Nat) (x : Stall) : (d.setStall p x).boot = d.boot := rfl
@[simp] theorem setStall_jtag (p : Nat) (x : Stall) : (d.setStall p x).jtag = d.jtag := rfl

/-! setEgress -/

@[simp] theorem setEgress_now (e : Nat) (x : Egress) : (d.setEgress e x).now = d.now := rfl
@[simp] theorem setEgress_work (e : Nat) (x : Egress) : (d.setEgress e x).work = d.work := rfl
@[simp] theorem setEgress_regs (e : Nat) (x : Egress) : (d.setEgress e x).regs = d.regs := rfl
@[simp] theorem setEgress_twins (e : Nat) (x : Egress) : (d.setEgress e x).twins = d.twins := rfl
@[simp] theorem setEgress_fresh (e : Nat) (x : Egress) : (d.setEgress e x).fresh = d.fresh := rfl
@[simp] theorem setEgress_newFaults (e : Nat) (x : Egress) : (d.setEgress e x).newFaults = d.newFaults := rfl
@[simp] theorem setEgress_frees (e : Nat) (x : Egress) : (d.setEgress e x).frees = d.frees := rfl
@[simp] theorem setEgress_reply (e : Nat) (x : Egress) : (d.setEgress e x).reply = d.reply := rfl
@[simp] theorem setEgress_outbox (e : Nat) (x : Egress) : (d.setEgress e x).outbox = d.outbox := rfl
@[simp] theorem setEgress_stalls (e : Nat) (x : Egress) : (d.setEgress e x).stalls = d.stalls := rfl
@[simp] theorem setEgress_store (e : Nat) (x : Egress) : (d.setEgress e x).store = d.store := rfl
@[simp] theorem setEgress_storeSpare (e : Nat) (x : Egress) : (d.setEgress e x).storeSpare = d.storeSpare := rfl
@[simp] theorem setEgress_prog (e : Nat) (x : Egress) : (d.setEgress e x).prog = d.prog := rfl
@[simp] theorem setEgress_bell (e : Nat) (x : Egress) : (d.setEgress e x).bell = d.bell := rfl
@[simp] theorem setEgress_loader (e : Nat) (x : Egress) : (d.setEgress e x).loader = d.loader := rfl
@[simp] theorem setEgress_wbr (e : Nat) (x : Egress) : (d.setEgress e x).wbr = d.wbr := rfl
@[simp] theorem setEgress_depot (e : Nat) (x : Egress) : (d.setEgress e x).depot = d.depot := rfl
@[simp] theorem setEgress_sth (e : Nat) (x : Egress) : (d.setEgress e x).sth = d.sth := rfl
@[simp] theorem setEgress_clerk (e : Nat) (x : Egress) : (d.setEgress e x).clerk = d.clerk := rfl
@[simp] theorem setEgress_chans (e : Nat) (x : Egress) : (d.setEgress e x).chans = d.chans := rfl
@[simp] theorem setEgress_ledger (e : Nat) (x : Egress) : (d.setEgress e x).ledger = d.ledger := rfl
@[simp] theorem setEgress_scrub (e : Nat) (x : Egress) : (d.setEgress e x).scrub = d.scrub := rfl
@[simp] theorem setEgress_gate (e : Nat) (x : Egress) : (d.setEgress e x).gate = d.gate := rfl
@[simp] theorem setEgress_crier (e : Nat) (x : Egress) : (d.setEgress e x).crier = d.crier := rfl
@[simp] theorem setEgress_aisles (e : Nat) (x : Egress) : (d.setEgress e x).aisles = d.aisles := rfl
@[simp] theorem setEgress_host (e : Nat) (x : Egress) : (d.setEgress e x).host = d.host := rfl
@[simp] theorem setEgress_trestle (e : Nat) (x : Egress) : (d.setEgress e x).trestle = d.trestle := rfl
@[simp] theorem setEgress_warden (e : Nat) (x : Egress) : (d.setEgress e x).warden = d.warden := rfl
@[simp] theorem setEgress_steward (e : Nat) (x : Egress) : (d.setEgress e x).steward = d.steward := rfl
@[simp] theorem setEgress_reserve (e : Nat) (x : Egress) : (d.setEgress e x).reserve = d.reserve := rfl
@[simp] theorem setEgress_boot (e : Nat) (x : Egress) : (d.setEgress e x).boot = d.boot := rfl
@[simp] theorem setEgress_jtag (e : Nat) (x : Egress) : (d.setEgress e x).jtag = d.jtag := rfl

/-! setChan -/

@[simp] theorem setChan_now (c : Nat) (x : Chan) : (d.setChan c x).now = d.now := rfl
@[simp] theorem setChan_work (c : Nat) (x : Chan) : (d.setChan c x).work = d.work := rfl
@[simp] theorem setChan_regs (c : Nat) (x : Chan) : (d.setChan c x).regs = d.regs := rfl
@[simp] theorem setChan_twins (c : Nat) (x : Chan) : (d.setChan c x).twins = d.twins := rfl
@[simp] theorem setChan_fresh (c : Nat) (x : Chan) : (d.setChan c x).fresh = d.fresh := rfl
@[simp] theorem setChan_newFaults (c : Nat) (x : Chan) : (d.setChan c x).newFaults = d.newFaults := rfl
@[simp] theorem setChan_frees (c : Nat) (x : Chan) : (d.setChan c x).frees = d.frees := rfl
@[simp] theorem setChan_reply (c : Nat) (x : Chan) : (d.setChan c x).reply = d.reply := rfl
@[simp] theorem setChan_outbox (c : Nat) (x : Chan) : (d.setChan c x).outbox = d.outbox := rfl
@[simp] theorem setChan_stalls (c : Nat) (x : Chan) : (d.setChan c x).stalls = d.stalls := rfl
@[simp] theorem setChan_store (c : Nat) (x : Chan) : (d.setChan c x).store = d.store := rfl
@[simp] theorem setChan_storeSpare (c : Nat) (x : Chan) : (d.setChan c x).storeSpare = d.storeSpare := rfl
@[simp] theorem setChan_prog (c : Nat) (x : Chan) : (d.setChan c x).prog = d.prog := rfl
@[simp] theorem setChan_arcade (c : Nat) (x : Chan) : (d.setChan c x).arcade = d.arcade := rfl
@[simp] theorem setChan_bell (c : Nat) (x : Chan) : (d.setChan c x).bell = d.bell := rfl
@[simp] theorem setChan_loader (c : Nat) (x : Chan) : (d.setChan c x).loader = d.loader := rfl
@[simp] theorem setChan_wbr (c : Nat) (x : Chan) : (d.setChan c x).wbr = d.wbr := rfl
@[simp] theorem setChan_depot (c : Nat) (x : Chan) : (d.setChan c x).depot = d.depot := rfl
@[simp] theorem setChan_sth (c : Nat) (x : Chan) : (d.setChan c x).sth = d.sth := rfl
@[simp] theorem setChan_clerk (c : Nat) (x : Chan) : (d.setChan c x).clerk = d.clerk := rfl
@[simp] theorem setChan_ledger (c : Nat) (x : Chan) : (d.setChan c x).ledger = d.ledger := rfl
@[simp] theorem setChan_scrub (c : Nat) (x : Chan) : (d.setChan c x).scrub = d.scrub := rfl
@[simp] theorem setChan_gate (c : Nat) (x : Chan) : (d.setChan c x).gate = d.gate := rfl
@[simp] theorem setChan_crier (c : Nat) (x : Chan) : (d.setChan c x).crier = d.crier := rfl
@[simp] theorem setChan_aisles (c : Nat) (x : Chan) : (d.setChan c x).aisles = d.aisles := rfl
@[simp] theorem setChan_host (c : Nat) (x : Chan) : (d.setChan c x).host = d.host := rfl
@[simp] theorem setChan_trestle (c : Nat) (x : Chan) : (d.setChan c x).trestle = d.trestle := rfl
@[simp] theorem setChan_warden (c : Nat) (x : Chan) : (d.setChan c x).warden = d.warden := rfl
@[simp] theorem setChan_steward (c : Nat) (x : Chan) : (d.setChan c x).steward = d.steward := rfl
@[simp] theorem setChan_reserve (c : Nat) (x : Chan) : (d.setChan c x).reserve = d.reserve := rfl
@[simp] theorem setChan_boot (c : Nat) (x : Chan) : (d.setChan c x).boot = d.boot := rfl
@[simp] theorem setChan_jtag (c : Nat) (x : Chan) : (d.setChan c x).jtag = d.jtag := rfl

/-! setStream -/

@[simp] theorem setStream_now (s : Nat) (x : Stream) : (d.setStream s x).now = d.now := rfl
@[simp] theorem setStream_work (s : Nat) (x : Stream) : (d.setStream s x).work = d.work := rfl
@[simp] theorem setStream_regs (s : Nat) (x : Stream) : (d.setStream s x).regs = d.regs := rfl
@[simp] theorem setStream_twins (s : Nat) (x : Stream) : (d.setStream s x).twins = d.twins := rfl
@[simp] theorem setStream_fresh (s : Nat) (x : Stream) : (d.setStream s x).fresh = d.fresh := rfl
@[simp] theorem setStream_newFaults (s : Nat) (x : Stream) : (d.setStream s x).newFaults = d.newFaults := rfl
@[simp] theorem setStream_frees (s : Nat) (x : Stream) : (d.setStream s x).frees = d.frees := rfl
@[simp] theorem setStream_reply (s : Nat) (x : Stream) : (d.setStream s x).reply = d.reply := rfl
@[simp] theorem setStream_outbox (s : Nat) (x : Stream) : (d.setStream s x).outbox = d.outbox := rfl
@[simp] theorem setStream_stalls (s : Nat) (x : Stream) : (d.setStream s x).stalls = d.stalls := rfl
@[simp] theorem setStream_store (s : Nat) (x : Stream) : (d.setStream s x).store = d.store := rfl
@[simp] theorem setStream_storeSpare (s : Nat) (x : Stream) : (d.setStream s x).storeSpare = d.storeSpare := rfl
@[simp] theorem setStream_prog (s : Nat) (x : Stream) : (d.setStream s x).prog = d.prog := rfl
@[simp] theorem setStream_arcade (s : Nat) (x : Stream) : (d.setStream s x).arcade = d.arcade := rfl
@[simp] theorem setStream_bell (s : Nat) (x : Stream) : (d.setStream s x).bell = d.bell := rfl
@[simp] theorem setStream_loader (s : Nat) (x : Stream) : (d.setStream s x).loader = d.loader := rfl
@[simp] theorem setStream_wbr (s : Nat) (x : Stream) : (d.setStream s x).wbr = d.wbr := rfl
@[simp] theorem setStream_depot (s : Nat) (x : Stream) : (d.setStream s x).depot = d.depot := rfl
@[simp] theorem setStream_sth (s : Nat) (x : Stream) : (d.setStream s x).sth = d.sth := rfl
@[simp] theorem setStream_clerk (s : Nat) (x : Stream) : (d.setStream s x).clerk = d.clerk := rfl
@[simp] theorem setStream_chans (s : Nat) (x : Stream) : (d.setStream s x).chans = d.chans := rfl
@[simp] theorem setStream_ledger (s : Nat) (x : Stream) : (d.setStream s x).ledger = d.ledger := rfl
@[simp] theorem setStream_scrub (s : Nat) (x : Stream) : (d.setStream s x).scrub = d.scrub := rfl
@[simp] theorem setStream_crier (s : Nat) (x : Stream) : (d.setStream s x).crier = d.crier := rfl
@[simp] theorem setStream_aisles (s : Nat) (x : Stream) : (d.setStream s x).aisles = d.aisles := rfl
@[simp] theorem setStream_host (s : Nat) (x : Stream) : (d.setStream s x).host = d.host := rfl
@[simp] theorem setStream_trestle (s : Nat) (x : Stream) : (d.setStream s x).trestle = d.trestle := rfl
@[simp] theorem setStream_warden (s : Nat) (x : Stream) : (d.setStream s x).warden = d.warden := rfl
@[simp] theorem setStream_steward (s : Nat) (x : Stream) : (d.setStream s x).steward = d.steward := rfl
@[simp] theorem setStream_reserve (s : Nat) (x : Stream) : (d.setStream s x).reserve = d.reserve := rfl
@[simp] theorem setStream_boot (s : Nat) (x : Stream) : (d.setStream s x).boot = d.boot := rfl
@[simp] theorem setStream_jtag (s : Nat) (x : Stream) : (d.setStream s x).jtag = d.jtag := rfl

/-! setRing -/

@[simp] theorem setRing_now (r : Nat) (x : Ring) : (d.setRing r x).now = d.now := rfl
@[simp] theorem setRing_work (r : Nat) (x : Ring) : (d.setRing r x).work = d.work := rfl
@[simp] theorem setRing_regs (r : Nat) (x : Ring) : (d.setRing r x).regs = d.regs := rfl
@[simp] theorem setRing_twins (r : Nat) (x : Ring) : (d.setRing r x).twins = d.twins := rfl
@[simp] theorem setRing_fresh (r : Nat) (x : Ring) : (d.setRing r x).fresh = d.fresh := rfl
@[simp] theorem setRing_newFaults (r : Nat) (x : Ring) : (d.setRing r x).newFaults = d.newFaults := rfl
@[simp] theorem setRing_frees (r : Nat) (x : Ring) : (d.setRing r x).frees = d.frees := rfl
@[simp] theorem setRing_reply (r : Nat) (x : Ring) : (d.setRing r x).reply = d.reply := rfl
@[simp] theorem setRing_outbox (r : Nat) (x : Ring) : (d.setRing r x).outbox = d.outbox := rfl
@[simp] theorem setRing_stalls (r : Nat) (x : Ring) : (d.setRing r x).stalls = d.stalls := rfl
@[simp] theorem setRing_store (r : Nat) (x : Ring) : (d.setRing r x).store = d.store := rfl
@[simp] theorem setRing_storeSpare (r : Nat) (x : Ring) : (d.setRing r x).storeSpare = d.storeSpare := rfl
@[simp] theorem setRing_prog (r : Nat) (x : Ring) : (d.setRing r x).prog = d.prog := rfl
@[simp] theorem setRing_arcade (r : Nat) (x : Ring) : (d.setRing r x).arcade = d.arcade := rfl
@[simp] theorem setRing_bell (r : Nat) (x : Ring) : (d.setRing r x).bell = d.bell := rfl
@[simp] theorem setRing_loader (r : Nat) (x : Ring) : (d.setRing r x).loader = d.loader := rfl
@[simp] theorem setRing_wbr (r : Nat) (x : Ring) : (d.setRing r x).wbr = d.wbr := rfl
@[simp] theorem setRing_depot (r : Nat) (x : Ring) : (d.setRing r x).depot = d.depot := rfl
@[simp] theorem setRing_sth (r : Nat) (x : Ring) : (d.setRing r x).sth = d.sth := rfl
@[simp] theorem setRing_clerk (r : Nat) (x : Ring) : (d.setRing r x).clerk = d.clerk := rfl
@[simp] theorem setRing_chans (r : Nat) (x : Ring) : (d.setRing r x).chans = d.chans := rfl
@[simp] theorem setRing_ledger (r : Nat) (x : Ring) : (d.setRing r x).ledger = d.ledger := rfl
@[simp] theorem setRing_scrub (r : Nat) (x : Ring) : (d.setRing r x).scrub = d.scrub := rfl
@[simp] theorem setRing_gate (r : Nat) (x : Ring) : (d.setRing r x).gate = d.gate := rfl
@[simp] theorem setRing_crier (r : Nat) (x : Ring) : (d.setRing r x).crier = d.crier := rfl
@[simp] theorem setRing_aisles (r : Nat) (x : Ring) : (d.setRing r x).aisles = d.aisles := rfl
@[simp] theorem setRing_trestle (r : Nat) (x : Ring) : (d.setRing r x).trestle = d.trestle := rfl
@[simp] theorem setRing_warden (r : Nat) (x : Ring) : (d.setRing r x).warden = d.warden := rfl
@[simp] theorem setRing_steward (r : Nat) (x : Ring) : (d.setRing r x).steward = d.steward := rfl
@[simp] theorem setRing_reserve (r : Nat) (x : Ring) : (d.setRing r x).reserve = d.reserve := rfl
@[simp] theorem setRing_boot (r : Nat) (x : Ring) : (d.setRing r x).boot = d.boot := rfl
@[simp] theorem setRing_jtag (r : Nat) (x : Ring) : (d.setRing r x).jtag = d.jtag := rfl

/-! setLink -/

@[simp] theorem setLink_now (l : Nat) (x : Link) : (d.setLink l x).now = d.now := rfl
@[simp] theorem setLink_work (l : Nat) (x : Link) : (d.setLink l x).work = d.work := rfl
@[simp] theorem setLink_regs (l : Nat) (x : Link) : (d.setLink l x).regs = d.regs := rfl
@[simp] theorem setLink_twins (l : Nat) (x : Link) : (d.setLink l x).twins = d.twins := rfl
@[simp] theorem setLink_fresh (l : Nat) (x : Link) : (d.setLink l x).fresh = d.fresh := rfl
@[simp] theorem setLink_newFaults (l : Nat) (x : Link) : (d.setLink l x).newFaults = d.newFaults := rfl
@[simp] theorem setLink_frees (l : Nat) (x : Link) : (d.setLink l x).frees = d.frees := rfl
@[simp] theorem setLink_reply (l : Nat) (x : Link) : (d.setLink l x).reply = d.reply := rfl
@[simp] theorem setLink_outbox (l : Nat) (x : Link) : (d.setLink l x).outbox = d.outbox := rfl
@[simp] theorem setLink_stalls (l : Nat) (x : Link) : (d.setLink l x).stalls = d.stalls := rfl
@[simp] theorem setLink_store (l : Nat) (x : Link) : (d.setLink l x).store = d.store := rfl
@[simp] theorem setLink_storeSpare (l : Nat) (x : Link) : (d.setLink l x).storeSpare = d.storeSpare := rfl
@[simp] theorem setLink_prog (l : Nat) (x : Link) : (d.setLink l x).prog = d.prog := rfl
@[simp] theorem setLink_arcade (l : Nat) (x : Link) : (d.setLink l x).arcade = d.arcade := rfl
@[simp] theorem setLink_bell (l : Nat) (x : Link) : (d.setLink l x).bell = d.bell := rfl
@[simp] theorem setLink_loader (l : Nat) (x : Link) : (d.setLink l x).loader = d.loader := rfl
@[simp] theorem setLink_wbr (l : Nat) (x : Link) : (d.setLink l x).wbr = d.wbr := rfl
@[simp] theorem setLink_depot (l : Nat) (x : Link) : (d.setLink l x).depot = d.depot := rfl
@[simp] theorem setLink_sth (l : Nat) (x : Link) : (d.setLink l x).sth = d.sth := rfl
@[simp] theorem setLink_clerk (l : Nat) (x : Link) : (d.setLink l x).clerk = d.clerk := rfl
@[simp] theorem setLink_chans (l : Nat) (x : Link) : (d.setLink l x).chans = d.chans := rfl
@[simp] theorem setLink_ledger (l : Nat) (x : Link) : (d.setLink l x).ledger = d.ledger := rfl
@[simp] theorem setLink_scrub (l : Nat) (x : Link) : (d.setLink l x).scrub = d.scrub := rfl
@[simp] theorem setLink_gate (l : Nat) (x : Link) : (d.setLink l x).gate = d.gate := rfl
@[simp] theorem setLink_crier (l : Nat) (x : Link) : (d.setLink l x).crier = d.crier := rfl
@[simp] theorem setLink_host (l : Nat) (x : Link) : (d.setLink l x).host = d.host := rfl
@[simp] theorem setLink_trestle (l : Nat) (x : Link) : (d.setLink l x).trestle = d.trestle := rfl
@[simp] theorem setLink_warden (l : Nat) (x : Link) : (d.setLink l x).warden = d.warden := rfl
@[simp] theorem setLink_steward (l : Nat) (x : Link) : (d.setLink l x).steward = d.steward := rfl
@[simp] theorem setLink_reserve (l : Nat) (x : Link) : (d.setLink l x).reserve = d.reserve := rfl
@[simp] theorem setLink_boot (l : Nat) (x : Link) : (d.setLink l x).boot = d.boot := rfl
@[simp] theorem setLink_jtag (l : Nat) (x : Link) : (d.setLink l x).jtag = d.jtag := rfl

/-! setSeg -/

@[simp] theorem setSeg_now (g : Nat) (x : Segment) : (d.setSeg g x).now = d.now := rfl
@[simp] theorem setSeg_work (g : Nat) (x : Segment) : (d.setSeg g x).work = d.work := rfl
@[simp] theorem setSeg_regs (g : Nat) (x : Segment) : (d.setSeg g x).regs = d.regs := rfl
@[simp] theorem setSeg_twins (g : Nat) (x : Segment) : (d.setSeg g x).twins = d.twins := rfl
@[simp] theorem setSeg_fresh (g : Nat) (x : Segment) : (d.setSeg g x).fresh = d.fresh := rfl
@[simp] theorem setSeg_newFaults (g : Nat) (x : Segment) : (d.setSeg g x).newFaults = d.newFaults := rfl
@[simp] theorem setSeg_frees (g : Nat) (x : Segment) : (d.setSeg g x).frees = d.frees := rfl
@[simp] theorem setSeg_reply (g : Nat) (x : Segment) : (d.setSeg g x).reply = d.reply := rfl
@[simp] theorem setSeg_outbox (g : Nat) (x : Segment) : (d.setSeg g x).outbox = d.outbox := rfl
@[simp] theorem setSeg_stalls (g : Nat) (x : Segment) : (d.setSeg g x).stalls = d.stalls := rfl
@[simp] theorem setSeg_store (g : Nat) (x : Segment) : (d.setSeg g x).store = d.store := rfl
@[simp] theorem setSeg_storeSpare (g : Nat) (x : Segment) : (d.setSeg g x).storeSpare = d.storeSpare := rfl
@[simp] theorem setSeg_prog (g : Nat) (x : Segment) : (d.setSeg g x).prog = d.prog := rfl
@[simp] theorem setSeg_arcade (g : Nat) (x : Segment) : (d.setSeg g x).arcade = d.arcade := rfl
@[simp] theorem setSeg_bell (g : Nat) (x : Segment) : (d.setSeg g x).bell = d.bell := rfl
@[simp] theorem setSeg_loader (g : Nat) (x : Segment) : (d.setSeg g x).loader = d.loader := rfl
@[simp] theorem setSeg_wbr (g : Nat) (x : Segment) : (d.setSeg g x).wbr = d.wbr := rfl
@[simp] theorem setSeg_depot (g : Nat) (x : Segment) : (d.setSeg g x).depot = d.depot := rfl
@[simp] theorem setSeg_sth (g : Nat) (x : Segment) : (d.setSeg g x).sth = d.sth := rfl
@[simp] theorem setSeg_clerk (g : Nat) (x : Segment) : (d.setSeg g x).clerk = d.clerk := rfl
@[simp] theorem setSeg_chans (g : Nat) (x : Segment) : (d.setSeg g x).chans = d.chans := rfl
@[simp] theorem setSeg_ledger (g : Nat) (x : Segment) : (d.setSeg g x).ledger = d.ledger := rfl
@[simp] theorem setSeg_scrub (g : Nat) (x : Segment) : (d.setSeg g x).scrub = d.scrub := rfl
@[simp] theorem setSeg_gate (g : Nat) (x : Segment) : (d.setSeg g x).gate = d.gate := rfl
@[simp] theorem setSeg_aisles (g : Nat) (x : Segment) : (d.setSeg g x).aisles = d.aisles := rfl
@[simp] theorem setSeg_host (g : Nat) (x : Segment) : (d.setSeg g x).host = d.host := rfl
@[simp] theorem setSeg_trestle (g : Nat) (x : Segment) : (d.setSeg g x).trestle = d.trestle := rfl
@[simp] theorem setSeg_warden (g : Nat) (x : Segment) : (d.setSeg g x).warden = d.warden := rfl
@[simp] theorem setSeg_steward (g : Nat) (x : Segment) : (d.setSeg g x).steward = d.steward := rfl
@[simp] theorem setSeg_reserve (g : Nat) (x : Segment) : (d.setSeg g x).reserve = d.reserve := rfl
@[simp] theorem setSeg_boot (g : Nat) (x : Segment) : (d.setSeg g x).boot = d.boot := rfl
@[simp] theorem setSeg_jtag (g : Nat) (x : Segment) : (d.setSeg g x).jtag = d.jtag := rfl

end Sys2Proof.Machine.Device
end

