-- ==== Sys2Proof/Laws/Ops.lean ====
section
/-! SUPPORT. The shared operations: what a register reads as after a write, what settling a command leaves alone, and everything that
running a command and taking a step can do. -/

namespace Sys2Proof.Machine

/-! ### Registers -/

theorem regKey_inj {b u o b' u' o' : Nat} (hu : u < 8192) (ho : o < 4096) (hu' : u' < 8192) (ho' : o' < 4096) :
    regKey b u o = regKey b' u' o' ↔ b = b' ∧ u = u' ∧ o = o' := by
  unfold regKey; omega

/-- A register after a write: the value written where it was written, and what it held everywhere else. -/
theorem Device.reg_setReg (d : Device) {b u o b' u' o' : Nat} (v : Word) (hu : u < 8192) (ho : o < 4096) (hu' : u' < 8192)
    (ho' : o' < 4096) : (d.setReg b u o v).reg b' u' o' = if b' = b ∧ u' = u ∧ o' = o then v else d.reg b' u' o' := by
  unfold Device.setReg Device.reg
  by_cases h : b' = b ∧ u' = u ∧ o' = o
  · obtain ⟨rfl, rfl, rfl⟩ := h; simp
  · rw [if_neg h]
    have hk : regKey b' u' o' ≠ regKey b u o := fun he => h ((regKey_inj hu' ho' hu ho).mp he)
    simp only [KMap.set]
    split
    · rw [KMap.get_del, if_neg hk]
    · rw [KMap.get_put, if_neg hk]

@[simp] theorem Device.reg_setReg_same (d : Device) (b u o : Nat) (v : Word) : (d.setReg b u o v).reg b u o = v := by
  simp [Device.setReg, Device.reg]

theorem Device.regN_setN_same (d : Device) (b u o v : Nat) (h : v < 2 ^ 32) : (d.setN b u o v).regN b u o = v := by
  unfold Device.setN Device.regN
  rw [Device.reg_setReg_same, BitVec.toNat_ofNat, Nat.mod_eq_of_lt h]

/-- A W1C bit that hardware sets is written in IRQ_RAW of its page and nowhere else. -/
theorem Device.reg_raise (d : Device) (b u bit b' u' o' : Nat) : (d.raise b u bit).reg b' u' o' = (d.setB b u 0x014 bit true).reg b' u' o' := rfl

theorem Device.reg_bumpBy (d : Device) (b u o cap n b' u' o' : Nat) :
    (d.bumpBy b u o cap n).reg b' u' o' = (d.setN b u o (satAdd cap (d.regN b u o) n)).reg b' u' o' := rfl

@[simp] theorem Device.reg_emit (d : Device) (x : Output) (b u o : Nat) : (d.emit x).reg b u o = d.reg b u o := rfl
@[simp] theorem Device.reg_setStall (d : Device) (p : Nat) (x : Stall) (b u o : Nat) : (d.setStall p x).reg b u o = d.reg b u o := rfl
@[simp] theorem Device.stall_setReg (d : Device) (b u o : Nat) (v : Word) (p : Nat) : (d.setReg b u o v).stall p = d.stall p := rfl

/-- A stall after a stall is set. -/
theorem Device.stall_setStall (d : Device) (p q : Nat) (x : Stall) : (d.setStall p x).stall q = if q = p then x else d.stall q :=
  KMap.get_put _ _ _ _ _

/-! ### After a command -/

theorem Device.msix_frame (d : Device) (v : Nat) : ∃ pba o, d.msix v = { d with host := { d.host with pba := pba }, outbox := o } := by
  unfold Device.msix
  split
  · exact ⟨_, d.outbox, rfl⟩
  · exact ⟨d.host.pba, _, rfl⟩

/-- Settling a command touches the pending-bit array, SUM_TYPE as judged last and in this cycle, the wish for attention, and what leaves the
chip. -/
theorem Device.settle_frame (d : Device) : ∃ pba seen attn o,
    d.settle = { d with host := { d.host with pba := pba, lastSum := d.sumType, sumSeen := seen, attn := attn }, outbox := o } := by
  have h : ∀ (c : Nat → Bool) (v : Nat → Nat) (l : List Nat) (d : Device), ∃ pba o,
      l.foldl (fun a t => if c t then a.msix (v t) else a) d
        = { d with host := { d.host with pba := pba }, outbox := o } := by
    intro c v l
    induction l with
    | nil => intro d; exact ⟨d.host.pba, d.outbox, rfl⟩
    | cons t l ih =>
      intro d
      rw [List.foldl_cons]
      by_cases hc : c t
      · obtain ⟨p1, o1, h1⟩ := d.msix_frame (v t)
        obtain ⟨p2, o2, h2⟩ := ih (d.msix (v t))
        rw [if_pos hc, h2, h1]
        exact ⟨p2, o2, rfl⟩
      · rw [if_neg hc]; exact ih d
  unfold Device.settle
  extract_lets new seen up d1 att src
  obtain ⟨pba, o, h1⟩ := h (fun t => up.getLsbD t) (fun t => d.rf HST 0 (0x180 + 4 * t) 0 11) (List.range 32) d
  refine ⟨pba, seen ||| new, att, o, ?_⟩
  have h2 : d1 = { d with host := { d.host with pba := pba }, outbox := o } := h1
  subst src
  clear_value att seen
  rw [h2]

/-- Everything that running a command can do. -/
theorem State.act_cases {s : State} {ok : Bool} {f : Device → Device} {r : Host.Outcome State Fault Refusal} (h : s.act ok f = r) :
    (ok = false ∧ r = .fault .noSuchUnit) ∨ (ok = true ∧ s.dev.boot.held = true ∧ r = .next s)
      ∨ (ok = true ∧ s.dev.boot.held = false ∧ r = .next { s with dev := (f s.dev).settle }) := by
  subst h; unfold State.act
  cases ok <;> cases hb : s.dev.boot.held <;> simp

theorem State.act_ok {s : State} {f : Device → Device} (h : s.dev.boot.held = false) :
    s.act true f = .next { s with dev := (f s.dev).settle } := by simp [State.act, h]

theorem State.actAlways_ok (s : State) (f : Device → Device) : s.actAlways true f = .next { s with dev := (f s.dev).settle } := rfl

theorem State.act_pending {s t : State} {ok : Bool} {f : Device → Device} (h : s.act ok f = .next t) : t.pending = s.pending := by
  rcases State.act_cases h with h | h | h
  · exact absurd h.2 (by simp)
  · simp only [Host.Outcome.next.injEq] at h; rw [h.2.2]
  · simp only [Host.Outcome.next.injEq] at h; rw [h.2.2]

theorem step_nil {s : State} (h : s.pending = []) : step s = .next { s with dev := s.dev.tick.settle } := by simp [step, h]

theorem step_cons {s : State} {c : Instr} {rest : List Instr} (h : s.pending = c :: rest) :
    step s = exec c { s with pending := rest } := by simp [step, h]

end Sys2Proof.Machine
end

