-- ==== Sys2Proof/Laws/PerInstr.lean ====
section
/-! SUPPORT. What holds of each command as syntax: every physical stall that a well-formed command names is one of the 6,400 of the
device (R14, R500). -/

namespace Sys2Proof.Laws

set_option Elab.async false

/-- The physical stalls that a command names. -/
def Names.stalls : Instr → List Nat
  | .registerWrite page _ _ => if page.block = 1 then [page.unit] else []
  | .rcCounterRead _ page _ => if page.block = 1 then [page.unit] else []
  | .faultBitClear page => if page.block = 1 then [page.unit] else []
  | .twinValueWrite page _ _ => if page.block = 1 then [page.unit] else []
  | .twinComplementWrite page _ _ => if page.block = 1 then [page.unit] else []
  | .runStart => []
  | .runStop => []
  | .swHush _ => []
  | .belCountLoRead _ => []
  | .bell => []
  | .guardDecision => []
  | .slotStart _ => []
  | .hushRequestStart _ => []
  | .hushRequestEnd _ => []
  | .hushEnter => []
  | .hushLeave => []
  | .hushTimeout => []
  | .belHalt => []
  | .deadlock => []
  | .nop p => [p]
  | .mac8 p => [p]
  | .mac4 p => [p]
  | .wmac p => [p]
  | .dwmac p => [p]
  | .pmax p => [p]
  | .wxf p => [p]
  | .wadv p => [p]
  | .pfill p => [p]
  | .latch p => [p]
  | .rsc p => [p]
  | .mov p => [p]
  | .ldi p => [p]
  | .alu p => [p]
  | .addi p => [p]
  | .br p => [p]
  | .g8p p => [p]
  | .m8u p => [p]
  | .v8u p => [p]
  | .wupd p => [p]
  | .get p => [p]
  | .put p => [p]
  | .gett p => [p]
  | .djnz p => [p]
  | .brcmp p => [p]
  | .maskedFiring p => [p]
  | .planeFillDone p => [p]
  | .latchFillDone p => [p]
  | .winogradTransformDone p _ => [p]
  | .outputPush p _ => [p]
  | .contextSwitch p => [p]
  | .slotToken p _ => [p]
  | .limitToken p _ => [p]
  | .armToken p _ => [p]
  | .genToken p _ => [p]
  | .voidToken p _ => [p]
  | .invalidToken p _ => [p]
  | .tokenForward p => [p]
  | .drainPop p => [p]
  | .lbFeedStep p => [p]
  | .laneArrive (.basket p _) => [p]
  | .laneArrive (.edge _) => []
  | .creditReturn p _ _ => [p]
  | .spillWrite p _ => [p]
  | .tagWrite p _ => [p]
  | .ringRead p _ => [p]
  | .tagRead p _ => [p]
  | .swapArm => []
  | .swapDisarm => []
  | .swapCheckDone => []
  | .wbrStatsAckRel0 => []
  | .wbrStatsAckRel1 => []
  | .statsReady => []
  | .load => []
  | .loadFull => []
  | .abort => []
  | .loadReady _ => []
  | .stallSwitch p => [p]
  | .stallWritten p => [p]
  | .fullLoadWriteDone => []
  | .loadFailed _ => []
  | .porterGo _ => []
  | .descriptorStart _ => []
  | .descriptorEnd _ => []
  | .porterMove _ => []
  | .lateData _ => []
  | .verdictDeliver _ => []
  | .perBankRefresh _ _ => []
  | .patrolRead _ => []
  | .scrubRead (.stallWord p _) => [p]
  | .scrubRead (.program p _ _) => [p]
  | .scrubRead (.lut p _ _) => [p]
  | .scrubRead (.depotLane _ _ _) => []
  | .scrubRead (.clerkWord _) => []
  | .scrubRead .passEnd => []
  | .ledgerEntryWrite => []
  | .ldgSwCode _ => []
  | .ethernetFrameReceive _ _ => []
  | .reorderTimeout _ => []
  | .decodeDone _ _ _ => []
  | .engineFault _ => []
  | .frameComplete _ => []
  | .flowWrite => []
  | .flowRead => []
  | .streamRead => []
  | .streamReadClear => []
  | .streamAdmit => []
  | .dismiss => []
  | .streamBuffersReleased _ => []
  | .normHiCWrite _ => []
  | .ptpStepNs _ => []
  | .ptpTimeLoRead _ => []
  | .gateTdrStart => []
  | .gateTdrDone _ => []
  | .linkChange _ _ _ => []
  | .crierFrameQueue _ => []
  | .crierTransmit _ _ => []
  | .segmentFrameReceive _ _ => []
  | .plcaOpportunity _ _ => []
  | .dupId _ _ => []
  | .beaconLost _ => []
  | .segmentTdrStart _ => []
  | .termFault _ _ _ => []
  | .flitReceive _ _ => []
  | .replaySlow _ => []
  | .linkDown _ _ => []
  | .linkSilentTimeout _ => []
  | .cellSend _ _ => []
  | .receiveQueueDrain _ => []
  | .hushStart _ => []
  | .hushEnd _ => []
  | .bellMessage _ => []
  | .upReady _ => []
  | .upHalt _ => []
  | .decideMsg _ => []
  | .discover _ => []
  | .eqReq _ => []
  | .bellMiss => []
  | .linkTrain _ => []
  | .linkUp _ _ => []
  | .bar0Access _ _ _ _ => []
  | .bar2Read _ _ => []
  | .bar2Write _ _ _ => []
  | .winSelWrite _ => []
  | .doorbellWrite _ _ => []
  | .parkedDoorbellsApply => []
  | .ringWrite => []
  | .ringEnable => []
  | .ringDisable => []
  | .ringCoalesceTimeout _ => []
  | .hostReset _ => []
  | .hrbBusyBegin => []
  | .hrbBusyEnd => []
  | .attentionPulse => []
  | .trestleStreamWritten => []
  | .configDone => []
  | .gsrForce _ => []
  | .userIrq _ => []
  | .bankVccioSample _ _ => []
  | .bankRelease _ => []
  | .trestlePortWord _ _ => []
  | .crierTxFrame _ _ => []
  | .verify _ => []
  | .report => []
  | .enroll => []
  | .release => []
  | .commitSvn _ => []
  | .resigned => []
  | .railSample _ _ => []
  | .droopDetect _ => []
  | .droopRecover _ => []
  | .droopLong _ => []
  | .thermalSample _ => []
  | .throttlePeriodStart => []
  | .throttleRequestEnd => []
  | .pmbSendByte _ _ _ => []
  | .pmbWriteByte _ _ _ => []
  | .pmbWriteWord _ _ _ => []
  | .pmbReadByte _ _ _ => []
  | .pmbReadWord _ _ _ => []
  | .pmbBlockRead _ _ _ _ => []
  | .pmbDone _ => []
  | .pmbAlert => []
  | .poll _ => []
  | .bist _ => []
  | .bistDone _ => []
  | .add => []
  | .drop => []
  | .wearCount _ _ => []
  | .reserveReload => []
  | .reserveRecordWrite _ => []
  | .powerOnReset => []
  | .perstAssert => []
  | .perstRelease _ => []
  | .pllLockBoot _ => []
  | .supplyHold => []
  | .bootFirmwareStart _ _ => []
  | .storehouseTrained _ => []
  | .prepDone => []
  | .wdogKick _ => []
  | .watchdogExpire => []
  | .stockModeStart => []
  | .dhcpFallback => []
  | .stockAdmit _ _ => []
  | .stockStreamIdle _ => []
  | .jtagUpdateIr _ => []
  | .tapReset => []
  | .bellZeroAtGrid => []
  | .ethernetFrameTransmit _ _ _ => []
  | .pcieLink _ _ => []
  | .storehouseDerate _ => []
  | .laneLosesLock _ _ => []
  | .captureIr => []

/-- Every physical stall that the command names, where the command is well-formed, is a stall of the device. -/
def Names.Statement (i : Instr) : Prop := i.wf = true → ∀ p ∈ Names.stalls i, p < 6400

theorem Names.registerWrite (page : Page) (off : Nat) (val : Word) : Names.Statement (.registerWrite page off val) := by
  intro h q hq
  simp only [Names.stalls] at hq
  by_cases hb : page.block = 1
  · simp_all [Instr.wf, Page.exists, Page.count]
  · simp [hb] at hq
theorem Names.rcCounterRead (who : Agent) (page : Page) (off : Nat) : Names.Statement (.rcCounterRead who page off) := by
  intro h q hq
  simp only [Names.stalls] at hq
  by_cases hb : page.block = 1
  · simp_all [Instr.wf, Page.exists, Page.count]
  · simp [hb] at hq
theorem Names.faultBitClear (page : Page) : Names.Statement (.faultBitClear page) := by
  intro h q hq
  simp only [Names.stalls] at hq
  by_cases hb : page.block = 1
  · simp_all [Instr.wf, Page.exists, Page.count]
  · simp [hb] at hq
theorem Names.twinValueWrite (page : Page) (off : Nat) (val : Word) : Names.Statement (.twinValueWrite page off val) := by
  intro h q hq
  simp only [Names.stalls] at hq
  by_cases hb : page.block = 1
  · simp_all [Instr.wf, Page.exists, Page.count]
  · simp [hb] at hq
theorem Names.twinComplementWrite (page : Page) (off : Nat) (val : Word) : Names.Statement (.twinComplementWrite page off val) := by
  intro h q hq
  simp only [Names.stalls] at hq
  by_cases hb : page.block = 1
  · simp_all [Instr.wf, Page.exists, Page.count]
  · simp [hb] at hq
theorem Names.runStart : Names.Statement .runStart := by intro _ _ hq; cases hq
theorem Names.runStop : Names.Statement .runStop := by intro _ _ hq; cases hq
theorem Names.swHush (on : Bool) : Names.Statement (.swHush on) := by intro _ _ hq; cases hq
theorem Names.belCountLoRead (who : Agent) : Names.Statement (.belCountLoRead who) := by intro _ _ hq; cases hq
theorem Names.bell : Names.Statement .bell := by intro _ _ hq; cases hq
theorem Names.guardDecision : Names.Statement .guardDecision := by intro _ _ hq; cases hq
theorem Names.slotStart (slot : Nat) : Names.Statement (.slotStart slot) := by intro _ _ hq; cases hq
theorem Names.hushRequestStart (src : Nat) : Names.Statement (.hushRequestStart src) := by intro _ _ hq; cases hq
theorem Names.hushRequestEnd (src : Nat) : Names.Statement (.hushRequestEnd src) := by intro _ _ hq; cases hq
theorem Names.hushEnter : Names.Statement .hushEnter := by intro _ _ hq; cases hq
theorem Names.hushLeave : Names.Statement .hushLeave := by intro _ _ hq; cases hq
theorem Names.hushTimeout : Names.Statement .hushTimeout := by intro _ _ hq; cases hq
theorem Names.belHalt : Names.Statement .belHalt := by intro _ _ hq; cases hq
theorem Names.deadlock : Names.Statement .deadlock := by intro _ _ hq; cases hq
theorem Names.nop (p : Nat) : Names.Statement (.nop p) := by intro h q hq; simp_all [Names.stalls, Instr.wf]
theorem Names.mac8 (p : Nat) : Names.Statement (.mac8 p) := by intro h q hq; simp_all [Names.stalls, Instr.wf]
theorem Names.mac4 (p : Nat) : Names.Statement (.mac4 p) := by intro h q hq; simp_all [Names.stalls, Instr.wf]
theorem Names.wmac (p : Nat) : Names.Statement (.wmac p) := by intro h q hq; simp_all [Names.stalls, Instr.wf]
theorem Names.dwmac (p : Nat) : Names.Statement (.dwmac p) := by intro h q hq; simp_all [Names.stalls, Instr.wf]
theorem Names.pmax (p : Nat) : Names.Statement (.pmax p) := by intro h q hq; simp_all [Names.stalls, Instr.wf]
theorem Names.wxf (p : Nat) : Names.Statement (.wxf p) := by intro h q hq; simp_all [Names.stalls, Instr.wf]
theorem Names.wadv (p : Nat) : Names.Statement (.wadv p) := by intro h q hq; simp_all [Names.stalls, Instr.wf]
theorem Names.pfill (p : Nat) : Names.Statement (.pfill p) := by intro h q hq; simp_all [Names.stalls, Instr.wf]
theorem Names.latch (p : Nat) : Names.Statement (.latch p) := by intro h q hq; simp_all [Names.stalls, Instr.wf]
theorem Names.rsc (p : Nat) : Names.Statement (.rsc p) := by intro h q hq; simp_all [Names.stalls, Instr.wf]
theorem Names.mov (p : Nat) : Names.Statement (.mov p) := by intro h q hq; simp_all [Names.stalls, Instr.wf]
theorem Names.ldi (p : Nat) : Names.Statement (.ldi p) := by intro h q hq; simp_all [Names.stalls, Instr.wf]
theorem Names.alu (p : Nat) : Names.Statement (.alu p) := by intro h q hq; simp_all [Names.stalls, Instr.wf]
theorem Names.addi (p : Nat) : Names.Statement (.addi p) := by intro h q hq; simp_all [Names.stalls, Instr.wf]
theorem Names.br (p : Nat) : Names.Statement (.br p) := by intro h q hq; simp_all [Names.stalls, Instr.wf]
theorem Names.g8p (p : Nat) : Names.Statement (.g8p p) := by intro h q hq; simp_all [Names.stalls, Instr.wf]
theorem Names.m8u (p : Nat) : Names.Statement (.m8u p) := by intro h q hq; simp_all [Names.stalls, Instr.wf]
theorem Names.v8u (p : Nat) : Names.Statement (.v8u p) := by intro h q hq; simp_all [Names.stalls, Instr.wf]
theorem Names.wupd (p : Nat) : Names.Statement (.wupd p) := by intro h q hq; simp_all [Names.stalls, Instr.wf]
theorem Names.get (p : Nat) : Names.Statement (.get p) := by intro h q hq; simp_all [Names.stalls, Instr.wf]
theorem Names.put (p : Nat) : Names.Statement (.put p) := by intro h q hq; simp_all [Names.stalls, Instr.wf]
theorem Names.gett (p : Nat) : Names.Statement (.gett p) := by intro h q hq; simp_all [Names.stalls, Instr.wf]
theorem Names.djnz (p : Nat) : Names.Statement (.djnz p) := by intro h q hq; simp_all [Names.stalls, Instr.wf]
theorem Names.brcmp (p : Nat) : Names.Statement (.brcmp p) := by intro h q hq; simp_all [Names.stalls, Instr.wf]
theorem Names.maskedFiring (p : Nat) : Names.Statement (.maskedFiring p) := by intro h q hq; simp_all [Names.stalls, Instr.wf]
theorem Names.planeFillDone (p : Nat) : Names.Statement (.planeFillDone p) := by intro h q hq; simp_all [Names.stalls, Instr.wf]
theorem Names.latchFillDone (p : Nat) : Names.Statement (.latchFillDone p) := by intro h q hq; simp_all [Names.stalls, Instr.wf]
theorem Names.winogradTransformDone (p : Nat) (wg : Nat) : Names.Statement (.winogradTransformDone p wg) := by intro h q hq; simp_all [Names.stalls, Instr.wf]
theorem Names.outputPush (p : Nat) (d : Nat) : Names.Statement (.outputPush p d) := by intro h q hq; simp_all [Names.stalls, Instr.wf]
theorem Names.contextSwitch (p : Nat) : Names.Statement (.contextSwitch p) := by intro h q hq; simp_all [Names.stalls, Instr.wf]
theorem Names.slotToken (p : Nat) (b : Nat) : Names.Statement (.slotToken p b) := by intro h q hq; simp_all [Names.stalls, Instr.wf]
theorem Names.limitToken (p : Nat) (b : Nat) : Names.Statement (.limitToken p b) := by intro h q hq; simp_all [Names.stalls, Instr.wf]
theorem Names.armToken (p : Nat) (b : Nat) : Names.Statement (.armToken p b) := by intro h q hq; simp_all [Names.stalls, Instr.wf]
theorem Names.genToken (p : Nat) (b : Nat) : Names.Statement (.genToken p b) := by intro h q hq; simp_all [Names.stalls, Instr.wf]
theorem Names.voidToken (p : Nat) (b : Nat) : Names.Statement (.voidToken p b) := by intro h q hq; simp_all [Names.stalls, Instr.wf]
theorem Names.invalidToken (p : Nat) (b : Nat) : Names.Statement (.invalidToken p b) := by intro h q hq; simp_all [Names.stalls, Instr.wf]
theorem Names.tokenForward (p : Nat) : Names.Statement (.tokenForward p) := by intro h q hq; simp_all [Names.stalls, Instr.wf]
theorem Names.drainPop (p : Nat) : Names.Statement (.drainPop p) := by intro h q hq; simp_all [Names.stalls, Instr.wf]
theorem Names.lbFeedStep (p : Nat) : Names.Statement (.lbFeedStep p) := by intro h q hq; simp_all [Names.stalls, Instr.wf]
theorem Names.laneArrive (dest : LaneEnd) : Names.Statement (.laneArrive dest) := by intro h q hq; cases dest <;> simp_all [Names.stalls, Instr.wf, LaneEnd.exists]
theorem Names.creditReturn (p : Nat) (d : Nat) (line : Nat) : Names.Statement (.creditReturn p d line) := by intro h q hq; simp_all [Names.stalls, Instr.wf]
theorem Names.spillWrite (p : Nat) (b : Nat) : Names.Statement (.spillWrite p b) := by intro h q hq; simp_all [Names.stalls, Instr.wf]
theorem Names.tagWrite (p : Nat) (b : Nat) : Names.Statement (.tagWrite p b) := by intro h q hq; simp_all [Names.stalls, Instr.wf]
theorem Names.ringRead (p : Nat) (b : Nat) : Names.Statement (.ringRead p b) := by intro h q hq; simp_all [Names.stalls, Instr.wf]
theorem Names.tagRead (p : Nat) (b : Nat) : Names.Statement (.tagRead p b) := by intro h q hq; simp_all [Names.stalls, Instr.wf]
theorem Names.swapArm : Names.Statement .swapArm := by intro _ _ hq; cases hq
theorem Names.swapDisarm : Names.Statement .swapDisarm := by intro _ _ hq; cases hq
theorem Names.swapCheckDone : Names.Statement .swapCheckDone := by intro _ _ hq; cases hq
theorem Names.wbrStatsAckRel0 : Names.Statement .wbrStatsAckRel0 := by intro _ _ hq; cases hq
theorem Names.wbrStatsAckRel1 : Names.Statement .wbrStatsAckRel1 := by intro _ _ hq; cases hq
theorem Names.statsReady : Names.Statement .statsReady := by intro _ _ hq; cases hq
theorem Names.load : Names.Statement .load := by intro _ _ hq; cases hq
theorem Names.loadFull : Names.Statement .loadFull := by intro _ _ hq; cases hq
theorem Names.abort : Names.Statement .abort := by intro _ _ hq; cases hq
theorem Names.loadReady (img : Image) : Names.Statement (.loadReady img) := by intro _ _ hq; cases hq
theorem Names.stallSwitch (p : Nat) : Names.Statement (.stallSwitch p) := by intro h q hq; simp_all [Names.stalls, Instr.wf]
theorem Names.stallWritten (p : Nat) : Names.Statement (.stallWritten p) := by intro h q hq; simp_all [Names.stalls, Instr.wf]
theorem Names.fullLoadWriteDone : Names.Statement .fullLoadWriteDone := by intro _ _ hq; cases hq
theorem Names.loadFailed (ch : Nat) : Names.Statement (.loadFailed ch) := by intro _ _ hq; cases hq
theorem Names.porterGo (ch : Nat) : Names.Statement (.porterGo ch) := by intro _ _ hq; cases hq
theorem Names.descriptorStart (ch : Nat) : Names.Statement (.descriptorStart ch) := by intro _ _ hq; cases hq
theorem Names.descriptorEnd (ch : Nat) : Names.Statement (.descriptorEnd ch) := by intro _ _ hq; cases hq
theorem Names.porterMove (ch : Nat) : Names.Statement (.porterMove ch) := by intro _ _ hq; cases hq
theorem Names.lateData (ch : Nat) : Names.Statement (.lateData ch) := by intro _ _ hq; cases hq
theorem Names.verdictDeliver (ch : Nat) : Names.Statement (.verdictDeliver ch) := by intro _ _ hq; cases hq
theorem Names.perBankRefresh (chan bank : Nat) : Names.Statement (.perBankRefresh chan bank) := by intro _ _ hq; cases hq
theorem Names.patrolRead (addr : Nat) : Names.Statement (.patrolRead addr) := by intro _ _ hq; cases hq
theorem Names.scrubRead (loc : ScrubLoc) : Names.Statement (.scrubRead loc) := by intro h q hq; cases loc <;> simp_all [Names.stalls, Instr.wf, ScrubLoc.exists]
theorem Names.ledgerEntryWrite : Names.Statement .ledgerEntryWrite := by intro _ _ hq; cases hq
theorem Names.ldgSwCode (code : BitVec 16) : Names.Statement (.ldgSwCode code) := by intro _ _ hq; cases hq
theorem Names.ethernetFrameReceive (port : Nat) (frame : EthFrame) : Names.Statement (.ethernetFrameReceive port frame) := by intro _ _ hq; cases hq
theorem Names.reorderTimeout (stream : Nat) : Names.Statement (.reorderTimeout stream) := by intro _ _ hq; cases hq
theorem Names.decodeDone (stream : Nat) (set : ParamSet) (pic : Picture) : Names.Statement (.decodeDone stream set pic) := by intro _ _ hq; cases hq
theorem Names.engineFault (engine : Nat) : Names.Statement (.engineFault engine) := by intro _ _ hq; cases hq
theorem Names.frameComplete (stream : Nat) : Names.Statement (.frameComplete stream) := by intro _ _ hq; cases hq
theorem Names.flowWrite : Names.Statement .flowWrite := by intro _ _ hq; cases hq
theorem Names.flowRead : Names.Statement .flowRead := by intro _ _ hq; cases hq
theorem Names.streamRead : Names.Statement .streamRead := by intro _ _ hq; cases hq
theorem Names.streamReadClear : Names.Statement .streamReadClear := by intro _ _ hq; cases hq
theorem Names.streamAdmit : Names.Statement .streamAdmit := by intro _ _ hq; cases hq
theorem Names.dismiss : Names.Statement .dismiss := by intro _ _ hq; cases hq
theorem Names.streamBuffersReleased (stream : Nat) : Names.Statement (.streamBuffersReleased stream) := by intro _ _ hq; cases hq
theorem Names.normHiCWrite (val : Word) : Names.Statement (.normHiCWrite val) := by intro _ _ hq; cases hq
theorem Names.ptpStepNs (val : Word) : Names.Statement (.ptpStepNs val) := by intro _ _ hq; cases hq
theorem Names.ptpTimeLoRead (who : Agent) : Names.Statement (.ptpTimeLoRead who) := by intro _ _ hq; cases hq
theorem Names.gateTdrStart : Names.Statement .gateTdrStart := by intro _ _ hq; cases hq
theorem Names.gateTdrDone (pairs : List (Nat × Nat)) : Names.Statement (.gateTdrDone pairs) := by intro _ _ hq; cases hq
theorem Names.linkChange (port : Nat) (up : Bool) (speed : Nat) : Names.Statement (.linkChange port up speed) := by intro _ _ hq; cases hq
theorem Names.crierFrameQueue (seg : Nat) : Names.Statement (.crierFrameQueue seg) := by intro _ _ hq; cases hq
theorem Names.crierTransmit (seg : Nat) (sent : Bool) : Names.Statement (.crierTransmit seg sent) := by intro _ _ hq; cases hq
theorem Names.segmentFrameReceive (seg : Nat) (frame : SegFrame) : Names.Statement (.segmentFrameReceive seg frame) := by intro _ _ hq; cases hq
theorem Names.plcaOpportunity (seg : Nat) (node : Nat) : Names.Statement (.plcaOpportunity seg node) := by intro _ _ hq; cases hq
theorem Names.dupId (seg : Nat) (node : Nat) : Names.Statement (.dupId seg node) := by intro _ _ hq; cases hq
theorem Names.beaconLost (seg : Nat) : Names.Statement (.beaconLost seg) := by intro _ _ hq; cases hq
theorem Names.segmentTdrStart (seg : Nat) : Names.Statement (.segmentTdrStart seg) := by intro _ _ hq; cases hq
theorem Names.termFault (seg : Nat) (term : Nat) (dist : Nat) : Names.Statement (.termFault seg term dist) := by intro _ _ hq; cases hq
theorem Names.flitReceive (link : Nat) (flit : Flit) : Names.Statement (.flitReceive link flit) := by intro _ _ hq; cases hq
theorem Names.replaySlow (link : Nat) : Names.Statement (.replaySlow link) := by intro _ _ hq; cases hq
theorem Names.linkDown (link : Nat) (reason : Nat) : Names.Statement (.linkDown link reason) := by intro _ _ hq; cases hq
theorem Names.linkSilentTimeout (link : Nat) : Names.Statement (.linkSilentTimeout link) := by intro _ _ hq; cases hq
theorem Names.cellSend (link : Nat) (pos : Nat) : Names.Statement (.cellSend link pos) := by intro _ _ hq; cases hq
theorem Names.receiveQueueDrain (chan : Nat) : Names.Statement (.receiveQueueDrain chan) := by intro _ _ hq; cases hq
theorem Names.hushStart (link : Nat) : Names.Statement (.hushStart link) := by intro _ _ hq; cases hq
theorem Names.hushEnd (link : Nat) : Names.Statement (.hushEnd link) := by intro _ _ hq; cases hq
theorem Names.bellMessage (link : Nat) : Names.Statement (.bellMessage link) := by intro _ _ hq; cases hq
theorem Names.upReady (link : Nat) : Names.Statement (.upReady link) := by intro _ _ hq; cases hq
theorem Names.upHalt (link : Nat) : Names.Statement (.upHalt link) := by intro _ _ hq; cases hq
theorem Names.decideMsg (link : Nat) : Names.Statement (.decideMsg link) := by intro _ _ hq; cases hq
theorem Names.discover (link : Nat) : Names.Statement (.discover link) := by intro _ _ hq; cases hq
theorem Names.eqReq (link : Nat) : Names.Statement (.eqReq link) := by intro _ _ hq; cases hq
theorem Names.bellMiss : Names.Statement .bellMiss := by intro _ _ hq; cases hq
theorem Names.linkTrain (link : Nat) : Names.Statement (.linkTrain link) := by intro _ _ hq; cases hq
theorem Names.linkUp (link : Nat) (res : TrainResult) : Names.Statement (.linkUp link res) := by intro _ _ hq; cases hq
theorem Names.bar0Access (off : Nat) (size : Nat) (write : Bool) (val : Word) : Names.Statement (.bar0Access off size write val) := by intro _ _ hq; cases hq
theorem Names.bar2Read (off : Nat) (n : Nat) : Names.Statement (.bar2Read off n) := by intro _ _ hq; cases hq
theorem Names.bar2Write (off : Nat) (bytes : List Byte) (poisoned : Bool) : Names.Statement (.bar2Write off bytes poisoned) := by intro _ _ hq; cases hq
theorem Names.winSelWrite (val : Word) : Names.Statement (.winSelWrite val) := by intro _ _ hq; cases hq
theorem Names.doorbellWrite (off : Nat) (val : Word) : Names.Statement (.doorbellWrite off val) := by intro _ _ hq; cases hq
theorem Names.parkedDoorbellsApply : Names.Statement .parkedDoorbellsApply := by intro _ _ hq; cases hq
theorem Names.ringWrite : Names.Statement .ringWrite := by intro _ _ hq; cases hq
theorem Names.ringEnable : Names.Statement .ringEnable := by intro _ _ hq; cases hq
theorem Names.ringDisable : Names.Statement .ringDisable := by intro _ _ hq; cases hq
theorem Names.ringCoalesceTimeout (ring : Nat) : Names.Statement (.ringCoalesceTimeout ring) := by intro _ _ hq; cases hq
theorem Names.hostReset (kind : Nat) : Names.Statement (.hostReset kind) := by intro _ _ hq; cases hq
theorem Names.hrbBusyBegin : Names.Statement .hrbBusyBegin := by intro _ _ hq; cases hq
theorem Names.hrbBusyEnd : Names.Statement .hrbBusyEnd := by intro _ _ hq; cases hq
theorem Names.attentionPulse : Names.Statement .attentionPulse := by intro _ _ hq; cases hq
theorem Names.trestleStreamWritten : Names.Statement .trestleStreamWritten := by intro _ _ hq; cases hq
theorem Names.configDone : Names.Statement .configDone := by intro _ _ hq; cases hq
theorem Names.gsrForce (on : Bool) : Names.Statement (.gsrForce on) := by intro _ _ hq; cases hq
theorem Names.userIrq (line : Nat) : Names.Statement (.userIrq line) := by intro _ _ hq; cases hq
theorem Names.bankVccioSample (bank : Nat) (reading : Byte) : Names.Statement (.bankVccioSample bank reading) := by intro _ _ hq; cases hq
theorem Names.bankRelease (banks : BitVec 6) : Names.Statement (.bankRelease banks) := by intro _ _ hq; cases hq
theorem Names.trestlePortWord (tp : Nat) (word : Option BWord) : Names.Statement (.trestlePortWord tp word) := by intro _ _ hq; cases hq
theorem Names.crierTxFrame (tp : Nat) (words : List BWord) : Names.Statement (.crierTxFrame tp words) := by intro _ _ hq; cases hq
theorem Names.verify (obj : SignedObject) : Names.Statement (.verify obj) := by intro _ _ hq; cases hq
theorem Names.report : Names.Statement .report := by intro _ _ hq; cases hq
theorem Names.enroll : Names.Statement .enroll := by intro _ _ hq; cases hq
theorem Names.release : Names.Statement .release := by intro _ _ hq; cases hq
theorem Names.commitSvn (target : Bool) : Names.Statement (.commitSvn target) := by intro _ _ hq; cases hq
theorem Names.resigned : Names.Statement .resigned := by intro _ _ hq; cases hq
theorem Names.railSample (rail : Nat) (reading : BitVec 10) : Names.Statement (.railSample rail reading) := by intro _ _ hq; cases hq
theorem Names.droopDetect (rail : Nat) : Names.Statement (.droopDetect rail) := by intro _ _ hq; cases hq
theorem Names.droopRecover (rail : Nat) : Names.Statement (.droopRecover rail) := by intro _ _ hq; cases hq
theorem Names.droopLong (rail : Nat) : Names.Statement (.droopLong rail) := by intro _ _ hq; cases hq
theorem Names.thermalSample (temps : List Int) : Names.Statement (.thermalSample temps) := by intro _ _ hq; cases hq
theorem Names.throttlePeriodStart : Names.Statement .throttlePeriodStart := by intro _ _ hq; cases hq
theorem Names.throttleRequestEnd : Names.Statement .throttleRequestEnd := by intro _ _ hq; cases hq
theorem Names.pmbSendByte (addr : BitVec 7) (code : Byte) (pec : Bool) : Names.Statement (.pmbSendByte addr code pec) := by intro _ _ hq; cases hq
theorem Names.pmbWriteByte (addr : BitVec 7) (code : Byte) (pec : Bool) : Names.Statement (.pmbWriteByte addr code pec) := by intro _ _ hq; cases hq
theorem Names.pmbWriteWord (addr : BitVec 7) (code : Byte) (pec : Bool) : Names.Statement (.pmbWriteWord addr code pec) := by intro _ _ hq; cases hq
theorem Names.pmbReadByte (addr : BitVec 7) (code : Byte) (pec : Bool) : Names.Statement (.pmbReadByte addr code pec) := by intro _ _ hq; cases hq
theorem Names.pmbReadWord (addr : BitVec 7) (code : Byte) (pec : Bool) : Names.Statement (.pmbReadWord addr code pec) := by intro _ _ hq; cases hq
theorem Names.pmbBlockRead (addr : BitVec 7) (code : Byte) (pec : Bool) (len : Nat) : Names.Statement (.pmbBlockRead addr code pec len) := by intro _ _ hq; cases hq
theorem Names.pmbDone (res : PmbResult) : Names.Statement (.pmbDone res) := by intro _ _ hq; cases hq
theorem Names.pmbAlert : Names.Statement .pmbAlert := by intro _ _ hq; cases hq
theorem Names.poll (words : List (List (BitVec 16))) : Names.Statement (.poll words) := by intro _ _ hq; cases hq
theorem Names.bist (scope : BitVec 4) : Names.Statement (.bist scope) := by intro _ _ hq; cases hq
theorem Names.bistDone (units : List BistUnit) : Names.Statement (.bistDone units) := by intro _ _ hq; cases hq
theorem Names.add : Names.Statement .add := by intro _ _ hq; cases hq
theorem Names.drop : Names.Statement .drop := by intro _ _ hq; cases hq
theorem Names.wearCount (osc : Nat) (count : BitVec 16) : Names.Statement (.wearCount osc count) := by intro _ _ hq; cases hq
theorem Names.reserveReload : Names.Statement .reserveReload := by intro _ _ hq; cases hq
theorem Names.reserveRecordWrite (ok : Bool) : Names.Statement (.reserveRecordWrite ok) := by intro _ _ hq; cases hq
theorem Names.powerOnReset : Names.Statement .powerOnReset := by intro _ _ hq; cases hq
theorem Names.perstAssert : Names.Statement .perstAssert := by intro _ _ hq; cases hq
theorem Names.perstRelease (straps : Straps) : Names.Statement (.perstRelease straps) := by intro _ _ hq; cases hq
theorem Names.pllLockBoot (inp : BootInputs) : Names.Statement (.pllLockBoot inp) := by intro _ _ hq; cases hq
theorem Names.supplyHold : Names.Statement .supplyHold := by intro _ _ hq; cases hq
theorem Names.bootFirmwareStart (owner : Option SignedObject) (reserve : Option SignedObject) : Names.Statement (.bootFirmwareStart owner reserve) := by intro _ _ hq; cases hq
theorem Names.storehouseTrained (gib : Nat) : Names.Statement (.storehouseTrained gib) := by intro _ _ hq; cases hq
theorem Names.prepDone : Names.Statement .prepDone := by intro _ _ hq; cases hq
theorem Names.wdogKick (key : BitVec 16) : Names.Statement (.wdogKick key) := by intro _ _ hq; cases hq
theorem Names.watchdogExpire : Names.Statement .watchdogExpire := by intro _ _ hq; cases hq
theorem Names.stockModeStart : Names.Statement .stockModeStart := by intro _ _ hq; cases hq
theorem Names.dhcpFallback : Names.Statement .dhcpFallback := by intro _ _ hq; cases hq
theorem Names.stockAdmit (stream : Nat) (pt : Nat) : Names.Statement (.stockAdmit stream pt) := by intro _ _ hq; cases hq
theorem Names.stockStreamIdle (stream : Nat) : Names.Statement (.stockStreamIdle stream) := by intro _ _ hq; cases hq
theorem Names.jtagUpdateIr (code : Byte) : Names.Statement (.jtagUpdateIr code) := by intro _ _ hq; cases hq
theorem Names.tapReset : Names.Statement .tapReset := by intro _ _ hq; cases hq
theorem Names.bellZeroAtGrid : Names.Statement .bellZeroAtGrid := by intro _ _ hq; cases hq
theorem Names.ethernetFrameTransmit (port : Nat) (bytes : List Byte) (ptpEvent : Bool) : Names.Statement (.ethernetFrameTransmit port bytes ptpEvent) := by intro _ _ hq; cases hq
theorem Names.pcieLink (speed : Nat) (width : Nat) : Names.Statement (.pcieLink speed width) := by intro _ _ hq; cases hq
theorem Names.storehouseDerate (on : Bool) : Names.Statement (.storehouseDerate on) := by intro _ _ hq; cases hq
theorem Names.laneLosesLock (link : Nat) (lane : Nat) : Names.Statement (.laneLosesLock link lane) := by intro _ _ hq; cases hq
theorem Names.captureIr : Names.Statement .captureIr := by intro _ _ hq; cases hq

end Sys2Proof.Laws
end

