-- ==== Sys2Proof/Tests/Slice0.lean ====
section
/-! SUPPORT. Tests. First an ill-formed command for each check of WellFormed, which the check refuses, beside the same command at the
last value it admits. Then, for each statement with hypotheses, small states and operands that meet them, clause by clause, at boundary values
where a range has one; the words and values are written from the manual's tables. -/

namespace Sys2Proof.Tests

open Sys2Proof Sys2Proof.Machine

set_option Elab.async false

/-! ### WellFormed -/

/-- Commands whose operands stand one beyond what the manual gives the device, one for each check. -/
def illFormed1 : List Instr :=
  [.registerWrite ⟨STL, 6400⟩ 0 0, .registerWrite ⟨0x13, 0⟩ 0 0, .registerWrite ⟨BEL, 0⟩ 4096 0, .rcCounterRead .host ⟨AIS, 9⟩ 0,
   .rcCounterRead .clerk ⟨BEL, 0⟩ 4096, .faultBitClear ⟨BSK, 6720⟩, .twinValueWrite ⟨DEP, 17⟩ 0 0, .twinValueWrite ⟨BEL, 0⟩ 4096 0,
   .twinComplementWrite ⟨PRT, 64⟩ 0 0, .twinComplementWrite ⟨BEL, 0⟩ 4096 0]

/-- Commands whose operands stand one beyond what the manual gives the device, one for each check. -/
def illFormed2 : List Instr :=
  [.slotStart 512, .hushRequestStart 8, .hushRequestEnd 8, .nop 6400, .mac8 6400, .mac4 6400, .wmac 6400, .dwmac 6400, .pmax 6400,
   .wxf 6400, .wadv 6400, .pfill 6400, .latch 6400, .rsc 6400, .mov 6400, .ldi 6400, .alu 6400, .addi 6400, .br 6400, .g8p 6400,
   .m8u 6400, .v8u 6400, .wupd 6400, .get 6400, .put 6400, .gett 6400, .djnz 6400, .brcmp 6400, .maskedFiring 6400]

/-- Commands whose operands stand one beyond what the manual gives the device, one for each check. -/
def illFormed3 : List Instr :=
  [.planeFillDone 6400, .latchFillDone 6400, .winogradTransformDone 6400 0, .winogradTransformDone 0 2, .outputPush 6400 0,
   .outputPush 0 4, .contextSwitch 6400, .slotToken 6400 0, .slotToken 0 4, .limitToken 6400 0, .limitToken 0 4, .armToken 6400 0,
   .armToken 0 4, .genToken 6400 0, .genToken 0 4, .voidToken 6400 0, .voidToken 0 4, .invalidToken 6400 0, .invalidToken 0 4,
   .tokenForward 6400, .drainPop 6400, .lbFeedStep 6400]

/-- Commands whose operands stand one beyond what the manual gives the device, one for each check. -/
def illFormed4 : List Instr :=
  [.laneArrive (.basket 6400 0), .laneArrive (.basket 0 4), .laneArrive (.edge 320), .creditReturn 6400 0 0, .creditReturn 0 4 0,
   .creditReturn 0 0 4, .spillWrite 6400 0, .spillWrite 0 4, .tagWrite 6400 0, .tagWrite 0 4, .ringRead 6400 0, .ringRead 0 4,
   .tagRead 6400 0, .tagRead 0 4, .stallSwitch 6400, .stallWritten 6400, .loadFailed 64, .porterGo 64, .descriptorStart 64,
   .descriptorEnd 64, .porterMove 64, .lateData 64, .verdictDeliver 64]

/-- Commands whose operands stand one beyond what the manual gives the device, one for each check. -/
def illFormed5 : List Instr :=
  [.scrubRead (.stallWord 6400 0), .scrubRead (.stallWord 0 8192), .scrubRead (.depotLane 17 0 0), .scrubRead (.depotLane 0 131072 0),
   .scrubRead (.depotLane 0 0 8), .scrubRead (.clerkWord 65536), .scrubRead (.program 6400 0 0), .scrubRead (.program 0 8 0),
   .scrubRead (.program 0 0 256), .scrubRead (.lut 6400 0 0), .scrubRead (.lut 0 16 0), .scrubRead (.lut 0 0 256), .perBankRefresh 6 0]

/-- Commands whose operands stand one beyond what the manual gives the device, one for each check. -/
def illFormed6 : List Instr :=
  [.ethernetFrameReceive 3 ⟨64, true, false, true, none, .nonIp⟩, .reorderTimeout 512, .decodeDone 512 ⟨0, .main, 40, .c420, 8, 64, 64, true⟩ ⟨[], [], [], 0⟩,
   .engineFault 33, .frameComplete 512, .streamBuffersReleased 512, .gateTdrDone [(0, 0), (0, 0), (0, 0)], .linkChange 3 true 0,
   .linkChange 0 true 3, .crierFrameQueue 4, .crierTransmit 4 true, .segmentFrameReceive 4 ⟨0, 0, 0, []⟩, .plcaOpportunity 4 0,
   .plcaOpportunity 0 32, .dupId 4 0, .dupId 0 32, .beaconLost 4, .segmentTdrStart 4, .termFault 4 0 0, .termFault 0 8 0,
   .termFault 0 0 1024]

/-- Commands whose operands stand one beyond what the manual gives the device, one for each check. -/
def illFormed7 : List Instr :=
  [.flitReceive 8 ⟨.clean, 0⟩, .replaySlow 8, .linkDown 8 0, .linkDown 0 7, .linkSilentTimeout 8,
   .cellSend 8 0, .cellSend 0 27, .receiveQueueDrain 128, .hushStart 8, .hushEnd 8, .bellMessage 8, .upReady 8, .upHalt 8, .decideMsg 8,
   .discover 8, .eqReq 8, .linkTrain 8, .linkUp 8 .noLock, .bar0Access 67108864 4 false 0, .bar2Read 134217728 1,
   .bar2Write 134217728 [0] false, .doorbellWrite 1048576 0, .ringCoalesceTimeout 4096, .hostReset 3]

/-- Commands whose operands stand one beyond what the manual gives the device, one for each check. -/
def illFormed8 : List Instr :=
  [.userIrq 8, .bankVccioSample 6 0, .trestlePortWord 16 none, .crierTxFrame 16 [], .railSample 16 0, .droopDetect 16, .droopRecover 16,
   .droopLong 16, .thermalSample [], .pmbBlockRead 0 0 false 0, .pmbBlockRead 0 0 false 9, .poll [], .wearCount 698 0, .storehouseTrained 0,
   .storehouseTrained 97, .stockAdmit 512 96, .stockStreamIdle 512, .ethernetFrameTransmit 3 [] false, .pcieLink 6 1, .pcieLink 5 9,
   .laneLosesLock 8 0, .laneLosesLock 0 4]

/-- All of them. -/
def illFormed : List Instr := illFormed1 ++ illFormed2 ++ illFormed3 ++ illFormed4 ++ illFormed5 ++ illFormed6 ++ illFormed7 ++ illFormed8

/-- The same commands at the last value that names something. -/
def lastFormed1 : List Instr :=
  [.registerWrite ⟨STL, 6399⟩ 4095 0, .registerWrite ⟨HST, 1⟩ 0 0, .rcCounterRead .host ⟨AIS, 8⟩ 4095, .faultBitClear ⟨BSK, 6719⟩,
   .twinValueWrite ⟨DEP, 16⟩ 4095 0, .twinComplementWrite ⟨PRT, 63⟩ 4095 0, .slotStart 511, .hushRequestStart 7, .hushRequestEnd 7,
   .nop 6399, .winogradTransformDone 6399 1, .outputPush 6399 3, .slotToken 6399 3, .laneArrive (.basket 6399 3), .laneArrive (.edge 319),
   .creditReturn 6399 3 3, .tagRead 6399 3, .loadFailed 63, .porterGo 63, .scrubRead (.stallWord 6399 8191),
   .scrubRead (.depotLane 16 131071 7), .scrubRead (.clerkWord 65535), .scrubRead (.program 6399 7 255), .scrubRead (.lut 6399 15 255),
   .perBankRefresh 5 15]

/-- The same commands at the last value that names something. -/
def lastFormed2 : List Instr :=
  [.reorderTimeout 511, .engineFault 32, .gateTdrDone [(0, 0), (0, 0), (0, 0), (0, 0)], .linkChange 2 true 2, .crierFrameQueue 3,
   .plcaOpportunity 3 31, .termFault 3 7 1023, .linkDown 7 6, .cellSend 7 26, .receiveQueueDrain 127, .bar0Access 67108863 1 false 0,
   .bar2Read 134217727 1, .bar2Write 134217727 [0] false, .doorbellWrite 1048575 0, .ringCoalesceTimeout 4095, .hostReset 2, .userIrq 7,
   .bankVccioSample 5 0, .trestlePortWord 15 none, .railSample 15 0, .thermalSample (List.replicate 24 25), .pmbBlockRead 0 0 false 1,
   .pmbBlockRead 0 0 false 8, .poll (List.replicate 8 []), .wearCount 697 0, .storehouseTrained 1, .storehouseTrained 96,
   .stockStreamIdle 511, .ethernetFrameTransmit 2 [] false, .pcieLink 5 8, .laneLosesLock 7 3]

/-- All of them. -/
def lastFormed : List Instr := lastFormed1 ++ lastFormed2

theorem test_ill_formed_refused : illFormed.all (fun i => !i.wf) = true := by decide +kernel

theorem test_last_formed_admitted : lastFormed.all (fun i => i.wf) = true := by decide +kernel

/-- Is the outcome the fault of a command that names no unit? -/
def faults : Host.Outcome State Fault Refusal → Bool
  | .fault .noSuchUnit => true
  | _ => false

/-- An ill-formed command is no command of the device. -/
theorem test_ill_formed_faults : illFormed.all (fun i => faults (exec i State.reset)) = true := by decide +kernel

/-! ### Small states -/

/-- The device after boot: clocks run, nothing is loaded. -/
def booted : Device :=
  { boot := { held := false, perstHigh := true, booting := false, romDone := true, firmware := true, zeroed := true, sthZeroed := true },
    reserve := { mapped := true } }

/-- A state with no command waiting. -/
def st (d : Device) : State := { pending := [], dev := d }

/-- The sum of fields at their places. -/
def word (l : List (Nat × Nat)) : Nat := (l.map (fun x => x.1 * 2 ^ x.2)).sum

/-! ### The queue, the clock, reset and registers -/

/-- StepRunsFront: a command stands at the front of the queue. -/
theorem witness_StepRunsFront :
    ({ State.reset with pending := [.prepDone, .bell] } : State).pending = .prepDone :: [.bell] := rfl

/-- IdleIsOneCycle: an empty queue, while time stands still and while it runs. -/
theorem witness_IdleIsOneCycle :
    (State.reset.pending = [] ∧ State.reset.dev.boot.held = true)
      ∧ ((st booted).pending = [] ∧ booted.boot.held = false ∧ booted.boot.romDone = true) := by decide

/-- EveryCommandAnswers: a well-formed command, and an ill-formed one. -/
theorem witness_EveryCommandAnswers : Instr.wf (.slotStart 511) = true ∧ Instr.wf (.slotStart 512) = false := by decide

/-- InterruptsJudged: a state in which SUM_TYPE has been judged takes a step. -/
theorem witness_InterruptsJudged :
    (st booted).dev.host.lastSum = (st booted).dev.sumType ∧ step (st booted) = .next { st booted with dev := booted.tick } := by
  exact ⟨by decide +kernel, rfl⟩

/-- The bell page has its first interrupt raised and enabled, and the edge has not been judged. -/
def rung : Device := (booted.setN BEL 0 0x014 1).setN BEL 0 0x018 1

theorem witness_SumTypeEdgeSendsMessage :
    (rung.host.lastSum.getLsbD 4 = false ∧ rung.host.sumSeen.getLsbD 4 = false ∧ rung.sumType.getLsbD 4 = true)
      ∧ ((List.range 32).all (fun i => !booted.sumType.getLsbD i || booted.host.lastSum.getLsbD i) = true) := by decide +kernel

/-- An edge of a masked vector is held pending, and of an unmasked one leaves as its message. -/
theorem test_edge_messages :
    rung.settle.host.pba = [0] ∧ rung.settle.outbox = []
      ∧ ({ rung with host := { rung.host with msix := [(3, 0)] } } : Device).settle.outbox = [.msix 0]
      ∧ ({ rung with host := { rung.host with msix := [(3, 0)], sumSeen := rung.sumType } } : Device).settle.outbox = [] := by decide +kernel

theorem witness_HeldInReset :
    State.reset.dev.boot.held = true ∧ Instr.wf (.nop 0) = true ∧ (∀ x, Instr.nop 0 ≠ .perstRelease x) ∧ (∀ x, Instr.nop 0 ≠ .jtagUpdateIr x)
      ∧ Instr.nop 0 ≠ .powerOnReset ∧ Instr.nop 0 ≠ .perstAssert ∧ Instr.nop 0 ≠ .tapReset ∧ Instr.nop 0 ≠ .captureIr := by
  refine ⟨rfl, rfl, ?_, ?_, ?_, ?_, ?_, ?_⟩ <;> intros <;> intro h <;> cases h

/-- Stall `p` is not closed. -/
def opened (p : Nat) : Device := booted.setN STL p 0x008 0

/-- RegisterWriteEffect: an RW register at its lower limit and one below it, one at its last offset and page; a W1C register without its fault bit, with it,
and after an event of this cycle; registers that only a closed stall takes, SEED among them, of a closed stall and of an open one; an RO, an RC, a twin register. -/
theorem witness_RegisterWriteEffect :
    (Instr.wf (.registerWrite ⟨BEL, 0⟩ 0x140 1024) = true ∧ booted.boot.held = false ∧ (regSpec BEL 0 0x140).acc = .rw
      ∧ booted.limited BEL 0 0x140 1024 = 1024)
    ∧ (Instr.wf (.registerWrite ⟨CRI, 3⟩ 0x3FC 0x1FFFF) = true ∧ (regSpec CRI 3 0x3FC).acc = .rw
      ∧ booted.limited CRI 3 0x3FC 0x1FFFF = 0x1FFFF)
    ∧ booted.limited BEL 0 0x140 1023 = booted.regN BEL 0 0x140
    ∧ (Instr.wf (.registerWrite ⟨STL, 6399⟩ 0x014 1) = true ∧ (regSpec STL 6399 0x014).acc = .w1c ∧ booted.newFaults = []
      ∧ (1#32).getLsbD (faultBit STL) = false ∧ (2#32).getLsbD (faultBit STL) = true
      ∧ tb ((booted.raise STL 6399 0).freshOf STL 6399 0x014).2 0 = true)
    ∧ ((regSpec STL 6399 0x500).acc = .closed ∧ (regSpec STL 6399 0x100).acc = .closed ∧ booted.closed 6399 = true
      ∧ (opened 0).closed 0 = false)
    ∧ (Instr.wf (.registerWrite ⟨STL, 6399⟩ 0x010 1) = true ∧ (regSpec STL 6399 0x010).acc = .ro)
    ∧ (Instr.wf (.registerWrite ⟨LDG, 0⟩ 0x030 1) = true ∧ (regSpec LDG 0 0x030).acc = .rc)
    ∧ ((regSpec BEL 0 0x008).acc = .tw ∧ (regSpec BEL 0 0xFFC).acc = .none_) := by decide +kernel

/-- LevelRange: the capacity of a basket without an extension is 8; HUSH_LIMIT, DL_LIMIT and REORDER_TMO at their limits; a register without limits. -/
theorem witness_LevelRange :
    [(BEL, 0x138, 256), (BEL, 0x140, 1024), (GAT, 0x220, 1)].all (fun r => decide (
      ((BitVec.ofNat 32 r.2.2) &&& BitVec.ofNat 32 (regSpec r.1 0 r.2.1).mask).toNat = r.2.2)) = true
    ∧ (STL ∉ [BSK, WBR, LDG] ∧ (STL, 0x100) ∉ [(BEL, 0x138), (BEL, 0x140), (GAT, 0x220), (CRI, 0x100), (STW, 0x264)]) ∧
    booted.capOf 6399 3 < (9#32 &&& 0xFFF#32).toNat ∧ (8#32 &&& 0xFFF#32).toNat ≤ booted.capOf 6399 3
      ∧ booted.rf BSK 6399 (0x108 + 0x20 * 3) 0 12 = 0 ∧ booted.boot.held = false := by decide +kernel

/-- A stall whose WAIT_IN counter stands at 5. -/
def counted : Device := booted.setN STL 0 0x038 5

theorem witness_RcReadClears :
    Instr.wf (.rcCounterRead .host ⟨STL, 0⟩ 0x038) = true ∧ counted.boot.held = false ∧ counted.hostBoot .host = false
      ∧ (regSpec STL 0 0x038).acc = .rc ∧ counted.readAt STL 0 0x038 ≠ 0 ∧ counted.readAt STL 1 0x038 = 0 ∧ (counted.freshOf STL 0 0x038).2 < 2 ^ 32
      ∧ ((regSpec STL 0 0x010).acc ≠ .rc ∧ (STL, 0x010) ≠ (BEL, 0x120) ∧ (STL, 0x010) ≠ (GAT, 0x100))
      ∧ (({ counted with boot := { counted.boot with booting := true } } : Device).hostBoot .host = true ∧ STL ≠ DIR) := by decide +kernel

/-- Two events of this cycle stay behind a read that shows the five before them. -/
theorem test_rc_read_keeps_fresh_events :
    ((counted.bumpBy STL 0 0x038 0xFFFFFFFF 2).readWith .host STL 0 0x038).reply.value = 5
      ∧ ((counted.bumpBy STL 0 0x038 0xFFFFFFFF 2).readWith .host STL 0 0x038).regN STL 0 0x038 = 2 := by decide +kernel

/-- A fault recorded on the BEL page in this cycle. -/
def faulted : Device := booted.fault BEL 0 0x5002 0

theorem witness_FaultBitClearEffect :
    Instr.wf (.faultBitClear ⟨BEL, 0⟩) = true ∧ booted.boot.held = false ∧ BEL ≠ DIR
      ∧ booted.newFaults.all (fun f => decide (f.1 ≠ regKey BEL 0 0)) = true ∧ faulted.boot.held = false
      ∧ faulted.newFaults = [(regKey BEL 0 0, 0x5002, 0, 0)] ∧ 0x5002 < 2 ^ 32 ∧ Instr.wf (.faultBitClear ⟨DIR, 0⟩) = true := by decide +kernel

/-- The value 7 stands in the pending holder of BEL_SLACK. -/
def pairing : Device := booted.twinValue BEL 0 0x118 7

theorem witness_TwinPair :
    (Instr.wf (.twinValueWrite ⟨BEL, 0⟩ 0x118 7) = true ∧ pairing.boot.held = false ∧ (regSpec BEL 0 0x118).acc = .tw
      ∧ pairing.twinOpen BEL 0 = true ∧ 0x118 + 4 < 4096 ∧ (regSpec BEL 0 (0x118 + 4)).acc = .none_)
    ∧ (pairing.twinMatches BEL 0 0x118 0xFFFFFFF8 = true ∧ twinBad BEL 0 0x118 (pairing.twinPending BEL 0 0x118).toNat = false
      ∧ (BEL, 0x118) ∉ [(BEL, 0x008), (BEL, 0x100), (CRI, 0x008), (PRT, 0x008), (AIS, 0x008), (WBR, 0x008), (STW, 0x008), (TRS, 0x008)])
    ∧ (pairing.twinMatches BEL 0 0x118 0xFFFFFFF9 = false ∧ pairing.faultHeld BEL 0 = false)
    ∧ (twinBad BEL 0 0x110 513 = true ∧ (regSpec BEL 0 0x110).acc = .tw)
    ∧ ((regSpec ARC 0 0x118).acc = .tw ∧ (regSpec ARC 0 0x11C).acc = .none_ ∧ (opened 0).twinOpen ARC 0 = false) := by decide +kernel

/-- A period of 65,535 cycles, one below the range, in the holder. -/
def shortPeriod : Device := booted.twinValue BEL 0 0x100 65535

theorem witness_PeriodRefused :
    shortPeriod.boot.held = false ∧ shortPeriod.twinMatches BEL 0 0x100 (~~~65535#32) = true
      ∧ (shortPeriod.twinPending BEL 0 0x100).toNat < 65536 ∧ (shortPeriod.twinPending BEL 0 0x100).toNat < 2 ^ 24 := by decide +kernel

/-- A period of 65,536 cycles is taken. -/
theorem test_period_committed :
    ((booted.twinValue BEL 0 0x100 65536).twinComplement BEL 0 0x104 (~~~65536#32)).bell.int = 65536 := by decide +kernel

theorem witness_LatchedReads : booted.boot.held = false ∧ booted.hostBoot .host = false := by decide

/-! ### Stall instructions -/

/-- A context record: 256 instructions, ENTRY 0, END 255, slot tokens from basket N, no loop and no line buffer. -/
def record : CtxRecord :=
  { length := 256, entry := 0, stop := 255, loopFirst := [0, 0, 0, 0], loopLast := [0, 0, 0, 0], loopBound := [0, 0, 0, 0],
    slotBaskets := 1, fwdSlot := 0, fwdLimit := 0, fwdArm := 0, feed := 7, lbBase := 0, lbSize := 0, feedWords := 0,
    fireExpect := 1, gInit := [] }

/-- An instruction word as the program store holds it, with its parity bit. -/
def stored (w : Nat) : BitVec 33 := BitVec.ofNat 33 (if parityOf 33 w then w + 2 ^ 32 else w)

/-- Eight contexts, of which context 0 is in a body. -/
def inBody (r : CtxRecord) : List Ctx := { used := true, rec_ := some r, inBody := true, limits := r.loopBound } :: List.replicate 7 {}

/-- A stall that may issue: 64 words of data, context 0 in a body. -/
def issuing : Stall := { ctxs := inBody record, regions := [⟨4, 0, 0, 64⟩] }

/-- Stall 0 is open with that body at cycle 10 and has the word `w` at its PC; every lane output has a route with room for 16 words. -/
def due (w : Nat) (s : Stall) : Device :=
  let d := (List.range 4).foldl (fun a o => (a.setN ARC 0 (0x118 + 0x20 * o) 1).setN ARC 0 (0x1A0 + 0x10 * o) 16) (booted.setN STL 0 0x008 0)
  { d with now := 10, work := 10, prog := [(0, stored w)], stalls := [(0, s)] }

/-- The same in T5 steering mode. -/
def due5 (w : Nat) (s : Stall) : Device := (due w s).setN STL 0 0x008 2

/-- IssueDue, as one check. -/
def isDue (d : Device) (op w : Nat) : Bool :=
  decide (0 < 8 ∧ (d.stall 0).cur = 0 ∧ ((d.stall 0).ctx 0).rec_ = some record ∧ d.mayIssue 0 = true ∧ parityOf 33 (d.fetched 0) = false)
    && decide (d.fetched 0 % 2 ^ 32 = w ∧ fOp w = op ∧ d.boundBroken 0 0 record (d.pc 0 0) = false ∧ d.masked 0 0 record (d.pc 0 0) = false)

theorem due_of_isDue (d : Device) (op w : Nat) (h : isDue d op w = true) : IssueDue d 0 op 0 record w := by
  simp only [isDue, Bool.and_eq_true, decide_eq_true_eq] at h
  obtain ⟨⟨_, h2, h3, h4, h5⟩, h6, h7, h8, h9⟩ := h
  exact ⟨by decide, h2, h3, h4, h5, h6, h7, h8, h9⟩

/-- Goes, as one check. -/
def goes (d : Device) (n : Needs) : Bool :=
  decide (d.judge 0 0 record n = .go)
    && (!n.now_ || (d.claimOperands 0 (n.operands record)).1)

theorem goes_of (d : Device) (n : Needs) (h : goes d n = true) : Goes d 0 0 record n := by
  simp only [goes, Bool.and_eq_true, Bool.or_eq_true, Bool.not_eq_true', decide_eq_true_eq] at h
  exact h

/-! The words: LDI g3, 0x8001, MODE 0 to 2; ALU g5 = g1 FUNC g2; ADDI g4 = g4 − 1. -/

def wLdi (mode : Nat) : Nat := word [(0x11, 26), (3, 22), (mode, 20), (0x8001, 0)]
def wAlu (f : Nat) : Nat := word [(0x12, 26), (5, 22), (1, 18), (2, 14), (f, 0)]
def wAddi : Nat := word [(0x13, 26), (4, 22), (4, 18), (0xFFF, 0)]

theorem witness_ScalarResults :
    ((List.range 3).all (fun m => isDue (due (wLdi m) issuing) 0x11 (wLdi m) && decide (fld (wLdi m) 20 2 ≤ 2)) = true)
      ∧ ((List.range 10).all (fun f => isDue (due (wAlu f) issuing) 0x12 (wAlu f) && decide (fld (wAlu f) 0 4 ≤ 9)) = true)
      ∧ isDue (due wAddi issuing) 0x13 wAddi = true
      ∧ (due wAddi issuing).boot.held = false ∧ (due wAddi issuing).t5 0 = false := by decide +kernel

/-- FUNC 7 shifts an all-ones sign in; FUNC 6 does not; LDI MODE 0 extends the sign. -/
theorem test_scalar_results :
    aluOp 7 0x80000000 33 = 0xC0000000 ∧ aluOp 6 0x80000000 33 = 0x40000000 ∧ aluOp 8 0xFFFFFFFF 1 = 0xFFFFFFFF
      ∧ (ldiEffect 0 booted 0 record (wLdi 0)).greg 0 0 3 = 0xFFFF8001 := by decide +kernel

/-- NOP; BR to 9 by each condition SRC_A. -/
def wNop : Nat := 0

/-- Register g6 of the context carries a spoil mark. -/
def badGreg : Stall := { issuing with ctxs := (inBody record).zipIdx.map (fun x => if x.2 = 0 then { x.1 with gSpoil := [6] } else x.1) }

def wBr (cond : Nat) : Nat := word [(0x14, 26), (cond, 23), (1, 21), (6, 17), (9, 0)]

theorem witness_NopAndBranch :
    isDue (due wNop issuing) 0x00 wNop = true ∧ (due wNop issuing).t5 0 = false ∧ ((due wNop issuing).stall 0).branchTo = none
      ∧ loopsAt record ((due wNop issuing).pc 0 0) = [] ∧ (due wNop issuing).pc 0 0 ≠ record.stop
      ∧ ((List.range 8).all (fun c => isDue (due (wBr c) issuing) 0x14 (wBr c)
          && !(due (wBr c) issuing).branchOut 0 0 record (decide (fSrcA (wBr c) = 7)) (brTarget 0 (due (wBr c) issuing) 0 (wBr c))) = true) := by
  decide +kernel

/-- BR 0 holds always; BR 5 holds of g6 = 0, BR 6 does not; outside and inside T5 steering mode; and with g6 spoiled. -/
theorem witness_NopAndBranch_conditions :
    BrHolds (due (wBr 0) issuing) 0 0 record (wBr 0) ∧ BrHolds (due (wBr 5) issuing) 0 0 record (wBr 5)
      ∧ ¬ BrHolds (due (wBr 6) issuing) 0 0 record (wBr 6) ∧ (due (wBr 0) issuing).t5 0 = false ∧ (due5 (wBr 0) issuing).t5 0 = true
      ∧ isDue (due5 (wBr 0) issuing) 0x14 (wBr 0) = true ∧ fld (wBr 0) 0 8 < record.length ∧ (due5 (wBr 0) issuing).pc 0 0 + 1 < record.length
      ∧ isDue (due5 (wBr 5) badGreg) 0x14 (wBr 5) = true ∧ (due5 (wBr 5) badGreg).gSpoil 0 0 (fld (wBr 5) 17 4) = true := by
  refine ⟨?_, ?_, ?_, ?_⟩
  · simp [BrHolds, show fSrcA (wBr 0) = 0 from by decide]
  · simp only [BrHolds, show fSrcA (wBr 5) = 5 from by decide]; decide +kernel
  · simp only [BrHolds, show fSrcA (wBr 6) = 6 from by decide]; decide +kernel
  · decide +kernel

/-- A record with loop 0 on instruction 0, four times. -/
def looped : CtxRecord := { record with loopBound := [4, 0, 0, 0] }

/-- Its context has reached a LIMIT of 0: the instruction is masked. -/
def maskedStall : Stall := { issuing with ctxs := { used := true, rec_ := some looped, inBody := true, limits := [0, 0, 0, 0] } :: List.replicate 7 {} }

theorem witness_LoopsAndMasks_masked :
    (due wNop maskedStall).boot.held = false ∧ ((due wNop maskedStall).stall 0).cur = 0
      ∧ (((due wNop maskedStall).stall 0).ctx 0).rec_ = some looped ∧ (due wNop maskedStall).mayIssue 0 = true
      ∧ (due wNop maskedStall).masked 0 0 looped ((due wNop maskedStall).pc 0 0) = true
      ∧ parityOf 33 ((due wNop maskedStall).fetched 0) = false
      ∧ (due wNop maskedStall).boundBroken 0 0 looped ((due wNop maskedStall).pc 0 0) = false := by decide +kernel

/-- The counter at 2, one below its last pass; at 3, at the end of the loop; and there at END, with END 0. -/
theorem witness_LoopsAndMasks_loops :
    (((due wNop maskedStall).stall 0).branchTo = none ∧ loopsAt looped ((due wNop maskedStall).pc 0 0) = [0]
      ∧ looped.loopBound.getD 0 0 ≤ 65535 ∧ looped.loopFirst.getD 0 0 < 256 ∧ looped.entry < 256)
    ∧ ((due wNop maskedStall).setCnt 0 0 0 2).cnt 0 0 0 + 1 < looped.loopBound.getD 0 0
    ∧ (looped.loopBound.getD 0 0 ≤ ((due wNop maskedStall).setCnt 0 0 0 3).cnt 0 0 0 + 1 ∧ (due wNop maskedStall).pc 0 0 ≠ looped.stop)
    ∧ (loopsAt { looped with stop := 0 } ((due wNop maskedStall).pc 0 0) = [0]
      ∧ (due wNop maskedStall).pc 0 0 = ({ looped with stop := 0 } : CtxRecord).stop) := by decide +kernel

/-- MAC8 and MAC4: words at P1, plane 15, group 1, OPEN and CLOSE, result held; and from baskets N and E. -/
def wMac (op src : Nat) (opn cls : Nat) (dst : Nat) : Nat :=
  word [(op, 26), (src, 23), (1, 20), (15, 16), (1, 11), (opn, 10), (cls, 9), (dst, 6), (1, 4)]

/-- A data word at the head of a basket. -/
def holding (w : BWord) : Basket := { chain := [⟨w, 0, false⟩] }

/-- Baskets N and E hold a word of ones. -/
def fed : Stall := { issuing with baskets := [holding (dataWord 0x0101010101010101 false false 0), holding (dataWord 0x7F80FF0102030405 true false 0), {}, {}] }

/-- How a MOV stands: no word at basket N; a word of another generation; a read of word 8,192; a store outside every region; no room on a
lane output; a PFILL of a plane that is being filled; reads of a line buffer behind F and past FEED_WORDS. -/
def wMovTo (src dst : Nat) : Nat := word [(0x10, 26), (src, 23), (dst, 20), (1, 18), (1, 14)]
def oldGen : Stall := { issuing with baskets := [holding (dataWord 1 false false 3), {}, {}, {}] }
def far : Device := (due (wMovTo 4 3) issuing).setGreg 0 0 13 8192
def away : Device := (due (wMovTo 0 4) fed).setGreg 0 0 12 70
def roomless : Device := (due (wMovTo 0 3) fed).setN ARC 0 0x1D0 0
def buffered : CtxRecord := { record with feed := 0, lbBase := 0, lbSize := 16, feedWords := 8 }
def bufStall : Stall := { issuing with ctxs := inBody buffered }

theorem witness_LoopsAndMasks_needs :
    (isDue (due (wMovTo 0 3) issuing) 0x10 (wMovTo 0 3)
      && decide ((due (wMovTo 0 3) issuing).judge 0 0 record (movNeeds 0 (due (wMovTo 0 3) issuing) 0 record (wMovTo 0 3)) = .waitIn 0)
      && isDue (due (wMovTo 0 3) oldGen) 0x10 (wMovTo 0 3)
      && decide ((due (wMovTo 0 3) oldGen).judge 0 0 record (movNeeds 0 (due (wMovTo 0 3) oldGen) 0 record (wMovTo 0 3)) = .fault 0x4007 0 0)
      && isDue far 0x10 (wMovTo 4 3)
      && decide (far.judge 0 0 record (movNeeds 0 far 0 record (wMovTo 4 3)) = .fault 0x4002 0 (far.pc 0 0))
      && isDue away 0x10 (wMovTo 0 4)
      && decide (away.judge 0 0 record (movNeeds 0 away 0 record (wMovTo 0 4)) = .fault 0x4002 0 (away.pc 0 0))
      && isDue roomless 0x10 (wMovTo 0 3)
      && decide (roomless.judge 0 0 record (movNeeds 0 roomless 0 record (wMovTo 0 3)) = .waitOut)) = true
    ∧ ((due (wMovTo 4 3) bufStall).judge 0 0 buffered (movNeeds 0 (due (wMovTo 4 3) bufStall) 0 buffered (wMovTo 4 3)) = .waitIn 0
      ∧ ((due (wMovTo 4 3) bufStall).setGreg 0 0 13 15).judge 0 0 buffered
          (movNeeds 0 ((due (wMovTo 4 3) bufStall).setGreg 0 0 13 15) 0 buffered (wMovTo 4 3)) = .fault 0x4003 0 0) := by decide +kernel

/-- BR 7 where g6 points past a program of 9 instructions; a loop counter at its bound; a word whose parity bit is wrong. -/
def shortRec : CtxRecord := { record with length := 9, stop := 8 }
def indirect : Device := (due (wBr 7) { issuing with ctxs := inBody shortRec }).setGreg 0 0 6 9
def bounded : Device := (due wNop { issuing with ctxs := inBody looped }).setCnt 0 0 0 4
def garbled : Device := { due wNop issuing with prog := [(0, stored wNop ^^^ 1)] }

theorem witness_LoopsAndMasks_faults :
    (indirect.mayIssue 0 = true ∧ brTarget 0 indirect 0 (wBr 7) = some 9 ∧ fSrcA (wBr 7) = 7 ∧ shortRec.length ≤ 9)
    ∧ (bounded.mayIssue 0 = true ∧ parityOf 33 (bounded.fetched 0) = false ∧ bounded.boundBroken 0 0 looped (bounded.pc 0 0) = true)
    ∧ (garbled.mayIssue 0 = true ∧ parityOf 33 (garbled.fetched 0) = true ∧ garbled.faultHeld STL 0 = false) := by decide +kernel

/-- Word addresses with weights in plane 15 and taps in the window register. -/
def armed (s : Stall) : Stall :=
  { s with planes := [(15, { bytes := (List.range 320).map (fun i => BitVec.ofNat 8 (3 * i + 1)) })],
           window := (List.range 256).map (fun i => (i, BitVec.ofNat 8 (i + 1))),
           tb := (List.range 512).map (fun i => (i, BitVec.ofNat 10 (7 * i + 1))),
           accs := (List.range 512).map (fun i => (i, BitVec.ofNat 32 (1000 * i + 1))) }

theorem witness_FiringSums_dense :
    ([0, 1, 2].all (fun oc => [(4, issuing), (5, issuing), (0, fed)].all (fun x =>
      let w := wMac 0x01 x.1 (oc % 2) (oc / 2) 4
      isDue (due w (armed x.2)) 0x01 w && goes (due w (armed x.2)) (denseNeeds 16 (due w (armed x.2)) 0 record 0 w))) = true)
    ∧ ([0, 1, 2].all (fun oc => [(4, issuing), (5, issuing), (0, fed)].all (fun x =>
      let w := wMac 0x02 x.1 (oc % 2) (oc / 2) 3
      isDue (due w (armed x.2)) 0x02 w && goes (due w (armed x.2)) (denseNeeds 32 (due w (armed x.2)) 0 record 0 w))) = true)
    ∧ (due 0 (armed fed)).boot.held = false := by decide +kernel

/-- DWMAC and PMAX on plane 15 and group 1, opened or not. -/
def wWindow (op opn : Nat) : Nat := word [(op, 26), (15, 16), (1, 11), (opn, 10)]

theorem witness_FiringSums_window :
    [(0x04, 0), (0x04, 1), (0x05, 0), (0x05, 1)].all (fun x =>
      let w := wWindow x.1 x.2
      isDue (due w (armed issuing)) x.1 w && goes (due w (armed issuing)) (windowNeeds 0 (due w (armed issuing)) 0 record w)) = true := by
  decide +kernel

/-- WMAC at position 15 of Winograd group 1; WXF from P0 into buffer 1; WADV of eight words at P0. -/
def wWmac (opn cls : Nat) : Nat := word [(0x03, 26), (1, 25), (15, 16), (1, 15), (15, 11), (opn, 10), (cls, 9), (4, 6)]
def wWxf : Nat := word [(0x08, 26), (1, 22), (1, 19), (1, 18)]
def wWadv : Nat := word [(0x09, 26), (7, 17), (1, 16)]

theorem witness_WinogradAndWindowMoves :
    ([(0, 0), (1, 0), (0, 1), (1, 1)].all (fun x =>
      let w := wWmac x.1 x.2
      isDue (due w (armed issuing)) 0x03 w && goes (due w (armed issuing)) (wmacNeeds 0 (due w (armed issuing)) 0 record w)) = true)
    ∧ (isDue (due wWxf (armed issuing)) 0x08 wWxf && goes (due wWxf (armed issuing)) (wxfNeeds 0 (due wWxf (armed issuing)) 0 record wWxf)) = true
    ∧ fld wWxf 19 1 < ((due wWxf (armed issuing)).stall 0).tbReady.length
    ∧ (isDue (due wWadv (armed issuing)) 0x09 wWadv && goes (due wWadv (armed issuing)) (wadvNeeds 0 (due wWadv (armed issuing)) 0 record wWadv)) = true := by
  decide +kernel

/-- PFILL of plane 2 from P1 at offset 5, of 32 or 40 words; LATCH of entries 4 to 7 with biases at P2. -/
def wPfill (wino : Nat) : Nat := word [(0x0A, 26), (1, 24), (wino, 23), (2, 16), (5, 0)]
def wLatch : Nat := word [(0x0B, 26), (4, 16), (4, 10), (2, 8), (1, 0)]

/-- One fill of each kind is under way. -/
def filling : Stall :=
  { issuing with planeFills := [⟨2, 0, false, false, 9, (List.range 8).map (fun i => 24 + i), List.replicate 24 (0, false)⟩],
                 latchFills := [⟨0, 0, 0, false, 9, [], []⟩], wgReads := [(1, some (10, false))], latchAt := some 10 }
/-- The latch fill alone, of one entry that reads as zero: it fails (R68). -/
def latching : Stall :=
  { issuing with latchFills := [⟨0, 0, 1, false, 9, [0, 1, 2], []⟩], setWords := 2 }

theorem witness_Fills :
    ([0, 1].all (fun x => isDue (due (wPfill x) issuing) 0x0A (wPfill x)
      && goes (due (wPfill x) issuing) (pfillNeeds 0 (due (wPfill x) issuing) 0 record (wPfill x))) = true)
    ∧ (isDue (due wLatch issuing) 0x0B wLatch && goes (due wLatch issuing) (latchNeeds 0 (due wLatch issuing) 0 record wLatch)) = true
    ∧ (due wLatch issuing).t5 0 = false
    ∧ (((due 0 filling).stall 0).planeAsks 10 = filling.planeFills.head? ∧ (filling.planeFills.getD 0 ⟨0, 0, false, false, 0, [], []⟩).todo.length = 8
      ∧ (due 0 filling).bell.hushed = false ∧ allFree ((due 0 filling).afterPrio3 0) = true)
    ∧ (((due 0 latching).stall 0).latchAsks 10 = some ⟨0, 0, 1, false, 9, [0, 1, 2], []⟩ ∧ allFree ((due 0 latching).afterPrio2 0) = true
      ∧ (latching.filledLatch ⟨0, 0, 1, false, 9, [0, 1, 2], []⟩ [(0, false), (0, false), (0, false)]).2 ≠ []
      ∧ (due 0 latching).faultHeld STL 0 = false)
    ∧ (({ latching with latchFills := [⟨0, 0, 0, false, 9, [], []⟩] } : Stall).latchAsks 10 = some ⟨0, 0, 0, false, 9, [], []⟩
      ∧ (({ latching with latchFills := [⟨0, 0, 0, false, 9, [], []⟩] } : Stall).filledLatch ⟨0, 0, 0, false, 9, [], []⟩ []).2 = [])
    ∧ KMap.get ((due 0 filling).stall 0).wgReads 1 none = some (10, false) := by decide +kernel

/-- RSC of group 3 and MOV from P1, each to lane 3 and to the store at P0 without and with its advance. -/
def wRsc (dst : Nat) : Nat := word [(0x0C, 26), (3, 11), (dst, 6), (1, 0)]
def wMov (src dst : Nat) : Nat := word [(0x10, 26), (src, 23), (dst, 20), (1, 18), (1, 14)]

theorem witness_ResultDestinations :
    ([3, 4, 5].all (fun x => isDue (due (wRsc x) (armed issuing)) 0x0C (wRsc x)
      && goes (due (wRsc x) (armed issuing)) (rscNeeds 0 (due (wRsc x) (armed issuing)) 0 record (wRsc x))) = true)
    ∧ ([(4, 3), (5, 4), (0, 5), (0, 0)].all (fun x => isDue (due (wMov x.1 x.2) fed) 0x10 (wMov x.1 x.2)
      && goes (due (wMov x.1 x.2) fed) (movNeeds 0 (due (wMov x.1 x.2) fed) 0 record (wMov x.1 x.2)) && decide (mDst (wMov x.1 x.2) ≤ 5)) = true)
    ∧ (due 0 fed).t5 0 = false ∧ (((due 0 fed).stall 0).ctx 0).spoilPushes = false ∧ ((due 0 fed).stall 0).outq.length = 4 := by
  decide +kernel

/-- The adaptation operations with POST: group 1 to the block at P0, g and state blocks at P1 and P2; CROFS is in g9. -/
def wAdapt (op : Nat) : Nat := word [(op, 26), (1, 24), (0, 22), (2, 20), (1, 19), (1, 11)]

/-- With P1 at word 8, P2 at 16 and the C8 block 24 words behind the W8 block. -/
def adapting (op : Nat) : Device :=
  ((((due (wAdapt op) { armed issuing with regions := [⟨6, 0, 0, 64⟩] }).setGreg 0 0 13 8).setGreg 0 0 14 16).setGreg 0 0 9 24).setGreg 0 0 10 0x00120B05

theorem witness_AdaptationResults :
    (isDue (adapting 0x18) 0x18 (wAdapt 0x18) && goes (adapting 0x18) (g8pNeeds 0 (adapting 0x18) 0 record (wAdapt 0x18))) = true
    ∧ ([0x19, 0x1A].all (fun op => isDue (adapting op) op (wAdapt op) && goes (adapting op) (momentNeeds 0 (adapting op) 0 record (wAdapt op))) = true)
    ∧ (isDue (adapting 0x1B) 0x1B (wAdapt 0x1B) && goes (adapting 0x1B) (wupdNeeds 0 (adapting 0x1B) 0 record (wAdapt 0x1B))) = true
    ∧ (adapting 0x1B).boot.held = false := by decide +kernel

/-- A USER token for context 0. -/
def userToken : BWord := tokenWord 0x60012345 0

/-- Baskets N with a data word and E with a USER token. -/
def steered : Stall :=
  { issuing with baskets := [holding (dataWord 0x1122334455667788 false true 0), holding userToken, {}, {}] }

/-! The words: GET g3 from N, its high half; GETT g3 from E; PUT g4 and g5 to lane 3; DJNZ g6 to 9; BRCMP g6 against g7 by each comparison. -/

def wGet : Nat := word [(0x30, 26), (3, 22), (0, 20), (1, 19)]
def wGett : Nat := word [(0x32, 26), (3, 22), (1, 20)]
def wPut : Nat := word [(0x31, 26), (4, 22), (5, 18), (3, 16), (1, 15)]
def wDjnz : Nat := word [(0x33, 26), (6, 22), (9, 0)]
def wBrcmp (cond : Nat) : Nat := word [(0x34, 26), (cond, 23), (6, 19), (7, 15), (9, 0)]

theorem witness_SteeringMode_baskets :
    (due5 wGet steered).t5 0 = true
    ∧ ((due5 wGet steered).headOf 0 (fld wGet 20 2) = some (dataWord 0x1122334455667788 false true 0)
      ∧ (dataWord 0x1122334455667788 false true 0).parOk = true ∧ (dataWord 0x1122334455667788 false true 0).ctl = false
      ∧ (dataWord 0x1122334455667788 false true 0).gen = (((due5 wGet steered).stall 0).ctx 0).gen ∧ isDue (due5 wGet steered) 0x30 wGet = true)
    ∧ ((due5 wGett steered).headOf 0 (fld wGett 20 2) = some userToken ∧ (due5 wGett steered).gettReady 0 (fld wGett 20 2) = true
      ∧ isDue (due5 wGett steered) 0x32 wGett = true)
    ∧ ((due5 wPut steered).outRoom 0 (fld wPut 16 2) 1 = true ∧ ((due5 wPut steered).stall 0).outq.length = 4
      ∧ (((due5 wPut steered).stall 0).ctx 0).spoilPushes = false ∧ isDue (due5 wPut steered) 0x31 wPut = true) := by decide +kernel

theorem witness_SteeringMode_branches :
    (isDue (due5 wDjnz steered) 0x33 wDjnz = true ∧ (due5 wDjnz steered).gSpoil 0 0 (fld wDjnz 22 4) = false
      ∧ (due5 wDjnz steered).branchOut 0 0 record false (djnzTarget 0 (due5 wDjnz steered) 0 wDjnz) = false
      ∧ (due5 wDjnz steered).greg 0 0 (fld wDjnz 22 4) ≠ 1 ∧ ((due5 wDjnz steered).setGreg 0 0 6 1).greg 0 0 6 = 1)
    ∧ ((List.range 4).all (fun c =>
        isDue (due5 (wBrcmp c) steered) 0x34 (wBrcmp c) && !(due5 (wBrcmp c) steered).gSpoil 0 0 (fld (wBrcmp c) 19 4)
          && !(due5 (wBrcmp c) steered).gSpoil 0 0 (fld (wBrcmp c) 15 4)
          && !(due5 (wBrcmp c) steered).branchOut 0 0 record false (brcmpTarget 0 (due5 (wBrcmp c) steered) 0 (wBrcmp c))) = true) := by
  decide +kernel

/-! ### Baskets, lanes and tokens -/

/-- A plain data word. -/
def plain : BWord := dataWord 0x0123456789ABCDEF false false 0

/-- Words waiting in a row. -/
def row (n : Nat) : List Held := List.replicate n ⟨plain, 0, false⟩

/-- Stall 1 is open at cycle 10 with a basket E. -/
def basketed (k : Basket) : Device :=
  { (booted.setN STL 1 0x008 0) with now := 10, work := 10, stalls := [(1, { issuing with baskets := [{}, k, {}, {}] })] }

/-- A chain one below its eight words; a full chain with three words in the spill queue and an extension. -/
theorem witness_BasketPushPlace :
    [({ chain := row 7 } : Basket), { chain := row 8, spill := row 3, ext := 8 }, { chain := row 8, ext := 8 },
      { chain := row 1, ext := 8, ringCount := 1 }].all (fun k =>
      decide (1 < ((basketed k).stall 1).baskets.length ∧ (((basketed k).stall 1).basket 1).depth < 8 + (((basketed k).stall 1).basket 1).ext
        ∧ (((basketed k).stall 1).basket 1).spill.length < 4)) = true
    ∧ ((row 8).length = 8 ∧ 8 + ({ chain := row 8 } : Basket).ext ≤ ({ chain := row 8 } : Basket).depth
      ∧ ({ chain := row 8, spill := row 4, ext := 8 } : Basket).depth < 8 + 8 ∧ 4 ≤ ({ chain := row 8, spill := row 4, ext := 8 } : Basket).spill.length) := by
  decide

/-- Output E of stall 0 has a ready word, its wheel selects its own queue with DLV, and FREE is 1; a word that is due at basket W of stall 1;
a credit due for output E. -/
def laning : Device :=
  let d := ((due 0 { issuing with outq := [[], [⟨plain, 10⟩], [], []] }).setN ARC 0 0x120 9).setN ARC 0 0x1B0 1
  { d with arcade := { d.arcade with lanes := [⟨.basket 1 3, 10, plain, true⟩], credits := [⟨10, .lane 0 1 0⟩] } }

/-- A word that is due at the last edge position, where an egress basket is, or an outgoing Aisle channel. -/
def outTo (e : Nat) : OutChan := { link := 7, porter := false, edge := e, cells := [], queue := [], credit := 0 }
def atEdge (outs : KMap (Option OutChan)) : Device :=
  { laning with arcade := { laning.arcade with lanes := [⟨.edge 319, 10, plain, true⟩] }, aisles := { laning.aisles with outs := outs } }

theorem witness_LanesAndCredits :
    laning.boot.held = false ∧ laning.bell.hushed = false
    ∧ ((laning.stall 0).outq.getD 1 [] = [⟨plain, 10⟩] ∧ laning.wheelEntry 0 1 laning.arcade.wheel % 8 = 1 ∧ 10 ≤ laning.work
      ∧ 0 < laning.outFree 0 1 ∧ 0 ∈ laning.leafLines 0 1 ∧ laning.laneTo 0 1 = some (.basket 1 3))
    ∧ ((laning.stall 1).baskets.length = 4
      ∧ laning.arcade.lanes.find? (fun y => decide (y.dest = .basket 1 3 ∧ y.due ≤ laning.work)) = some ⟨.basket 1 3, 10, plain, true⟩
      ∧ ((laning.stall 1).basket 3).depth < 8 + ((laning.stall 1).basket 3).ext ∧ ((laning.stall 1).basket 3).spill = []
      ∧ ((laning.stall 1).basket 3).ringCount = 0 ∧ ((laning.stall 1).basket 3).chain.length < 8)
    ∧ ((laning.stall 0).pushed = [] ∧ laning.arcade.credited = [])
    ∧ ([atEdge [], atEdge [(5, some (outTo 319))]].all (fun d => decide (
        d.arcade.lanes.find? (fun y => decide (y.dest = .edge 319 ∧ y.due ≤ d.work)) = some ⟨.edge 319, 10, plain, true⟩ ∧ (d.egress 319).items < 16
          ∧ d.edgePort 319 = none)) = true)
    ∧ ((atEdge []).edgeAisle 319 = none ∧ (atEdge [(5, some (outTo 319))]).edgeAisle 319 = some (5, outTo 319))
    ∧ ((⟨10, .lane 0 1 0⟩ : CreditFlight) ∈ laning.arcade.credits ∧ laning.freeOf 0 1 0 < 4095
      ∧ (laning.setFree 0 1 0 4094).freeOf 0 1 0 < 4095) := by decide +kernel

/-- Baskets with an extension of 16 words at word 64: one that spills behind a full chain, one whose group's tags are due, one whose head
entry may enter the chain, and one whose head group's tags are still in the store. -/
def spilling : Basket := { chain := row 8, spill := row 1, ext := 16, base := 64 }
def tagging : Basket := { chain := row 8, ext := 16, base := 64, ringCount := 8, tagAcc := List.replicate 8 1, tagDue := some 0 }
def reading : Basket := { chain := row 7, ext := 16, base := 64, ringCount := 1, tagAcc := [1] }
def untagged : Basket := { ext := 16, base := 64, ringCount := 9, tagAcc := [1] }

/-- The bank of the word is free of the extension accesses ahead. -/
def extFree (k : Basket) (x : ExtKind) (a : Nat) : Bool :=
  decide (a % 8 ∉ ((basketed k).stall 1).afterExt 10 (extOrder.takeWhile (fun e => !decide (e = (x, 1)))))

theorem witness_ExtensionRing :
    [spilling, tagging, reading, untagged].all (fun k =>
      !(basketed k).boot.held && !(basketed k).bell.hushed && decide (((basketed k).stall 1).baskets.length = 4
        ∧ ((basketed k).stall 1).basket 1 = k)) = true
    ∧ (spilling.spill = [⟨plain, 0, false⟩] ∧ spilling.tagDue = none ∧ spilling.ringCount < spilling.ext ∧ 8 ≤ spilling.chain.length
      ∧ extFree spilling .dataWrite (spilling.entryWord spilling.tail) = true)
    ∧ (tagging.tagDue = some 0 ∧ extFree tagging .tagWrite (tagging.tagWord 0) = true)
    ∧ (reading.headTags = some [1] ∧ 0 < reading.ringCount ∧ reading.chain.length < 8
      ∧ extFree reading .dataRead (reading.entryWord reading.ringHead) = true)
    ∧ (0 < untagged.ringCount ∧ untagged.ringHead % 8 = 0 ∧ untagged.headTags = none
      ∧ extFree untagged .tagRead (untagged.tagWord (untagged.ringHead / 8)) = true
      ∧ (decodeWord ((basketed untagged).storeCode 1 (untagged.tagWord (untagged.ringHead / 8)))).spoil = false
      ∧ (decodeWord ({ basketed untagged with store := [(8192 + untagged.tagWord 0, encodeWord 0 true)] }.storeCode 1
          (untagged.tagWord (untagged.ringHead / 8)))).spoil = true) := by decide +kernel

/-- The first entry of the ring lies one word behind the first tag word. -/
theorem test_ring_entry_addresses : spilling.entryWord 0 = 65 ∧ spilling.entryWord 8 = 74 ∧ spilling.tagWord 1 = 73 := by decide

/-- Stall 0 between bodies, or in one, with a word at the head of basket N. -/
def between (w : BWord) : Stall :=
  { issuing with ctxs := { used := true, rec_ := some looped, limits := [0, 0, 0, 0] } :: List.replicate 7 {},
                 baskets := [holding w, {}, {}, {}] }
def within (w : BWord) : Stall :=
  { issuing with ctxs := { used := true, rec_ := some looped, inBody := true, slot := 511, limits := [0, 0, 0, 0] } :: List.replicate 7 {},
                 baskets := [holding w, {}, {}, {}] }

/-- SLOT 511 with set B. -/
def slotTok : BWord := tokenWord 0x110001FF 0

theorem witness_SlotTokenBeginsBody :
    (due 0 (between slotTok)).boot.held = false ∧ (due 0 (between slotTok)).headOf 0 0 = some slotTok ∧ slotTok.kind = 1 ∧ slotTok.tctx = 0
      ∧ (due 0 (between slotTok)).mayTake 0 0 = true ∧ (due 0 (between slotTok)).tokenFails 0 slotTok = false
      ∧ (((due 0 (between slotTok)).stall 0).ctx 0).rec_ = some looped ∧ (((due 0 (between slotTok)).stall 0).ctx 0).slotBaskets = [0]
      ∧ (((due 0 (between slotTok)).stall 0).ctx 0).joined = [] ∧ (((due 0 (between slotTok)).stall 0).ctx 0).joinVoid = false
      ∧ (((due 0 (between slotTok)).stall 0).ctx 0).owed = 0 ∧ (((due 0 (between slotTok)).stall 0).ctx 0).joinOk slotTok = true := by
  decide +kernel

/-- A join of baskets N and E of which this is the first token; and a context that owes a body. -/
def halfJoined : Stall :=
  { between slotTok with ctxs := { used := true, rec_ := some { looped with slotBaskets := 3 }, limits := [0, 0, 0, 0] } :: List.replicate 7 {} }
def owes : Stall :=
  { between slotTok with ctxs := { used := true, rec_ := some looped, owed := 1, limits := [0, 0, 0, 0] } :: List.replicate 7 {} }

theorem witness_SlotTokenBeginsBody_others :
    ((due 0 halfJoined).mayTake 0 0 = true ∧ ((halfJoined.ctx 0).slotBaskets = [0, 1]) ∧ (halfJoined.ctx 0).joinOk slotTok = true
      ∧ (due 0 halfJoined).tokenFails 0 slotTok = false)
    ∧ ((due 0 owes).mayTake 0 0 = true ∧ (owes.ctx 0).owed = 1 ∧ (owes.ctx 0).joinOk slotTok = true ∧ (due 0 owes).tokenFails 0 slotTok = false) := by
  decide +kernel

/-- LIMIT 4 of loop 0, equal to LOOP_BOUND; ARM 3; a token whose halves do not agree, and one of the reserved KIND 7. -/
def limitTok : BWord := tokenWord 0x20000004 0
def armTok : BWord := tokenWord 0x30000003 0
def brokenTok : BWord := BWord.sealed { tokenWord 0x10000000 0 with data := 0x10000000 }
def reservedTok : BWord := tokenWord 0x70000000 0

/-- A copy waits for lane output 3, as the only copy. -/
def forwarding (lanes : List Nat) : Stall := { issuing with forward := [⟨0x10000005, 0, lanes, 10⟩] }

/-- LIMIT 5, one above LOOP_BOUND. -/
def highTok : BWord := tokenWord 0x20000005 0

theorem witness_LimitArmInvalidForward :
    ([limitTok, armTok].all (fun w => decide ((due 0 (within w)).headOf 0 0 = some w ∧ w.tctx = 0
        ∧ (((due 0 (within w)).stall 0).ctx 0).rec_ = some looped ∧ (due 0 (within w)).mayTake 0 0 = true
        ∧ (due 0 (within w)).tokenFails 0 w = false ∧ ((due 0 (within w)).stall 0).ctxs.length = 8
        ∧ (((due 0 (within w)).stall 0).ctx 0).limits.length = 4)) = true)
    ∧ (limitTok.kind = 2 ∧ fld limitTok.payload.toNat 0 16 ≤ looped.loopBound.getD (fld limitTok.payload.toNat 22 2) 0 ∧ armTok.kind = 3)
    ∧ ([brokenTok, reservedTok].all (fun w => decide ((due 0 (within w)).headOf 0 0 = some w ∧ w.ctl = true
        ∧ (due 0 (within w)).mayTake 0 0 = true ∧ (due 0 (within w)).tokenFails 0 w = true ∧ (due 0 (within w)).faultHeld STL 0 = false)) = true)
    ∧ (tokenClean brokenTok = false ∧ tokenClean reservedTok = true)
    ∧ ((due 0 (within highTok)).headOf 0 0 = some highTok ∧ highTok.kind = 2 ∧ (due 0 (within highTok)).mayTake 0 0 = true
      ∧ (due 0 (within highTok)).tokenFails 0 highTok = false ∧ looped.loopBound.getD (fld highTok.payload.toNat 22 2) 0 < fld highTok.payload.toNat 0 16)
    ∧ (((due 0 (forwarding [3])).stall 0).forward = [⟨0x10000005, 0, [3], 10⟩] ∧ ((due 0 (forwarding [3])).stall 0).outq.length = 4
      ∧ (due 0 (forwarding [3])).bell.hushed = false ∧ (due 0 (forwarding [3])).outRoom 0 3 1 = true ∧ ([0, 3] : List Nat).Nodup
      ∧ ((due 0 (forwarding [0, 3])).setN ARC 0 0x1A0 0).outRoom 0 0 1 = false) := by decide +kernel

/-- VOID for slot 511; GEN of generation 1, between the load bell and the completion bell; a data word in a basket that drains. -/
def voidTok : BWord := tokenWord 0x500001FF 0
def genTok : BWord := tokenWord 0x40000001 0
def draining : Stall := { between plain with ctxs := { used := true, rec_ := some looped, draining := [0] } :: List.replicate 7 {} }
def loading (s : Stall) : Device := (due 0 s).setN CLK 0 0x110 3

theorem witness_VoidGenDrain :
    ((due 0 (within voidTok)).headOf 0 0 = some voidTok ∧ (((due 0 (within voidTok)).stall 0).ctx 0).rec_ = some looped
      ∧ ((due 0 (within voidTok)).stall 0).ctxs.length = 8 ∧ voidTok.kind = 5 ∧ voidTok.tctx = 0
      ∧ (due 0 (within voidTok)).mayTake 0 0 = true ∧ (due 0 (within voidTok)).tokenFails 0 voidTok = false
      ∧ (((due 0 (within voidTok)).stall 0).ctx 0).inBody = true)
    ∧ ((loading (between genTok)).headOf 0 0 = some genTok ∧ genTok.isGen = true ∧ genTok.tctx = 0 ∧ (loading (between genTok)).mayTake 0 0 = true
      ∧ (loading (between genTok)).tokenFails 0 genTok = false ∧ (loading (between genTok)).genWindow = true
      ∧ BitVec.ofNat 2 genTok.payload.toNat = ((loading (between genTok)).stall 0).gen + 1
      ∧ (((loading (between genTok)).stall 0).ctx 0).slotBaskets = [0])
    ∧ ((due 0 draining).headOf 0 0 = some plain ∧ plain.ctl = false ∧ (due 0 draining).closed 0 = false
      ∧ (((due 0 draining).stall 0).ctx 0).draining = [0] ∧ (((due 0 draining).stall 0).ctx 0).drainFrom ≤ (due 0 draining).work
      ∧ (List.range 8).all (fun j => decide (j = 0) || decide ((((due 0 draining).stall 0).ctx j).draining = [])) = true
      ∧ ((due 0 draining).stall 0).baskets.length = 4) := by decide +kernel

/-- A VOID token between bodies; a GEN token outside the load's window and one of generation 2 inside it; a SLOT token where a basket drains. -/
def genTok2 : BWord := tokenWord 0x40000002 0
def drainingAt (w : BWord) : Stall := { draining with baskets := [holding w, {}, {}, {}] }

theorem witness_VoidGenDrain_others :
    ((due 0 (between voidTok)).mayTake 0 0 = true ∧ ((between voidTok).ctx 0).inBody = false ∧ ((between voidTok).ctx 0).joinOk voidTok = true
      ∧ ((between voidTok).ctx 0).owed = 0 ∧ (due 0 (between voidTok)).tokenFails 0 voidTok = false)
    ∧ ((due 0 (between genTok)).mayTake 0 0 = true ∧ (due 0 (between genTok)).genWindow = false ∧ (loading (between genTok2)).mayTake 0 0 = true
      ∧ (loading (between genTok2)).tokenFails 0 genTok2 = false
      ∧ BitVec.ofNat 2 genTok2.payload.toNat ≠ ((loading (between genTok2)).stall 0).gen + 1)
    ∧ ((due 0 (drainingAt slotTok)).headOf 0 0 = some slotTok ∧ slotTok.ctl = true ∧ slotTok.kind = 1
      ∧ (due 0 (drainingAt armTok)).tokenFails 0 armTok = false) := by decide +kernel

/-- A line buffer of 16 words at word 32, fed from basket N: one pad row, or one row of the tail to discard, of two words. -/
def fedRecord : CtxRecord := { record with feed := 0, lbBase := 32, lbSize := 16, feedWords := 64 }
def lbOf (pad tail : Nat) : LbDecl :=
  { nb := 1, pwd := 0, w := 1, tailC := 0, y0 := 0, ownRows := 0, tailR := tail, padT := pad, padB := 0, padL := 0, padR := 0, padCode := 0x7F,
    rper := 0, cper := 0, rmask := 1, cmask := 1, htBsk := 7, hbBsk := 7, htRows := 0, hbRows := 0, htN := 0, hbN := 0 }
def feedOf (l : LbDecl) : Device :=
  (due 0 { issuing with ctxs := { used := true, rec_ := some fedRecord, lb := some l, feeding := true } :: List.replicate 7 {},
                        baskets := [holding plain, {}, {}, {}] }).setN LDG 0 0x130 6399

/-- One row of its own to take; and a head of an older generation. -/
def lbTake : LbDecl := { lbOf 0 0 with ownRows := 1 }
def staleFeed : Device :=
  { feedOf lbTake with stalls := [(0, { (feedOf lbTake).stall 0 with baskets := [holding (dataWord 1 false false 3), {}, {}, {}] })] }

theorem witness_SwitchAndFeed_take :
    ((feedOf lbTake).stall 0).feeding = some (0, fedRecord, lbTake, .take 0)
      ∧ feedAddr fedRecord 0 % 8192 % 8 ∉ (feedOf lbTake).beforeFeed 0 ∧ (feedOf lbTake).headOf 0 0 = some plain
      ∧ (staleFeed.stall 0).feeding = some (0, fedRecord, lbTake, .take 0) ∧ staleFeed.headGen 0 0 0 = some 3 := by decide +kernel

/-- A switch to context 7 is asked for. -/
def switching : Device := due 0 { issuing with switchTo := some 7 }

theorem witness_SwitchAndFeed :
    (switching.closed 0 = false ∧ switching.bell.hushed = false ∧ (switching.stall 0).switchTo = some 7 ∧ (switching.stall 0).groupOpen 10 = false
      ∧ (switching.stall 0).latchFilling 10 = false)
    ∧ (((feedOf (lbOf 1 0)).stall 0).feeding = some (0, fedRecord, lbOf 1 0, .pad) ∧ ((feedOf (lbOf 1 0)).stall 0).ctxs.length = 8
      ∧ ((feedOf (lbOf 1 0)).stall 0).fedAt = none
      ∧ feedAddr fedRecord (((feedOf (lbOf 1 0)).stall 0).ctx 0).fed % 8192 % 8 ∉ (feedOf (lbOf 1 0)).beforeFeed 0
      ∧ (feedOf (lbOf 1 0)).closed 0 = false)
    ∧ (((feedOf (lbOf 0 1)).stall 0).feeding = some (0, fedRecord, lbOf 0 1, .drop 0) ∧ ((feedOf (lbOf 0 1)).stall 0).baskets.length = 4
      ∧ (feedOf (lbOf 0 1)).headOf 0 0 = some plain ∧ plain.ctl = false ∧ plain.gen = (((feedOf (lbOf 0 1)).stall 0).ctx 0).gen) := by
  decide +kernel


/-! ### The bell, the hush and the Weighbridge -/

/-- The bell master with RUN set and bells ringing: 26 unhushed stalls' worth of nothing, a round of 3 hushed cycles over a slack of 4, and two
fires of context 7 of stall 6,399. -/
def ringing : Device :=
  let d := (((((booted.setN BEL 0 0x008 3).setN BEL 0 0x010 1).setN BEL 0 0x118 4).setN BEL 0 0x130 3).setN BEL 0 0x134 2).setN STL 6399 0x19C 2
  { d with now := 100, work := 97, stalls := [(6399, issuing)], bell := { d.bell with acc := 65535, count := 2 ^ 64 - 2, everRung := true } }

/-- The carry of ACC + FRAC out of 16 bits, at ACC = 65,535 and at ACC = 0. -/
theorem witness_BellOpensRound :
    [ringing, { ringing with bell := { ringing.bell with acc := 0, int := 2 ^ 24 - 2 } }].all (fun d =>
      !d.boot.held && !d.bell.waiting && d.bellsRing && d.rb BEL 0 0x008 0 && !d.follows && !d.rb BEL 0 0x008 2
      && (List.range 4).all (fun k => decide (k = 0) || !d.decidedAt k (d.bell.count + 1)) && !d.masterLost
      && decide (d.loadState ≠ 3 ∧ d.loadState ≠ 4 ∧ d.bell.int < 2 ^ 24 - 1 ∧ (6399, issuing) ∈ d.stalls)) = true := by decide +kernel

/-- The length of the round and OVER_BUDGET of such a bell: 6,666,666 cycles and one more, with 3 + 2 hushed cycles over a slack of 4. -/
theorem test_bell_round : ringing.bellRow.rf BEL 0 0x12C 0 24 = 6666667 ∧ ringing.bellRow.rb BEL 0 0x010 5 = true
    ∧ ringing.bellRow.regN STL 6399 0x1BC = 2 ∧ ringing.bellRow.regN STL 6399 0x19C = 0 := by decide +kernel

/-- Bell 0 waits for grid time 3 of the nominal period, 100 ms after the origin to the nanosecond, and the PTP time has reached it. -/
def gridded : Device :=
  { booted with bell := { booted.bell with waiting := true, grid := some 3 }, gate := { booted.gate with ptpNs := 100000001 } }

theorem witness_RunControl :
    (booted.boot.held = false ∧ booted.rb BEL 0 0x008 0 = false ∧ booted.bellsRing = false)
    ∧ (gridded.boot.held = false ∧ gridded.bell.grid = some 3 ∧ gridded.bell.waiting = true
      ∧ 3 * ((gridded.period : Int) * 5) ≤ ((gridded.gate.ptpNs : Int) - gridded.ptpOrigin) * 65536
      ∧ gridded.decidedAt 2 0 = false ∧ gridded.decidedAt 3 0 = false ∧ gridded.masterLost = false ∧ gridded.loadState = 0) := by decide

/-- One nanosecond earlier the grid time has not been reached. -/
theorem test_grid_not_reached : (({ gridded with gate := { gridded.gate with ptpNs := 100000000 } } : Device).bellZeroAtGrid).bell.waiting = true := by
  decide

/-- A market that is ready to swap, with a load staged and a halt reported; one that waits for its completion bell. -/
def deciding : Device :=
  let d := (ringing.setN WBR 0 0x010 10).setN CLK 0 0x110 2
  { d with loader := { d.loader with ready := true }, bell := { d.bell with halting := true } }
def completing : Device :=
  let d := ringing.setN CLK 0 0x110 4
  { d with loader := { d.loader with loaded := true } }

theorem witness_guard :
    [deciding, completing, ringing].all (fun d => !d.boot.held && !d.follows && d.bellsRing && d.rb BEL 0 0x008 0) = true
    ∧ (deciding.marketReady 0 = true ∧ deciding.marketReady 1 = true ∧ deciding.loadState = 2 ∧ deciding.bell.halting = true
      ∧ deciding.marketHalted = false)
    ∧ (completing.marketReady 2 = true ∧ completing.loadState = 4) ∧ ringing.guardKinds = [] := by decide +kernel

/-- A chip that follows its master. -/
def follower : Device := (ringing.setN BEL 0 0x008 1).setN AIS 8 0x010 0x80

theorem witness_guard_others :
    follower.follows = true ∧ (booted.bellsRing = false ∧ booted.bell.waiting = false)
      ∧ ({ booted with bell := { booted.bell with waiting := true, grid := some 3 } } : Device).bell.grid.isSome = true := by decide +kernel

/-- A section with its directory entry, and an image with its directory at byte 0. A rota of one channel whose two descriptors move 64 bytes within the Depot
in slots 0 to 511, at the start cycle of slot 511. -/
def sec (chip off len : Nat) (b : SectionBody) : Section := ⟨BitVec.ofNat 128 (word [(b.code, 0), (chip, 16), (off, 32), (len, 64), (b.count, 96)]), b⟩
def imageOf (bytes : Nat) (secs : List Section) (digest : List Byte) : Image := ⟨bytes, 0, BitVec.ofNat 64 (word [(2, 0), (secs.length, 16)]), secs, digest⟩
def depotMove : BitVec 256 := BitVec.ofNat 256 (word [(511, 25), (20, 48), (64, 72), (0x1000, 136)])
def rota : Device :=
  let d := ringing.setN BEL 0 0x128 6653646
  { d with loader := { d.loader with running := some (imageOf 0 [] []) }, bell := { d.bell with issued := 511 },
           chans := [(63, { rota := true, descs := [depotMove, depotMove] })] }

theorem witness_GuardAndSlots :
    rota.boot.held = false ∧ rota.issuing = true ∧ rota.bell.slots = 512 ∧ rota.bell.hushed = false
    ∧ ((63, { rota := true, descs := [depotMove, depotMove] }) ∈ rota.chans ∧ rota.chan 63 = { rota := true, descs := [depotMove, depotMove] }
      ∧ (rota.chan 63).nextDesc 0 511 = some 0)
    ∧ (511 = rota.bell.issued ∧ rota.slotOffset 511 = rota.rf BEL 0 0x128 0 24 ∧ (rota.chan 63).run = none ∧ (rota.chan 63).due = [])
    ∧ ({ rota with bell := { rota.bell with hushed := true } } : Device).issuing = true := by decide +kernel

/-- Source 5 asks since 3 cycles; the hush in force, at HUSH_LIMIT. -/
def asked : Device := { booted with bell := { booted.bell with reqs := [5], delay := [[5], [5], [5]] } }
def hushed : Device := { booted with bell := { booted.bell with reqs := [0, 5], delay := [[0, 5], [0, 5], [0, 5]], hushed := true, hushRun := 16384 } }
def locked : Device :=
  let d := booted.setN BEL 0 0x008 16
  { d with bell := { d.bell with dl := 65536 } }

theorem witness_HushAndHalts :
    (asked.boot.held = false ∧ 6 ∉ asked.bell.reqs ∧ 5 ∈ asked.bell.reqs ∧ asked.bell.hushed = false ∧ asked.bell.delay.getD 2 [] = [5])
    ∧ (({ hushed with bell := { hushed.bell with delay := [[], [], []] } } : Device).bell.hushed = true)
    ∧ (hushed.boot.held = false ∧ hushed.rf BEL 0 0x138 0 24 ≤ hushed.bell.hushRun ∧ (∃ x ∈ hushed.bell.delay.getD 2 [], x < 6) ∧ hushed.asking = [0, 5])
    ∧ (locked.boot.held = false ∧ locked.rb BEL 0 0x008 4 = true ∧ locked.bell.dl = locked.rf BEL 0 0x140 0 24
      ∧ locked.faultHeld BEL 0 = false) := by decide

/-- One cycle short of HUSH_LIMIT nothing is released; at it, HUSH_TO_SRC holds sources 0 and 5. -/
theorem test_hush_timeout : ({ hushed with bell := { hushed.bell with hushRun := 16383 } } : Device).hushTimeout.bell.hushed = true
    ∧ hushed.hushTimeout.regN BEL 0 0x13C = 0x21 := by decide

/-- The check is under way: nothing is loaded, so it finds nothing wrong; the shadow set is busy; a closed window of tap 0 waits. -/
def arming (v : Nat) : Device := booted.setN WBR 0 0x010 v
def refusing : Device :=
  { arming 6 with stalls := [(0, { issuing with ctxs := { used := true, rescaleN := 1 } :: List.replicate 7 {}, setBase := [0, 16], setWords := 1 })] }
def closedWindow : Window := ⟨1, 1, true, false, false, [(0, 0)], [(0, 128)], [(0, 1)], []⟩
def writing : Device :=
  let d := arming 0x80
  { d with wbr := { d.wbr with closed := some closedWindow } }

theorem witness_WeighbridgeCommands :
    ((arming 0).boot.held = false ∧ (arming 0).rb WBR 0 0x010 4 = false ∧ (arming 0x10).rb WBR 0 0x010 4 = true)
    ∧ ((arming 6).rb WBR 0 0x010 2 = true ∧ (arming 6).checkShadow.1 = none ∧ refusing.rb WBR 0 0x010 2 = true ∧ refusing.checkShadow.1 ≠ none)
    ∧ (writing.boot.held = false ∧ writing.wbr.closed = some closedWindow) := by decide +kernel

theorem witness_DisarmBeforeGuard :
    (arming 10).boot.held = false ∧ (arming 10).swapCommitted = false
    ∧ ({ arming 10 with bell := { booted.bell with decided := [(0, 1)] } } : Device).swapCommitted = true
    ∧ ({ ((((arming 10).setN AIS 8 0x010 0x80).setN BEL 0 0x12C 100).setN BEL 0 0x128 99).setN BEL 0 0x010 1 with
        bell := { booted.bell with everRung := true } } : Device).swapCommitted = true := by decide

/-! ### The loader -/

/-- An image of one stall, (0, 0), whose context 0 runs one NOP and fires once a round, for a market of one chip of one row. -/
def fitRecord : CtxRecord := { record with length := 1, entry := 0, stop := 0, loopBound := [0, 0, 0, 0], slotBaskets := 1, feed := 7,
                                           lbBase := 0, lbSize := 0, feedWords := 0, fireExpect := 1, gInit := List.replicate 16 0 }
def fitStall : StallRec :=
  ⟨0, 0, 1, 1, [0, 0, 0, 0], 1, [⟨4, 0, 0, 8⟩], List.replicate 8 0, [1, 0, 0, 0, 0, 0, 0, 0], [(0, fitRecord)], []⟩
def fitMarket : MarketRec := ⟨0, 0, 0, 0, 0, 1, 6666666, 0xAAAB, 512, 0, 0, 2⟩
def fitSections : List Section :=
  [sec 0xFFFF 128 64 (.market fitMarket), sec 0xFFFF 192 64 (.require ⟨0, 0, 0, 0, 0, 0, 0, [0, 0, 0, 0, 0, 0]⟩), sec 0 256 512 (.stall [fitStall]),
   sec 0 768 64 (.program [⟨0, 0, 0, [0]⟩]), sec 0 832 64 (.route [])]
def fitImage : Image := imageOf 896 fitSections (List.replicate 32 0xA5)

/-- The chip waits for LOAD_READY while bells ring, and the Warden has passed the image. -/
def staging : Device :=
  let d := ringing.setN CLK 0 0x110 1
  { d with warden := { d.warden with stagedOk := true, stagedDigest := List.replicate 32 0xA5 } }

/-- LOAD before and during a load, with boot's steps done; ABORT in states 1 and 2. -/
def loadIn (v : Nat) : Device := (ringing.setN CLK 0 0x110 v).setN CLK 0 0x180 0x100

theorem witness_LoadStageOne_commands :
    ((loadIn 0).boot.held = false ∧ (loadIn 0).loadState = 0 ∧ (loadIn 0).rb CLK 0 0x180 8 = true ∧ (loadIn 5).loadState = 5)
    ∧ (1 ≤ (loadIn 1).loadState ∧ (loadIn 4).loadState = 4) ∧ ((loadIn 1).loadState = 1 ∧ (loadIn 2).loadState = 2) := by decide

/-- An image of nothing; and the image above with a FORMAT that no loader takes, with no row at all, and with a relocation record of target 4. -/
def noImage : Image := imageOf 8 [] []
def oldImage : Image := { fitImage with dirWord := fitImage.dirWord - 1 }
def rowless : Image := imageOf 896 (sec 0xFFFF 128 64 (.market { fitMarket with rows := 0 }) :: fitSections.drop 1) []
def unmovable : Image := imageOf 960 (fitSections ++ [sec 0 896 64 (.reloc [⟨4, 0, 0, 0, 0, 0, 0, 8, 0, false, 0, 0⟩])]) []

theorem witness_LoadStageOne_fits :
    (staging.boot.held = false ∧ staging.loadState = 1 ∧ staging.loader.reload = false ∧ staging.warden.stagedOk = true
      ∧ fitImage.imageDigest = staging.warden.stagedDigest ∧ staging.bellsRing = true)
    ∧ fitImage.directory staging.chipIndex = none ∧ fitImage.marketLimits staging.chipIndex = none := by decide +kernel

theorem witness_LoadStageOne_market :
    (match fitImage.market staging.chipIndex with | some m => m.2.chips | none => 0) = 0 := by decide +kernel

theorem witness_LoadStageOne_relocated :
    (match fitImage.relocated staging.chipIndex 0 staging.copyBind.1 with | .inr x => decide (x = fitImage) | .inl _ => false) = true := by
  decide +kernel

theorem witness_LoadStageOne_resources : staging.checkResources fitImage staging.chipIndex staging.copyBind.1 = none := by decide +kernel

theorem witness_LoadStageOne_records : staging.checkRecords fitImage staging.chipIndex = none := by decide +kernel

theorem witness_LoadStageOne_refused :
    oldImage.directory staging.chipIndex = some (formatFault 0x1FF) ∧ (formatFault 0x1FF).code < 2 ^ 32
      ∧ (rowless.directory staging.chipIndex = none ∧ rowless.marketLimits staging.chipIndex = some (formatFault 0))
      ∧ (unmovable.directory staging.chipIndex = none
        ∧ (match unmovable.relocated staging.chipIndex 0 staging.copyBind.1 with | .inl f => decide (f = formatFault 5) | .inr _ => false) = true) := by
  decide +kernel

/-- An overlapped load: the running image and the staged one use stalls (0, 0) and (0, 1); stall (0, 0) has taken its GEN tokens. -/
def twoStalls : Image :=
  imageOf 768 [sec 0xFFFF 64 64 (.market fitMarket), sec 0 128 512 (.stall [fitStall, { fitStall with col := 1 }]),
               sec 0 640 64 (.program [⟨0, 0, 0, [0]⟩, ⟨0, 1, 0, [0]⟩])] []
def gone : Stall := { issuing with ctxs := { used := true, rec_ := some fitRecord, genDone := true } :: List.replicate 7 {} }
def overlapping : Device :=
  let d := (ringing.setN CLK 0 0x110 3).setN STL 0 0x008 0
  { d with loader := { d.loader with running := some twoStalls, staged := some twoStalls }, stalls := [(0, gone)] }
def rewriting : Device :=
  { overlapping with loader := { overlapping.loader with switched := [0, 1] } }
def fullLoading : Device :=
  let d := ringing.setN CLK 0 0x110 3
  { d with loader := { d.loader with staged := some noImage, full := true } }

theorem witness_LoadProgress_switch :
    overlapping.boot.held = false ∧ overlapping.overlapped = true ∧ overlapping.runs 0 = true ∧ 0 ∉ overlapping.loader.switched
      ∧ overlapping.closed 0 = false ∧ overlapping.maySwitch 0 = true := by decide +kernel

theorem witness_LoadProgress_written :
    rewriting.loader.staged = some twoStalls ∧ rewriting.overlapped = true ∧ 0 ∉ rewriting.loader.written ∧ rewriting.mayWrite 0 = true
      ∧ rewriting.runs 0 = true
      ∧ rewriting.logOf 0 = some (0, 0) ∧ twoStalls.stallAt rewriting.chipIndex 0 0 = some fitStall
      ∧ (∃ q ∈ rewriting.pagesOf twoStalls, q ∉ rewriting.loader.written ∧ q ≠ 0) := by decide +kernel

theorem witness_LoadProgress_depths :
    (rewriting.writePlace twoStalls rewriting.chipIndex 0 (0, 0)).depthMismatch twoStalls rewriting.chipIndex (fun r e => match e with
      | .stall row col _ => decide (row = 0 ∧ col = 0)
      | _ => decide (r.srcRow = 0 ∧ r.srcCol = 0)) = none := by decide +kernel

theorem witness_LoadProgress_full :
    fullLoading.boot.held = false ∧ fullLoading.loader.staged = some noImage ∧ fullLoading.loadState = 3 ∧ fullLoading.loader.full = true
      ∧ noImage.routes fullLoading.chipIndex = [] ∧ fullLoading.trestle.reconfiguring = false ∧ fullLoading.aisleQueuesEmpty = true
      ∧ fullLoading.bellsRing = true := by
  decide +kernel

/-! ### Porters, verdicts and memories -/

/-- Channel 63 of the rota in slot 511: a descriptor that may begin in this very cycle, 20 after its slot; one that has moved its 64 bytes;
one with 32 bytes left. -/
def working (moved status : Nat) : Device :=
  { rota.setN PRT 63 0x010 status with
    chans := [(63, { rota := true, descs := [depotMove, depotMove], run := some ⟨511, 77, 3⟩, moved := moved, emitted := moved / 8 })] }

theorem witness_PorterWork :
    (((booted.setN PRT 63 0x010 10).rf PRT 63 0x010 0 2 = 2))
    ∧ ((working 0 1).boot.held = false ∧ ((working 0 1).chan 63).rota = true ∧ ((working 0 1).chan 63).run = some ⟨511, 77, 3⟩
      ∧ (working 0 1).bell.hushed = false ∧ (working 0 1).busyOf 63 = false ∧ (working 0 1).haltedOf 63 = false
      ∧ ((working 0 1).chan 63).nextDesc ((working 0 1).pcOf 63) 511 = some 0
      ∧ 77 + dStart (((working 0 1).chan 63).descs.getD 0 0) = (working 0 1).work)
    ∧ ((working 64 5).busyOf 63 = true ∧ dLength ((working 64 5).currentDesc 63) = ((working 64 5).chan 63).moved
      ∧ ((working 64 5).chan 63).emit = [] ∧ (((working 64 5).chan 63).nextDesc ((working 64 5).pcOf 63 + 1) 511).isSome = true)
    ∧ ((working 32 5).currentDesc 63 = depotMove ∧ (working 32 5).porterHeld 63 = false ∧ (working 32 5).egressesOf 63 = []
      ∧ (working 32 5).busyOf 63 = true ∧ (working 32 5).haltedOf 63 = false ∧ (working 32 5).porterBarred 63 depotMove = false
      ∧ dSsp depotMove = 0 ∧ dDsp depotMove = 0 ∧ dCodec depotMove = 0 ∧ ((working 32 5).chan 63).moved + 32 = dLength depotMove
      ∧ ((working 32 5).chan 63).emit = []) := by decide +kernel

/-- A slot owed on egress basket 7 for ring 4,095 or for the Crier, voided as late; the ring of 64 positions has one free, none, or is off. -/
def owedOn (dsp daddr : Nat) : Due := ⟨511, 5, 3, 7, 9, 0, false, none, some 2, 63, dsp, daddr, 256, 1⟩
def owing (q : Due) (pi : Nat) (on : Bool) : Device :=
  { ringing with bell := { ringing.bell with owing := [q] }, host := { ringing.host with rings := [(4095, { size := 6, enabled := on, pi := pi })] } }

theorem witness_LateDataAndDelivery :
    ((working 32 5).boot.held = false ∧ (working 32 5).bell.hushed = false ∧ ((working 32 5).chan 63).rota = true ∧ (working 32 5).busyOf 63 = true
      ∧ (working 32 5).haltedOf 63 = false ∧ ((working 32 5).chan 63).moved < dLength ((working 32 5).currentDesc 63))
    ∧ [owing (owedOn 5 4095) 63 true, owing (owedOn 5 4095) 64 true, owing (owedOn 5 4095) 0 false].all (fun d =>
        !d.boot.held && !d.bell.hushed && decide (d.egressesOf 63 = [7] ∧ d.firstDue 7 = some (owedOn 5 4095))
          && d.dueReady (owedOn 5 4095)) = true
    ∧ ((owing (owedOn 5 4095) 63 true).verdictOf (owedOn 5 4095)).ndesc ≤ ((owing (owedOn 5 4095) 63 true).ring 4095).freePos 100
    ∧ ((owing (owedOn 5 4095) 64 true).ring 4095).freePos 100 < ((owing (owedOn 5 4095) 64 true).verdictOf (owedOn 5 4095)).ndesc
    ∧ ((owing (owedOn 6 0) 0 false).egressesOf 63 = [7] ∧ (owing (owedOn 6 0) 0 false).firstDue 7 = some (owedOn 6 0)
      ∧ (owing (owedOn 6 0) 0 false).dueReady (owedOn 6 0) = true) := by decide +kernel

/-- Storehouse words 0 to 2 of a trained DRAM hold a clean word, one with a bit flipped, and one with two; so do words 0 to 2 of stall 0. -/
def upkeep : Device :=
  let d := ((((booted.setN STH 0 0x010 0x10000).setN STH 0 0x108 1).setN CLK 0 0x180 0x100).setN LDG 0 0x120 1).setN LDG 0 0x130 8191
  let ws := [(0, encodeWord 5 false), (1, encodeWord 5 false ^^^ 1), (2, encodeWord 5 false ^^^ 3)]
  { d with sth := { d.sth with mem := ws }, store := ws }

theorem witness_MemoryAndLedger_reads :
    (upkeep.boot.held = false ∧ upkeep.rf STH 0 0x108 0 8 ≠ 0 ∧ 16 < upkeep.sthBytes ∧ upkeep.rb CLK 0 0x180 8 = true ∧ upkeep.sthFlip = 0
      ∧ upkeep.rb LDG 0 0x120 0 = true ∧ (upkeep.stall 0).banks = [] ∧ upkeep.rf LDG 0 0x130 0 13 ≠ 0)
    ∧ (((decodeWord (KMap.get upkeep.sth.mem 0 0)).ce = false ∧ (decodeWord (KMap.get upkeep.sth.mem 0 0)).ue = false)
      ∧ (decodeWord (KMap.get upkeep.sth.mem 1 0)).ce = true
      ∧ ((decodeWord (KMap.get upkeep.sth.mem 2 0)).ce = false ∧ (decodeWord (KMap.get upkeep.sth.mem 2 0)).ue = true))
    ∧ (upkeep.storeCode 0 0 = encodeWord 5 false ∧ upkeep.storeCode 0 1 = encodeWord 5 false ^^^ 1
      ∧ upkeep.storeCode 0 2 = encodeWord 5 false ^^^ 3) := by decide +kernel

/-- Refreshes of bank 0 put off seven and eight times. -/
def postponed (n : Nat) : Device := { booted with sth := { booted.sth with postponed := [(0, n)] } }

/-- A Ledger of two entries: empty, and full across the wrap of HEAD. -/
def entry : LdgEntry := ⟨100, 3, 7, 0xA001, 0, 0, 0⟩
def ledgered (head tail : Nat) : Device :=
  { (((booted.setN LDG 0 0x100 0x10000).setN LDG 0 0x104 1).setN LDG 0 0x108 head).setN LDG 0 0x10C tail with ledger := { waiting := [entry] } }

theorem witness_MemoryAndLedger :
    (KMap.get (postponed 7).sth.postponed 0 0 < 8 ∧ 8 ≤ KMap.get (postponed 8).sth.postponed 0 0)
    ∧ ([ledgered 0 0, ledgered 0xFFFFFFFF 0xFFFFFFFD].all (fun d => decide (d.boot.held = false ∧ d.ledger.waiting = [entry]
        ∧ d.rf LDG 0 0x104 0 5 ≠ 0 ∧ d.depot.remaps = [])) = true)
    ∧ (2 ^ (ledgered 0xFFFFFFFF 0xFFFFFFFD).rf LDG 0 0x104 0 5
        ≤ ((ledgered 0xFFFFFFFF 0xFFFFFFFD).regN LDG 0 0x108 + 2 ^ 32 - (ledgered 0xFFFFFFFF 0xFFFFFFFD).regN LDG 0 0x10C) % 2 ^ 32)
    ∧ ((ledgered 0 0).regN LDG 0 0x108 + 2 ^ 32 - (ledgered 0 0).regN LDG 0 0x10C) % 2 ^ 32 < 2 ^ (ledgered 0 0).rf LDG 0 0x104 0 5 := by
  decide +kernel

/-! ### Clauses of the statements about the rota, porters and memories that the states above do not meet -/

/-- A slot one beyond the next, and the next one a cycle early; a stall and a record whose context adapts, and the descriptor that writes
its state region back: word 0 of stall (0, 0) to the Depot. -/
def backMove : BitVec 256 := BitVec.ofNat 256 (word [(2, 4), (511, 25), (8, 72), (0x1000, 136)])
def adaptingIn (ends : KMap Nat) : Stall :=
  { issuing with regions := [⟨5, 0, 0, 64⟩], ctxs := { used := true, rec_ := some fitRecord, ends := ends } :: List.replicate 7 {} }
def backing (ends : KMap Nat) (at_ : Nat) : Device :=
  { rota with
    stalls := [(0, adaptingIn ends)], prog := [(0, BitVec.ofNat 33 (word [(0x18, 26)]))]
    chans := [(63, { rota := true, descs := [backMove, depotMove], run := some ⟨511, at_, 3⟩ })] }

theorem witness_GuardAndSlots_early :
    511 ≠ ({ rota with bell := { rota.bell with issued := 510 } } : Device).bell.issued
      ∧ (rota.setN BEL 0 0x128 6653645).rf BEL 0 0x128 0 24 < (rota.setN BEL 0 0x128 6653645).slotOffset 511 := by decide +kernel

theorem witness_PorterWork_back :
    ((backing [(511, 1)] 97).boot.held = false ∧ ((backing [(511, 1)] 97).chan 63).nextDesc ((backing [(511, 1)] 97).pcOf 63) 511 = some 0
      ∧ ((backing [(511, 1)] 97).chan 63).program.getD 0 0 = backMove ∧ 97 + dStart backMove ≤ (backing [(511, 1)] 97).work
      ∧ (backing [(511, 1)] 97).bodyVoided backMove 511 = true ∧ (((backing [(511, 1)] 97).chan 63).nextDesc 1 511).isSome = true)
    ∧ ((backing [] 97).bodyVoided backMove 511 = false ∧ (backing [] 97).bodyGoesOn backMove 511 = true)
    ∧ ((backing [(511, 2)] 97).bodyVoided backMove 511 = false ∧ (backing [(511, 2)] 97).bodyGoesOn backMove 511 = false)
    ∧ (backing [(511, 2)] 97).work < 98 + dStart backMove := by decide +kernel

/-- The list's last descriptor, after which the channel takes its next slot; a channel that has moved in this cycle. -/
theorem witness_PorterWork_listEnd :
    (({ working 64 5 with chans := [(63, { (working 64 5).chan 63 with descs := [depotMove] })] } : Device).chan 63).nextDesc 1 511 = none
    ∧ ((working 32 5).chan 63).movedAt ≠ some (working 32 5).now := by decide +kernel

/-- A free channel at descriptor 65,535 of a list of zeros at the bottom of the Depot, which are moves of nothing; and one whose word is END. -/
def listing (w : Nat) : Device :=
  ((booted.setN PRT 63 0x010 2).depotWrite 0 [BitVec.ofNat 8 w] false).setChan 63 { run := some ⟨0, 0, 0⟩ }
def barred : Device := ((booted.setN PRT 63 0x010 6).setChan 63 { run := some ⟨0, 0, 0⟩, descs := [BitVec.ofNat 256 (word [(5, 7), (8, 72)])] })

theorem witness_PorterWork_free :
    ([0, 1].all (fun w => !(listing w).boot.held && !((listing w).chan 63).rota && ((listing w).chan 63).run.isSome
      && !(listing w).busyOf 63 && !(listing w).haltedOf 63
      && decide (dOp (BitVec.ofNat 256 (leNat ((listing w).depotReadBytes (((listing w).rf PRT 63 0x100 5 22 * 32 + 32 * (listing w).pcOf 63) % 2 ^ 27)
        32).1)) = w)) = true)
    ∧ (barred.boot.held = false ∧ barred.porterHeld 63 = false ∧ barred.busyOf 63 = true ∧ barred.haltedOf 63 = false
      ∧ (barred.chan 63).movedAt ≠ some barred.now ∧ barred.porterBarred 63 (barred.currentDesc 63) = true) := by decide +kernel

/-- The egress descriptor of channel 63 for basket 7 and ring 4,095 in slot 511, with one word there of two packets that are owed. -/
def egressMove : BitVec 256 := BitVec.ofNat 256 (word [(4, 4), (5, 7), (511, 25), (256, 72), (7, 96), (4095, 136)])
def egressWord : PWord := ⟨7, 8, true, false, false, 0, 4, 0⟩
def gathering : Device :=
  { working 0 5 with
    chans := [(63, { rota := true, descs := [egressMove], run := some ⟨511, 77, 3⟩ })]
    bell := { (working 0 5).bell with owing := [{ owedOn 5 4095 with cause := none }] }
    arcade := { (working 0 5).arcade with egress := [(7, { enabled := true, packets := 1, packed := [egressWord] })] } }

theorem witness_PorterWork_gather :
    gathering.boot.held = false ∧ gathering.currentDesc 63 = egressMove ∧ gathering.porterHeld 63 = false ∧ gathering.busyOf 63 = true
      ∧ gathering.haltedOf 63 = false ∧ (gathering.chan 63).movedAt ≠ some gathering.now ∧ dEgress egressMove = true
      ∧ srcAddr egressMove (gathering.slotOf 63 egressMove) % 320 = 7 := by decide +kernel

theorem witness_PorterWork_gatherOwed :
    (match gathering.firstDue 7 with
      | some q => decide (q.cause = none ∧ (gathering.egress 7).got < q.packets ∧ q.gen ≠ 3) && gathering.runsVerdict q
      | none => false) = true
    ∧ (gathering.egress 7).packed = [egressWord] ∧ egressWord.ctl = false ∧ (gathering.egress 7).oversize = false
    ∧ 8 * (gathering.egress 7).staging.length + egressWord.vb ≤ 256 := by decide +kernel

theorem witness_LateDataAndDelivery_room :
    dEgress depotMove = false ∧ (working 32 5).currentDesc 63 = depotMove ∧ ((working 32 5).chan 63).emit = [] ∧ (working 32 5).destRoom 63 depotMove = true
    ∧ (gathering.egressesOf 63 = [7] ∧ (match gathering.firstDue 7 with | some q => !gathering.dueReady q | none => false) = true) := by decide +kernel

/-- A rota channel reads a Storehouse line of DRAM bank 0; a plane fill that asks for the eight banks of stall 0. -/
def refreshing : Device :=
  { working 0 5 with chans := [(63, { rota := true, descs := [BitVec.ofNat 256 (word [(1, 4), (511, 25), (64, 72)])], run := some ⟨511, 77, 3⟩ })] }
def filling_ : Device :=
  { upkeep with work := 9, stalls := [(0, { (upkeep.stall 0) with planeFills := [⟨0, 0, false, false, 3, List.range 8, []⟩] })] }

theorem witness_MemoryAndLedger_waits :
    refreshing.rotaWaits (bankNo 0 0) = true ∧ refreshing.rotaWaits (bankNo 1 0) = false
    ∧ ((List.range 8).all (fun b => decide (b ∈ filling_.afterPrio4 0)) = true)
    ∧ (List.range 8).all (fun b => decide (b ∉ upkeep.afterPrio4 0)) = true := by decide +kernel

/-- Words 0 to 2 of lane 7 of bank 16 hold a clean word, one with a bit flipped, and one with two. -/
def depotUpkeep : Device :=
  let ws := [(16777223, encodeWord 5 false), (16777231, encodeWord 5 false ^^^ 1), (16777239, encodeWord 5 false ^^^ 3)]
  { upkeep with depot := { upkeep.depot with mem := ws } }

theorem witness_MemoryAndLedger_depot :
    (decodeWord (depotUpkeep.depotCode 16 0 7)).ce = false ∧ (decodeWord (depotUpkeep.depotCode 16 1 7)).ce = true
      ∧ (decodeWord (depotUpkeep.depotCode 16 2 7)).ue = true ∧ (ledgered 0 0).mapOk 0x114 = true
      ∧ (∀ b ∈ [0, 16], ∀ r ∈ KMap.get (ledgered 0 0).depot.remaps b [], r.twinOk = true) := by decide +kernel

/-! ### The Gate and the Crier -/

/-- Ports 0 to 2 are enabled. -/
def gated : Device := booted.setN GAT 0 0x008 7

/-- Frames: of 9,217 bytes, with a bad FCS, a runt, not IP at 9,216 bytes, and a UDP packet over IPv6 to a port nobody wants. -/
def stranger : UdpPart := ⟨1, 2, 5, 65535, true, none⟩
def ethOf (len : Nat) (fcs runt : Bool) (body : FrameBody) : EthFrame := ⟨len, fcs, runt, true, none, body⟩

theorem witness_EthernetFrames_dropped :
    (ethOf 64 true false .pause).toPort = true ∧ ({ gated with gate := { gated.gate with clerkQueue := List.replicate 256 (0, 0, ethOf 64 true false .ptp) } } : Device).clerkFull = true
    ∧ ({ stranger with checksumOk := false } : UdpPart).checksumOk = false ∧ gated.rb GAT 0 0x008 0 = true ∧ booted.rb GAT 0 0x008 0 = false := by
  decide +kernel

theorem witness_EthernetFrames :
    (gated.boot.held = false ∧ (List.range 3).all (fun p => gated.rb GAT 0 0x008 p) = true)
    ∧ ((ethOf 9217 true false .nonIp).len > 9216 ∧ (ethOf 64 false false .nonIp).fcsOk = false ∧ (ethOf 20 true true .nonIp).runt = true)
    ∧ ((ethOf 9216 true false .nonIp).toPort = true ∧ gated.clerkFull = false)
    ∧ (stranger.checksumOk = true ∧ gated.flowLookup 2 none stranger = none ∧ stranger.dstPort ≠ 319 ∧ stranger.dstPort ≠ 320
      ∧ gated.clerkPort stranger.dstPort = false ∧ gated.stockCall stranger = false) := by decide +kernel

/-- A record that ADMIT takes: 64 × 64 pictures, cut whole, scaled to 16 × 16, in three buffers of one page. -/
def streamWords : List Word := [0x02EE0000, 0x00400040, 0, 0x00400040, 0x00100010, 0, 1]

/-- Stream 511 with that record. -/
def streaming (s : Stream) : Device :=
  { (gated.setN STH 0 0x010 0x10000).setN CLK 0 0x180 0x100 with
    gate := { gated.gate with streams := [(511, { s with data := streamWords, state := 1 })] } }

/-- One packet is held, 65,535 with 65,534 awaited (one is lost), or the awaited one itself; a unit waits; a picture is scaled into buffer 2. -/
def packet (seq : Nat) : HeldPkt := ⟨seq, 5, 5, ⟨2, 96, seq, 0, 0, false, .h264Single true, [1]⟩⟩
def unitOne : AccessUnit := ⟨0, 5, none, true, 7⟩
def setOf (level : Nat) : ParamSet := ⟨0, .high, level, .c420, 8, 64, 64, true⟩

theorem witness_StreamFrames_packets :
    [(65535, 65534), (7, 7)].all (fun x =>
      let d := { (streaming { held := [packet x.1], next := some x.2 }).setN GAT 0 0x220 2 with now := 405 }
      !d.boot.held && d.gapOver 511 && !({ d with now := 404 } : Device).gapOver 511 && decide ((d.stream 511).held = [packet x.1] ∧ (d.stream 511).next = some x.2 ∧ (packet x.1).seq < 65536)) = true
    ∧ seqAhead 65535 65534 = 1 ∧ seqAhead 7 7 = 0 := by decide +kernel

theorem witness_StreamFrames_units :
    ((streaming { units := [unitOne] }).stream 511).units = [unitOne] ∧ ((streaming { units := [unitOne] }).stream 511).state = 1
      ∧ ((streaming { units := [unitOne] }).stream 511).scaling = none ∧ (streaming { units := [unitOne] }).gate.stopped = false
      ∧ (streaming { units := [unitOne] }).engineBad ((streaming { units := [unitOne] }).stream 511) = false
      ∧ (streaming { units := [unitOne] }).engineNext ((streaming { units := [unitOne] }).stream 511) unitOne = true
      ∧ ((streaming { units := [unitOne] }).stream 511).unsupported (setOf 51) = none
      ∧ ((streaming { units := [unitOne] }).stream 511).unsupported (setOf 52) = some 2
      ∧ (511, ((streaming { units := [unitOne] }).stream 511)) ∈ (streaming { units := [unitOne] }).gate.streams
      ∧ (streaming { units := [unitOne] }).engineOf (((streaming { units := [unitOne] }).stream 511).f 0 8 5) = 0 := by decide +kernel

theorem witness_StreamFrames_complete :
    ((streaming { scaling := some (2, List.replicate 768 7, { complete := true, order := 1 }) }).stream 511).scaling
        = some (2, List.replicate 768 7, { complete := true, order := 1 })
      ∧ 2 < ((streaming { scaling := some (2, List.replicate 768 7, { complete := true, order := 1 }) }).stream 511).bufs.length := by
  decide +kernel

/-- Flow entry 2,047 is selected and the data words hold a valid key; another entry holds none, or the same key. -/
def flowEnt (w : Nat) : List Word := BitVec.ofNat 32 w :: List.replicate 11 0
def flowing (w : Nat) (table : KMap (List Word)) : Device :=
  { (gated.setN GAT 0 0x120 2047).setN GAT 0 0x140 w with gate := { gated.gate with flow := table } }

theorem witness_GateRecords_flow :
    ((flowing 0x1001 [(0, flowEnt 0x2009)]).boot.held = false ∧ (flowing 0x1001 [(0, flowEnt 0x2009)]).rf GAT 0 0x120 0 11 = 2047
      ∧ (List.range 12).map (fun w => (flowing 0x1001 [(0, flowEnt 0x2009)]).reg GAT 0 (0x140 + 4 * w)) = flowEnt 0x1001)
    ∧ (flowValid (flowEnt 0x2009) = true ∧ flowKey (flowEnt 0x2009) ≠ flowKey (flowEnt 0x1001)
      ∧ flowStream (flowEnt 0x2009) ≠ flowStream (flowEnt 0x1001))
    ∧ (∃ x ∈ (flowing 0x1001 [(0, flowEnt 0x1009)]).gate.flow, x.1 ≠ 2047 ∧ flowValid x.2 = true ∧ flowKey x.2 = flowKey (flowEnt 0x1001))
    ∧ flowValid (flowEnt 0x1001) = true := by decide +kernel

/-- STREAM_SEL is 511; the record of the data words is admitted, or refused because the stream is in use. -/
def selecting (d : Device) : Device :=
  (streamWords.zipIdx).foldl (fun a wi => a.setReg GAT 0 (0x1C0 + 4 * wi.2) wi.1) (d.setN GAT 0 0x180 511)
def emptyGate : Device := { streaming {} with gate := gated.gate }
def dismissed : Device :=
  { streaming {} with gate := { gated.gate with streams := [(511, { data := streamWords, state := 2, picked := some 2 })] } }

theorem witness_GateRecords_streams :
    ((selecting emptyGate).boot.held = false ∧ (selecting emptyGate).rf GAT 0 0x180 0 9 = 511
      ∧ (selecting emptyGate).admitResult 511 (((selecting emptyGate).stream 511).accept (selecting emptyGate).now streamWords) = 0)
    ∧ ((selecting (streaming {})).admitResult 511 (((selecting (streaming {})).stream 511).accept (selecting (streaming {})).now streamWords) = 1
      ∧ ((selecting (streaming {})).stream 511).state = 1)
    ∧ ((dismissed.stream 511).state = 2 ∧ (dismissed.stream 511).leaving = false ∧ (dismissed.stream 511).reading = false)
    ∧ ((flowing 0x2001 [(0, flowEnt 0x1001)]).boot.held = false ∧ flowKey (flowEnt 0x2001) ≠ flowKey (flowEnt 0x1001)
      ∧ flowAction (flowEnt 0x2001) = 0 ∧ flowStream (flowEnt 0x2001) = flowStream (flowEnt 0x1001)) := by
  decide +kernel

/-- NORM_SEL names channel 2 of stream 511 in set 1, the shadow set: free, or locked by ARM. -/
def norming (arm : Nat) : Device := (gated.setN GAT 0 0x200 0x17FE).setN WBR 0 0x010 arm
def measuring : Device := { gated with gate := { gated.gate with tdr := true } }

theorem witness_NormTimeCables :
    (norming 0).boot.held = false ∧ (norming 0).rf GAT 0 0x200 0 2 ≠ 3 ∧ (norming 0).shadowLocked = false
    ∧ ((norming 2).shadowLocked = true ∧ (norming 2).rf GAT 0 0x200 12 1 ≠ (norming 2).activeNorm)
    ∧ measuring.gate.tdr = true := by decide

/-- The step of -1 ns from time 0 wraps to the last nanosecond of 64 bits. -/
theorem test_ptp_step_wraps : wrapN 64 (((0 : Nat) : Int) + (BitVec.ofInt 32 (-1)).toInt) = 2 ^ 64 - 1 := by decide

/-- Field segment 3, enabled under PLCA as node 5 or not, with station 63 of its table known; a verdict waits for it; it has 64, 1 or no frames. -/
def crying (ctrl n : Nat) : Device :=
  let d := (((booted.setN CRI 3 0x008 ctrl).setN CRI 3 0x100 5).setN CRI 3 0x3F8 7).setN CRI 3 0x3FC 0x10000
  d.setSeg 3 { d.seg 3 with queue := List.replicate n ⟨[0xAB], 4⟩ }
def handover : Handover := .verdict 3 63 5 511 0 3 9 0 [1, 2]
def handing (n : Nat) : Device := { crying 3 n with crier := { (crying 3 n).crier with handed := [.frame 2 [1], handover] } }
def tdring : Device := (crying 3 0).setSeg 3 { (crying 3 0).seg 3 with tdr := true }

theorem witness_CrierSegments :
    ([0, 63, 64].all (fun n => !(handing n).boot.held && decide (3 < (handing n).crier.segs.length
        ∧ (handing n).crier.handed.find? (fun h => decide (h.seg = 3)) = some handover ∧ ((handing n).seg 3).queue.length = n)) = true)
    ∧ ([1, 3].all (fun c => decide (((crying c 1).seg 3).queue = [⟨[0xAB], 4⟩] ∧ (crying c 1).rb CRI 3 0x008 0 = true
        ∧ ((crying c 1).seg 3).tdr = false)) = true)
    ∧ ((crying 1 1).plca 3 = false ∧ (crying 3 1).plca 3 = true ∧ (crying 3 0).rb CRI 3 0x008 1 = true ∧ (crying 3 0).rf CRI 3 0x100 0 5 = 5)
    ∧ ((crying 3 0).knownMac 3 7 = true ∧ (crying 3 0).segMac 3 = 0 ∧ (crying 3 0).clerkFull = false ∧ (crying 3 0).trestle.ports = [])
    ∧ (tdring.seg 3).tdr = true ∧ (crying 3 0).rb CRI 3 0x10C 31 = false := by decide +kernel

/-! ### Clauses of the statements about the Gate and the Crier that the states above do not meet -/

theorem witness_GateAndCrier_others :
    ((norming 0).setN GAT 0 0x200 0x17FF).rf GAT 0 0x200 0 2 = 3
    ∧ (norming 2).rb GAT 0 0x008 0 = true ∧ ((norming 0).setN GAT 0 0x200 0x07FE).rf GAT 0 0x200 12 1 = (norming 0).activeNorm
    ∧ booted.gate.tdr = false
    ∧ (handing 0).crier.handed.find? (fun h => decide (h.seg = 2)) = some (.frame 2 [1])
    ∧ (crying 2 1).rb CRI 3 0x008 0 = false ∧ ((crying 2 1).seg 3).queue ≠ []
    ∧ [Device.setStream gated 7 { state := 1 }, Device.setStream gated 7 { state := 2, leaving := true }, Device.setStream gated 7 { state := 2, reading := true }].all
        (fun d => decide ((d.stream 7).state ≠ 2) || (d.stream 7).leaving || (d.stream 7).reading) = true := by decide +kernel

/-- A stream whose counters count two events of this cycle. -/
def counting : Device := streaming { lostPkt := 9, countedAt := some 0, counted := [0, 0, 7, 0, 0, 0, 0, 0, 0, 2, 0, 0, 0, 0] }

/-- READ gives the value before the events of the cycle, and READ_CLEAR leaves them (R10, R448). -/
theorem test_counter_reads : (counting.stream 511).before counting.now = [0, 0, 7, 0, 0, 0, 0]
    ∧ (counting.stream 511).events counting.now = [0, 0, 2, 0, 0, 0, 0] := by decide

/-! ### The Aisles -/

/-- Links 6 and 7 are up, and link 7 has the given state; 4,095 is its next flit. -/
def linked (k : Link) : Device :=
  let d := { (ringing.setN AIS 7 0x010 0x102).setN AIS 6 0x010 2 with now := 1000 }
  { d with aisles := { d.aisles with links := [{}, {}, {}, {}, {}, {}, {}, { k with rxSeq := 4095 }] } }

/-- A bad flit, the expected one with a message, and another; a link that has waited 128 cycles for a replay. -/
def eqReqMsg : AisleMsg := ⟨8, 4, 1, 3, 15, 0⟩
def flitBody (seq held : Nat) : Nat := seq + held * 2 ^ 56 + ctlBits (some eqReqMsg) * 2 ^ 2008
def flit (fec : Fec) (seq held : Nat) : Flit := ⟨fec, BitVec.ofNat 2112 (flitBody seq held + crc32 2080 (flitBody seq held) * 2 ^ 2080)⟩
def waitingLink : Link := { badNow := true, badSince := 872 }

theorem witness_AisleFlitsAndCells_flits :
    ([{}, waitingLink].all (fun k => !(linked k).boot.held && (linked k).linkIsUp 7 && decide (7 < (linked k).aisles.links.length
        ∧ ((linked k).link 7).rxSeq = 4095)) = true)
    ∧ (flit .failed 4095 0).good = false
    ∧ (((linked waitingLink).link 7).badNow = true ∧ ((linked waitingLink).link 7).slow = false
      ∧ ((linked waitingLink).link 7).badSince + 128 = (linked waitingLink).now) := by decide +kernel

theorem witness_AisleFlitsAndCells_good :
    (flit .corrected 4095 0).good = true ∧ (flit .clean 4095 1).good = true ∧ (flit .clean 0 0).good = true :=
  ⟨Laws.flit_good (by decide) (by decide +kernel), Laws.flit_good (by decide) (by decide +kernel),
   Laws.flit_good (by decide) (by decide +kernel)⟩

theorem witness_AisleFlitsAndCells_fields :
    ((flit .clean 4095 0).seq = 4095 ∧ (flit .clean 4095 0).msg = some eqReqMsg ∧ (flit .clean 4095 0).held = false)
    ∧ (flit .clean 4095 1).held = true ∧ (flit .clean 0 0).seq ≠ 4095 := by
  have h0 : flitBody 4095 0 < 2 ^ 2080 := by decide +kernel
  have h1 : flitBody 4095 1 < 2 ^ 2080 := by decide +kernel
  have h2 : flitBody 0 0 < 2 ^ 2080 := by decide +kernel
  simp only [Flit.seq, Flit.msg, Flit.held, flit, Laws.flit_toNat h0, Laws.flit_toNat h1, Laws.flit_toNat h2, Laws.tb_low h0 (show 56 < 2080 by decide),
    Laws.tb_low h1 (show 56 < 2080 by decide), Laws.fld_low (show 0 + 12 ≤ 2080 by decide), Laws.fld_low (show 2008 + 72 ≤ 2080 by decide)]
  decide +kernel

/-- Cell 26 of link 7 is channel 127's, with a word and the last credit, or none; channel 127 of a receiver has a word for the last eight bytes
of its area of the Depot, or for edge position 0, where there is room for one. -/
def inChan7 (depot : Bool) : InChan :=
  { link := 7, depot := depot, edge := 0, cells := [], queue := [plain], owed := 63, dbase := 128, dsize := 64, wptr := 56 }
def outChan7 (credit : Nat) : OutChan := { link := 7, porter := true, edge := 0, cells := [(26, 0)], queue := [plain], credit := credit }
def sending (credit : Nat) : Device :=
  let d := linked {}
  { d with aisles := { d.aisles with outs := [(127, some (outChan7 credit))] } }
def draining7 (depot : Bool) : Device :=
  let d := linked {}
  { d with aisles := { d.aisles with ins := [(127, some (inChan7 depot))] },
           arcade := { d.arcade with edgeFree := [(0, 1)] } }

theorem witness_AisleFlitsAndCells_cells :
    ([0, 1].all (fun c => !(sending c).boot.held && !(sending c).bell.hushed && (sending c).linkIsUp 7
        && decide ((sending c).cellOut 7 26 = some (127, outChan7 c))) = true)
    ∧ ([true, false].all (fun b => decide (KMap.get (draining7 b).aisles.ins 127 none = some (inChan7 b) ∧ (draining7 b).bell.hushed = false)
        && (draining7 b).edgeRoom 0) = true) := by decide +kernel

/-- Link 7 with each cause of R476; a link that is disabled; one in training. -/
def failing : Link := { nakCount := 8, lastFlit := 936, unacked := List.replicate 256 (0, 0), lostLanes := [3] }
def training (status : Nat) : Device := (linked {}).setN AIS 7 0x010 status

theorem witness_AisleLinks :
    ((linked failing).boot.held = false ∧ 7 < (linked failing).aisles.links.length ∧ (linked failing).linkIsUp 7 = true
      ∧ 8 ≤ ((linked failing).link 7).nakCount ∧ ((linked failing).link 7).lastFlit + 64 ≤ (linked failing).now
      ∧ 256 ≤ ((linked failing).link 7).unacked.length ∧ ((linked failing).link 7).lostLanes ≠ [] ∧ (linked failing).rb AIS 7 0x010 8 = true)
    ∧ ((linked {}).aisles.laneMaps.getD 7 7 = 7 ∧ ((linked {}).link 7).lostLanes = []
      ∧ ({ linked {} with aisles := { (linked {}).aisles with laneMaps := [7, 7, 7, 7, 7, 7, 7, 0] } } : Device).aisles.laneMaps.getD 7 7 ≠ 7)
    ∧ ((training 0).rb AIS 7 0x008 0 = false ∧ (training 0).rb AIS 7 0x010 8 = false ∧ (training 0x103).rb AIS 7 0x008 0 = false)
    ∧ ((training 1).rf AIS 7 0x010 0 3 = 1) := by decide +kernel

/-- A message of chip 4 waits on link 7; the chip follows its master, or not; the message has been seen before, or not. -/
def told (m : AisleMsg) (follow : Bool) (seen : Bool) : Device :=
  let d := linked { inbox := [m] }
  let d1 := if follow then (d.setN BEL 0 0x008 1).setN AIS 8 0x010 0x80 else d
  { d1 with aisles := { d1.aisles with seen := if seen then [(4, m.type, 1)] else [], remote := [⟨4, 90, 95, none⟩] } }
def msg (type a b : Nat) : AisleMsg := ⟨type, 4, 1, a, b, 1⟩

theorem witness_AisleMessages_flooded :
    ([msg 1 254 99, msg 2 254 120, msg 6 2 0, msg 6 3 (2 ^ 24 - 2), msg 7 0xABCD 64].all (fun m => !(told m true false).boot.held
        && decide (7 < (told m true false).aisles.links.length ∧ ((told m true false).link 7).inbox.find? (fun x => decide (x.type = m.type)) = some m)
        && !(told m true false).seenMsg m) = true)
    ∧ (told (msg 1 254 99) true true).seenMsg (msg 1 254 99) = true
    ∧ ((told (msg 2 254 120) true false).aisles.remote.reverse).find? (fun x => decide (x.origin = 4) && x.to_.isNone) = some ⟨4, 90, 95, none⟩
    ∧ (((told (msg 3 65534 6666666) true false).link 7).inbox = [msg 3 65534 6666666] ∧ (told (msg 3 65534 6666666) true false).seenMsg (msg 3 65534 6666666) = false
      ∧ (told (msg 3 65534 6666666) true false).follows = true ∧ (told (msg 3 65534 6666666) true false).bellsRing = true
      ∧ 65534 = (told (msg 3 65534 6666666) true false).bell.count % 65536) := by decide +kernel

/-- A decision for the next bell is in time; one for the bell that has rung is late. -/
theorem witness_AisleMessages_decide :
    (told (msg 6 2 0) true false).nextBell % 2 ^ 24 = 2 ^ 24 - 1 ∧ (0 + 2 ^ 24 - (2 ^ 24 - 1)) % 2 ^ 24 < 2 ^ 23
      ∧ 2 ^ 23 ≤ (2 ^ 24 - 2 + 2 ^ 24 - (2 ^ 24 - 1)) % 2 ^ 24 := by decide +kernel

theorem witness_AisleMessages_neighbours :
    ([msg 4 2 0, msg 5 3 0, eqReqMsg].all (fun m => !(told m true false).boot.held
        && decide (((told m true false).link 7).inbox.find? (fun x => decide (x.type = m.type)) = some m)) = true)
    ∧ ((told (msg 5 3 0) true false).follows = true ∧ (told (msg 5 3 0) false false).follows = false)
    ∧ ((told (msg 5 3 0) true false).bellsRing = true ∧ (told (msg 5 3 0) true false).aisles.bellSeen = false
      ∧ ({ told (msg 5 3 0) true false with aisles := { (told (msg 5 3 0) true false).aisles with missed := true } } : Device).aisles.missed = true) := by
  decide +kernel

/-! ### Clauses of the statements about the Aisles that the states above do not meet -/

/-- A link in training; one whose wait is slow already, or a cycle short of 128; a link in use that went down. -/
theorem witness_AisleFlitsAndCells_quiet :
    (training 1).linkIsUp 7 = false ∧ ((linked { waitingLink with slow := true }).link 7).slow = true
    ∧ (linked { waitingLink with badSince := 873 }).now < ((linked { waitingLink with badSince := 873 }).link 7).badSince + 128
    ∧ ((linked {}).link 7).badNow = false := by decide +kernel

/-- Cell 26 of link 7 with nothing to send; already sent in this cycle; the CRED bit of position 26, for a credit that is owed. -/
def idleOut : Device :=
  let d := linked {}
  { d with aisles := { d.aisles with outs := [(127, some { outChan7 1 with queue := [] })] } }
def sent : Device := linked { txCells := [(26, none)], txCred := [26] }
def owedIn : Device :=
  let d := linked {}
  { d with aisles := { d.aisles with ins := [(127, some { inChan7 true with cells := [(26, 0)] })] } }

theorem witness_AisleFlitsAndCells_cellClauses :
    idleOut.cellOut 7 26 = some (127, { outChan7 1 with queue := [] })
    ∧ (((sending 1).link 7).txCells.any (fun kv => decide (kv.1 = 26)) = false ∧ (sent.link 7).txCells.any (fun kv => decide (kv.1 = 26)) = true)
    ∧ (owedIn.cellIn 7 26 = some (127, { inChan7 true with cells := [(26, 0)] }) ∧ ({ inChan7 true with cells := [(26, 0)] } : InChan).owed ≠ 0
      ∧ 26 ∉ (owedIn.link 7).txCred)
    ∧ ({ draining7 false with arcade := { (draining7 false).arcade with edgeFree := [(0, 0)] } } : Device).edgeRoom 0 = false := by decide +kernel

/-- A link in use that has gone down, and one that has not; a link that has lost one lane of four, or two. -/
theorem witness_AisleLinks_down :
    (({ (training 0x103) with aisles := { (training 0x103).aisles with links := List.replicate 8 { down := true } } } : Device).link 7).down = true
    ∧ ((training 0x100).link 7).down = false ∧ (training 0x100).rb AIS 7 0x008 0 = false ∧ (training 0x100).rb AIS 7 0x010 8 = true
    ∧ (∀ x ∈ ((linked failing).link 7).lostLanes, x = 3) ∧ (∃ x ∈ ((linked failing).link 7).lostLanes, x ≠ 2)
    ∧ (training 2).rf AIS 7 0x010 0 3 ≠ 1 ∧ ({ linked {} with now := 63 } : Device).now < (({ linked {} with now := 63 } : Device).link 7).lastFlit + 64 := by
  decide +kernel

/-- No rule gives a digest in numbers: the hypothesis chooses one value of the published function. A DISCOVER of this chip's own index. -/
theorem witness_AisleMessages_duplicate (hs : ∀ l, Config.sha512 l = []) :
    ({ msg 7 0xABCD 64 with origin := 0 } : AisleMsg).origin = (told (msg 7 0xABCD 64) true false).chipIndex
      ∧ ({ msg 7 0xABCD 64 with origin := 0 } : AisleMsg).a ≠ (told (msg 7 0xABCD 64) true false).digest32 := by
  simp only [Device.digest32, sha, hs]
  decide +kernel

/-- Bell messages that do not agree with the bell count, or come to a chip that follows nobody, or before its bells ring. -/
def beforeBells (a : Nat) : Device := (told (msg 3 a 6666666) true false).setN BEL 0 0x010 0

theorem witness_AisleMessages_bells :
    ((told (msg 3 65534 6666666) false false).follows = false ∧ 7 ≠ (told (msg 3 7 6666666) true false).bell.count % 65536)
    ∧ ((beforeBells 0).follows = true ∧ (beforeBells 0).bellsRing = false ∧ (beforeBells 1).bellsRing = false)
    ∧ ((linked {}).link 7).inbox = []
    ∧ ({ told (msg 5 3 0) true false with aisles := { (told (msg 5 3 0) true false).aisles with bellSeen := true } } : Device).aisles.bellSeen = true := by
  decide +kernel

/-! ### The host interface and the Trestle -/

/-- The first byte of BAR0 and its last; the gap behind the pending-bit array; the BEL page. -/
theorem witness_BadBar0Access :
    booted.boot.held = false ∧ (67108863 % 4 ≠ 0 ∧ 67108863 < 67108864)
      ∧ (0x209000 % 4 = 0 ∧ inMsixTable 0x209000 = false ∧ inPba 0x209000 = false ∧ booted.barPage 0x209000 = none)
      ∧ (inPba 0x2080FC = true ∧ inMsixTable 0x207FFC = true) := by decide

/-- A page of the direct map, and the windows' first and last pages. -/
theorem witness_HostAccesses :
    booted.boot.held = false ∧ booted.boot.booting = false
    ∧ (inMsixTable 0 = false ∧ (booted.barPage 0).isSome = true ∧ (booted.barPage 0xE00000).isSome = true
      ∧ (booted.barPage (0x2700000 + 6400 * 4096 - 4)).isSome = true ∧ booted.barPage (0x2700000 + 6400 * 4096) = none)
    ∧ (134217720 + 8 ≤ 134217728 ∧ 134217720 % 8 = 0 ∧ booted.depotFlip (booted.depotBank (depotLb 134217720)) (depotLane 134217720) = 0)
    ∧ ({ booted with boot := { booted.boot with booting := true } } : Device).boot.booting = true := by decide +kernel

/-- Ring 4,095, enabled across the wrap of its counters, and off; the interface busy or not. -/
def ringed (busy : Nat) (on : Bool) : Device :=
  { (booted.setN HST 0 0x010 busy).setN HST 0 0x110 4095 with
    host := { rings := [(4095, { size := 6, enabled := on, ci := 0xFFFFFFFE, pi := 3, coalUs := 9, unsignalled := 1, vector := 2047 })], hrbHigh := true,
              attn := true, highFor := 800 } }

theorem witness_HostRingsAndPin_doorbells :
    ((ringed 1 true).boot.held = false ∧ (ringed 1 true).rb HST 0 0x010 0 = true)
    ∧ ((ringed 0 true).rb HST 0 0x010 0 = false ∧ ((ringed 0 true).ring 4095).enabled = true
      ∧ (3 + 2 ^ 32 - ((ringed 0 true).ring 4095).ci) % 2 ^ 32 = (((ringed 0 true).ring 4095).pi + 2 ^ 32 - ((ringed 0 true).ring 4095).ci) % 2 ^ 32
      ∧ (((ringed 0 true).ring 4095).pi + 2 ^ 32 - ((ringed 0 true).ring 4095).ci) % 2 ^ 32 < (4 + 2 ^ 32 - ((ringed 0 true).ring 4095).ci) % 2 ^ 32)
    ∧ ((ringed 0 false).ring 4095).enabled = false := by decide

/-- RING_SIZE 6 and 16 are taken, 5 and 17 refused. -/
def sized (on : Bool) (n : Nat) : Device := (ringed 0 on).setN HST 0 0x128 (n + 2047 * 65536)

theorem witness_HostRingsAndPin_commands :
    (sized true 6).ringSel = 4095 ∧ ((sized true 6).ring 4095).enabled = true
    ∧ ((sized false 5).rf HST 0 0x128 0 5 < 6 ∧ 16 < (sized false 17).rf HST 0 0x128 0 5 ∧ (sized false 6).rf HST 0 0x128 0 5 = 6
      ∧ (sized false 16).rf HST 0 0x128 0 5 = 16)
    ∧ (((sized true 6).ring 4095).coalUs ≠ 0 ∧ ((sized true 6).ring 4095).unsignalled ≠ 0 ∧ (sized true 6).vectorMasked 2047 = true
      ∧ ({ sized true 6 with host := { (sized true 6).host with msix := [(8191, 0)] } } : Device).vectorMasked 2047 = false) := by decide

def busied : Device := (ringing.setN CLK 0 0x110 3).setN HST 0 0x010 0

theorem witness_HostRingsAndPin_pin :
    (busied.boot.held = false ∧ busied.rb HST 0 0x010 0 = false ∧ busied.busySrc ≠ 0)
    ∧ ((ringed 1 true).rb HST 0 0x010 0 = true ∧ (ringed 1 true).busySrc = 0)
    ∧ ((ringed 0 true).host.attn = true ∧ (ringed 0 true).host.hrbHigh = true ∧ (ringed 0 true).rb HST 0 0x010 0 = false
      ∧ (ringed 0 true).host.highFor = 800) := by decide

/-- A configuration stream is being written; the fabric runs with a monitor port 0, a frame port 1 on segment 3, and bank 5 at 3.3 V, whose
reading has been out of the band three times. -/
def section_ : TrestleSec := ⟨List.replicate 64 1, 0, [0, 0, 0, 0, 0, 1], [⟨1, 0, 0, 0, 0⟩, ⟨5, 0, 3, 0, 0⟩], []⟩
def streamed : Device :=
  let d := ringing.setN CLK 0 0x110 3
  { d with trestle := { d.trestle with reconfiguring := true } }
def configured : Device :=
  { (booted.setN TRS 0 0x134 1).setN TRS 0 0x010 1 with
    trestle := { running := some section_, ports := [{ kind := 1, words := [plain, plain] }, { kind := 5, seg := 3 }], held := false, doneDue := true,
                 outs := [0, 0, 0, 0, 0, 3] } }

/-- A frame of 14 bytes in two words behind its length, and one whose END comes a word early. -/
def txWords (ends : Bool) : List BWord := [dataWord 14 false false 0, dataWord 1 (!ends) false 0, dataWord 2 ends false 0]

theorem witness_TrestleCommands :
    (streamed.boot.held = false ∧ streamed.trestle.reconfiguring = true ∧ streamed.loadState = 3 ∧ streamed.loader.wroteAll = false)
    ∧ (configured.trestle.running = some section_ ∧ configured.trestle.doneDue = true)
    ∧ (5 < configured.trestle.outs.length ∧ bankInBand (configured.rf TRS 0 0x134 0 4) 157 = true ∧ bankInBand (configured.rf TRS 0 0x134 0 4) 156 = false
      ∧ configured.rb TRS 0 0x010 0 = true ∧ configured.trestle.outs.getD 5 0 = 3 ∧ configured.rb TRS 0 0x010 13 = false)
    ∧ (configured.trestle.ports[0]? = some { kind := 1, words := [plain, plain] } ∧ configured.gsr = false
      ∧ configured.trestle.ports[1]? = some { kind := 5, seg := 3 })
    ∧ ((frameOf (txWords true)).isSome = true ∧ frameOf (txWords false) = none) := by decide +kernel

/-! ### Clauses of the statements about the host and the Trestle that the states above do not meet -/

/-- A masked table entry's last dword and first; doorbells at an offset between two rings, and with a value further from CI than PI. -/
theorem witness_HostAccesses_table :
    inMsixTable 0x200000 = true ∧ inMsixTable 0x207FFC = true ∧ (0x207FFC - 0x200000) / 4 = 8191 ∧ 8191 % 4 = 3
    ∧ (fld 0xF 0 2 = 3 ∧ fld 0x4 2 2 = 1)
    ∧ (1048575 % 256 ≠ 0 ∧ (((ringed 0 true).ring 4095).pi + 2 ^ 32 - ((ringed 0 true).ring 4095).ci) % 2 ^ 32 = 5
      ∧ (0xFFFFFFFE + 2 ^ 32 - ((ringed 0 true).ring 4095).ci) % 2 ^ 32 = 0) := by decide

/-- 9 microseconds are 1,800 cycles: coalescing ends at them. Parked doorbells of a ring. BUSY ends 2,000 cycles after it began. -/
def coalescing (n : Nat) : Device := { ringed 0 true with now := n }
def parking : Device :=
  { ringed 0 true with host := { (ringed 0 true).host with rings := [(4095, { size := 6, enabled := true, ci := 0xFFFFFFFE, pi := 3, parked := some 1 })] } }

theorem witness_HostRingsAndPin_times :
    (((coalescing 1800).ring 4095).enabled = true ∧ ((coalescing 1800).ring 4095).firstAt + 200 * ((coalescing 1800).ring 4095).coalUs = (coalescing 1800).now
      ∧ (coalescing 1799).now < ((coalescing 1799).ring 4095).firstAt + 200 * ((coalescing 1799).ring 4095).coalUs)
    ∧ (parking.rb HST 0 0x010 0 = false ∧ (parking.ring 4095).parked = some 1 ∧ (parking.ring 4095).enabled = true
      ∧ ((1 : Word).toNat + 2 ^ 32 - (parking.ring 4095).ci) % 2 ^ 32 ≤ ((parking.ring 4095).pi + 2 ^ 32 - (parking.ring 4095).ci) % 2 ^ 32)
    ∧ ((({ ringed 1 true with now := 2000 } : Device).host.busyAt + 2000 = ({ ringed 1 true with now := 2000 } : Device).now)
      ∧ ({ ringed 1 true with now := 1999 } : Device).now < ({ ringed 1 true with now := 1999 } : Device).host.busyAt + 2000) := by decide

/-- Ports of every kind: 0 receives frames, 1 takes EDGE_IN, 2 gives EDGE_OUT, 3 gives EGRESS_OUT; the net released or asserted, the first port moved or not. -/
def fabric (force : Nat) (moved : List Nat) : Device :=
  { configured.setN TRS 0 0x010 (1 + 2 * force) with
    trestle := { configured.trestle with
      ports := [{ kind := 6, words := [plain] }, { kind := 2, words := [plain] }, { kind := 3, edge := 319, free := 1 }, { kind := 4, edge := 5, free := 16 }]
      movedNow := moved } }

theorem witness_TrestleCommands_ports :
    ((fabric 0 []).gsr = false ∧ (fabric 0 []).trestle.ports[1]? = some { kind := 2, words := [plain] } ∧ (fabric 0 []).bell.hushed = false
      ∧ (fabric 0 []).trestle.ports[2]? = some { kind := 3, edge := 319, free := 1 } ∧ (fabric 0 []).edgeOutStopped = false ∧ (fabric 0 []).edgeRoom 319 = true ∧ ((fabric 0 []).edgeStall 319).isSome = true
      ∧ (fabric 0 []).trestle.ports[3]? = some { kind := 4, edge := 5, free := 16 })
    ∧ ((fabric 1 []).gsr = true ∧ 0 ∈ (fabric 0 [0]).trestle.movedNow ∧ 0 ∉ (fabric 0 []).trestle.movedNow)
    ∧ (configured.trestle.reconfiguring = false ∧ streamed.trestle.running = none)
    ∧ (configured.rb TRS 0 0x010 13 = false ∧ (configured.setN TRS 0 0x010 0).rb TRS 0 0x010 0 = false) := by decide +kernel

/-! ### The Warden, the Steward and the Reserve -/

/-- The first 24 bytes of a signed header: MAGIC, format 1, KIND, BODY_LEN, VARIANT, SVN, KEY_ROLE. -/
def head (kind len role : Nat) : List Byte :=
  [0x57, 0x4D, 0x5A, 0x4B, 1, 0, BitVec.ofNat 8 kind, 0, BitVec.ofNat 8 len, 0, 0, 0, 0, 0, 0, 0, 0, 0, 0, 0, BitVec.ofNat 8 role, 0, 0, 0]

/-- An image object without a body under a delegated key; one without a header. -/
def imageObject : SignedObject := ⟨head 2 0 0 ++ List.replicate 488 0, []⟩
def noObject : SignedObject := ⟨[], []⟩

/-- No rule gives a digest or a signature in numbers: the hypotheses choose one value of the two published functions. -/
theorem witness_WardenCommands_verify (hs : ∀ l, Config.sha512 l = []) (he : ∀ k m g, Config.ecdsaVerifies k m g = true) :
    staging.boot.held = false ∧ staging.loadState = 1 ∧ staging.loader.reload = false
      ∧ staging.verifies imageObject 2 (2 ^ 30 - 512) false = none := by
  refine ⟨by decide, by decide, by decide, ?_⟩
  simp only [Device.verifies, Device.delegation, sha, hs, he]
  decide +kernel

theorem witness_WardenCommands_refused : staging.verifies noObject 2 (2 ^ 30 - 512) false = some 0x9001 := by decide +kernel

/-- The Warden with an identity or without, idle or to be re-signed; an owner record at Depot offset 0, where ENROLL is strapped. -/
def wardened (status : Nat) : Device := booted.setN WRD 0 0x010 status
def resigning (status : Nat) : Device := { wardened status with warden := { booted.warden with resignDue := true } }
def recorded (kind len role : Nat) : Device := (wardened 8).depotWrite 0 (head kind len role) false

theorem witness_WardenCommands_report :
    ((wardened 1).boot.held = false ∧ (wardened 1).warden.reportDue = false ∧ (wardened 1).idFail = true ∧ (wardened 0).idFail = false
      ∧ (wardened 0).reportWaits = false)
    ∧ ((resigning 0).reportWaits = true ∧ (resigning 0).warden.resignDue = true ∧ (resigning 0).idFail = false ∧ (resigning 1).idFail = true) := by
  decide

theorem witness_WardenCommands_enroll (hs : ∀ l, Config.sha512 l = []) (he : ∀ k m g, Config.ecdsaVerifies k m g = true) :
    (recorded 3 0 1).readRecord.2.verifies (recorded 3 0 1).readRecord.1 3 3584 false = none := by
  simp only [Device.verifies, Device.delegation, sha, hs, he]
  decide +kernel

theorem witness_WardenCommands_release (hs : ∀ l, Config.sha512 l = []) (he : ∀ k m g, Config.ecdsaVerifies k m g = true) :
    (recorded 4 64 4).readRecord.2.verifies (recorded 4 64 4).readRecord.1 4 3584 false = none ∧ (recorded 4 64 4).idFail = false
      ∧ (recorded 4 64 4).readRecord.1.content.take 64 = sha (recorded 4 64 4).idPub := by
  simp only [Device.verifies, Device.delegation, sha, hs, he]
  decide +kernel

theorem witness_WardenCommands_records :
    (wardened 0).readRecord.2.verifies (wardened 0).readRecord.1 3 3584 false = some 0x9001
      ∧ (wardened 0).readRecord.2.verifies (wardened 0).readRecord.1 4 3584 false = some 0x9001 := by decide +kernel

theorem witness_WardenCommands_commit :
    (wardened 4).rb WRD 0 0x010 2 = true ∧ 4 ≤ (wardened 4).warden.counters.length ∧ (wardened 4).warden.rpmcOk = true
      ∧ ({ wardened 4 with warden := { booted.warden with rpmcOk := false } } : Device).warden.rpmcOk = false := by decide

/-- Rail 15 within 100 to 200, at both limits and beyond, with one reading out before; a droop of it that may be asked for, and one under way
for 2,000 cycles. -/
def railed (r : Rail) : Device :=
  let d := { ((booted.setN STW 0 0x1BC (100 + 200 * 65536)).setN STW 0 0x008 3).setN STW 0 0x010 2 with now := 3000 }
  d.setRail 15 r

theorem witness_StewardCommands_rails :
    ((railed { outs := 1 }).boot.held = false ∧ (railed { outs := 1 }).rf STW 0 0x1BC 0 10 = 100 ∧ (railed { outs := 1 }).rf STW 0 0x1BC 16 10 = 200
      ∧ ((railed { outs := 1 }).rail 15).outs = 1)
    ∧ ((railed {}).rb STW 0 0x008 1 = true ∧ ((railed {}).rail 15).requesting = false ∧ ((railed {}).rail 15).blocked = false)
    ∧ (((railed { requesting := true, since := 1000 }).rail 15).requesting = true
      ∧ (List.range 15).all (fun j => !((railed { requesting := true, since := 1000 }).rail j).requesting) = true
      ∧ ((railed { requesting := true, since := 1000 }).rail 15).since + 2000 = (railed { requesting := true, since := 1000 }).now) := by
  decide +kernel

/-- A throttle period at level 2; the master idle, and in a transaction. -/
def throttled : Device :=
  let d := (railed {}).setN STW 0 0x268 (256 * 65536)
  { d with steward := { d.steward with throttling := true } }
def pmbIdle : Device := booted.setN STW 0 0x28C 2
def pmbBusy : Device := { pmbIdle.setN STW 0 0x010 16 with steward := { booted.steward with pmb := ⟨2, 0x40, 0x8B⟩ } }

theorem witness_StewardCommands_throttle :
    throttled.rb STW 0 0x008 0 = true ∧ throttled.duty throttled.level ≠ 0 ∧ throttled.level = 2 ∧ throttled.steward.throttling = true := by decide

theorem witness_StewardCommands_pmbus :
    (pmbIdle.boot.held = false ∧ pmbIdle.rb STW 0 0x010 4 = false ∧ pmbIdle.rb STW 0 0x28C 1 = true ∧ pmbBusy.rb STW 0 0x010 4 = true)
    ∧ pmbBusy.steward.pmb.len ≤ ([0x12, 0x34] : List Byte).length := by decide

/-- A test that runs, on stall 3 and bank 2; a market that runs with stall 10 in it, whose oscillator 1 is pending, and one that stands still. -/
def testing : Device :=
  { booted.setN RSV 0 0x010 4 with reserve := { booted.reserve with bistUnits := [(0, 3), (1, 2)] } }
def pendingTest (ring : Nat) : Device := (booted.setN RSV 0 0x120 2).setN BEL 0 0x010 ring

theorem witness_ReserveCommands_bist :
    (testing.boot.held = false ∧ testing.rb RSV 0 0x010 2 = true)
    ∧ ((pendingTest 1).rb RSV 0 0x010 2 = false ∧ (pendingTest 1).scopeUnits 0 = some ((List.range 10).map (fun i => (0, 10 + i)), [1])
      ∧ (pendingTest 1).bellsRing = true ∧ (pendingTest 1).marketHalted = false ∧ (pendingTest 1).unitInUse 0 10 = true)
    ∧ ((pendingTest 0).scopeUnits 0 = some ((List.range 10).map (fun i => (0, 10 + i)), [1]) ∧ (pendingTest 0).bellsRing = false) := by
  decide +kernel

/-- Stall 6,399 is selected, a candidate or not; oscillator 697 of baseline 1,000, whose limit of 10% a count of 902 breaks just. -/
def candidates (cs : List Cand) : Device :=
  { booted.setN RSV 0 0x104 (6399 * 16) with reserve := { booted.reserve with cands := cs } }
def worn (base : KMap Nat) : Device :=
  { (booted.setN RSV 0 0x008 2).setN RSV 0 0x10C (100 * 256) with reserve := { booted.reserve with baselines := base } }

theorem witness_ReserveCommands_units :
    ((candidates []).rb RSV 0 0x010 2 = false ∧ (candidates []).rsvUnit = ⟨0, 6399⟩ ∧ (candidates []).rsvUnit ∉ (candidates []).reserve.cands)
    ∧ (candidates [⟨0, 6399⟩]).rsvUnit ∈ (candidates [⟨0, 6399⟩]).reserve.cands
    ∧ ((worn []).rb RSV 0 0x008 1 = true ∧ KMap.get (worn []).reserve.baselines 697 0 = 0)
    ∧ (KMap.get (worn [(697, 1001)]).reserve.baselines 697 0 = 1000 + 1 ∧ 902 ≤ 1000
      ∧ (worn [(697, 1001)]).rf RSV 0 0x10C 8 10 * 1000 ≤ (1000 - 902) * 1024
      ∧ (1000 - 903) * 1024 < (worn [(697, 1001)]).rf RSV 0 0x10C 8 10 * 1000) := by decide +kernel

/-- A halted market that is to be reloaded; a Reserve record that is due. -/
def reloading : Device :=
  let d := (((booted.setN BEL 0 0x010 2).setN RSV 0 0x008 1).setN RSV 0 0x010 1).setN CLK 0 0x110 0
  { d with loader := { d.loader with running := some fitImage, reserveDue := true } }

theorem witness_ReserveCommands_reload :
    reloading.boot.held = false ∧ reloading.marketHalted = true ∧ reloading.rb RSV 0 0x008 0 = true ∧ reloading.rb RSV 0 0x010 0 = true
      ∧ reloading.loader.running.isSome = true ∧ reloading.loadState = 0 ∧ reloading.loader.reserveDue = true
      ∧ reloading.warden.resignDue = false ∧ reloading.idFail = false := by decide

/-! ### Clauses of the statements about the Warden, the Steward and the Reserve that the states above do not meet -/

/-- A report that is due; a staged image that is not to be verified again; RPMC missing; a record of another chip's identity. -/
def reporting : Device := { wardened 0 with warden := { booted.warden with reportDue := true } }

theorem witness_WardenCommands_others :
    reporting.warden.reportDue = true ∧ (wardened 0).loadState ≠ 1
    ∧ ({ staging with loader := { staging.loader with reload := true } } : Device).loader.reload = true
    ∧ (wardened 0).rb WRD 0 0x010 2 = false ∧ (wardened 0).warden.resignDue = false := by decide

theorem witness_WardenCommands_stranger (hs : ∀ l, Config.sha512 l = []) (he : ∀ k m g, Config.ecdsaVerifies k m g = true) :
    ((recorded 4 64 4).depotWrite 512 [1] false).readRecord.2.verifies ((recorded 4 64 4).depotWrite 512 [1] false).readRecord.1 4 3584 false = none
      ∧ ((recorded 4 64 4).depotWrite 512 [1] false).readRecord.1.content.take 64 ≠ sha ((recorded 4 64 4).depotWrite 512 [1] false).idPub := by
  simp only [Device.verifies, Device.delegation, sha, hs, he]
  decide +kernel

/-- A droop that may be asked for again since its rail has been good for 64 cycles, and one a cycle early; one whose request is due; other rails that ask. -/
def alsoDroops : Device := (railed { requesting := true, since := 1001 }).setRail 3 { requesting := true }

theorem witness_StewardCommands_droops :
    (((railed { blocked := true, goodSince := some 2936 }).rail 15).blocked = true
      ∧ (∃ g ∈ ((railed { blocked := true, goodSince := some 2936 }).rail 15).goodSince, g + 64 ≤ (railed { blocked := true, goodSince := some 2936 }).now)
      ∧ (railed { blocked := true, goodSince := some 2937 }).now < 2937 + 64)
    ∧ ((railed { due := true }).rail 15).due = true
    ∧ ((alsoDroops.rail 3).requesting = true ∧ (alsoDroops.rail 15).requesting = true ∧ alsoDroops.now < (alsoDroops.rail 15).since + 2000)
    ∧ ((booted.setN STW 0 0x008 1).rb STW 0 0x008 1 = false ∧ ((railed { blocked := true }).rail 15).goodSince = none) := by decide +kernel

/-- Thresholds of 80, 90 and 100 degrees; sensors 4 and 9 at 100; level 3 is due; a trip. -/
def warm : Device := booted.setN STW 0 0x264 (word [(80, 0), (90, 8), (100, 16), (110, 24)])
def temps : List Int := List.replicate 4 20 ++ [440] ++ List.replicate 4 20 ++ [440] ++ List.replicate 14 (-40)

theorem witness_StewardCommands_temperature :
    temps.length = 24 ∧ temps.getD 4 0 = 440 ∧ warm.level < warm.levelFor (temps.getD 4 0) ∧ warm.levelFor 440 = 3 ∧ warm.threshold 3 ≤ temps.getD 4 0
    ∧ warm.levelFor 320 = 1 ∧ warm.levelFor 319 = 0 ∧ booted.boot.tripped = false
    ∧ ({ throttled with now := 895, steward := { throttled.steward with critDue := true } } : Device).steward.critDue = true
    ∧ ({ throttled with now := 895 } : Device).now < throttled.steward.periodAt + 896 := by decide

/-- Level 1 within its budget, at its end, and spent; no duty; the throttle off. -/
def levelOne (budget : Nat) (spent : Bool) : Device :=
  let d := (((booted.setN STW 0 0x008 1).setN STW 0 0x010 1).setN STW 0 0x268 64).setN STW 0 0x26C (2 ^ 24 - 1)
  { d with steward := { d.steward with budget := budget, spent := spent } }

theorem witness_StewardCommands_budget :
    ((levelOne 0 false).level = 1 ∧ (levelOne 0 false).duty 1 = 64 ∧ (levelOne 0 false).steward.budget < (levelOne 0 false).rf STW 0 0x26C 0 24)
    ∧ (levelOne 0 false).rf STW 0 0x26C 0 24 ≤ (levelOne (2 ^ 24 - 1) false).steward.budget
    ∧ ((levelOne 0 true).steward.spent = true ∧ booted.duty booted.level = 0 ∧ (booted.setN STW 0 0x008 2).rb STW 0 0x008 0 = false)
    ∧ (booted.setN STW 0 0x28C 0).rb STW 0 0x28C 1 = false := by decide

/-- A unit that the chip lacks; a test that runs while ADD and DROP come; the wear counter off; a reload without its causes; no record due. -/
theorem witness_ReserveCommands_others :
    ((booted.setN RSV 0 0x104 (6400 * 16)).rsvUnit = ⟨0, 6400⟩ ∧ (⟨0, 6400⟩ : Cand).onChip = false ∧ (⟨0, 6399⟩ : Cand).onChip = true)
    ∧ testing.scopeUnits 6 = none ∧ (booted.setN RSV 0 0x008 1).rb RSV 0 0x008 1 = false ∧ booted.marketHalted = false
    ∧ (reloading.loader.reserveDue = true ∧ booted.loader.reserveDue = false ∧ booted.reserve.baseDue = false)
    ∧ ((reloading.setN WRD 0 0x010 1).idFail = true ∧ (resigning 0).warden.resignDue = true) := by decide

/-- Stall 3 and bank 2 are tested while no flip mask aims; and with the mask aimed at another stall. -/
theorem witness_ReserveCommands_done :
    (∀ u ∈ testing.reserve.bistUnits, u.2 < 6400) ∧ testing.storeFlip = 0 ∧ (∀ lane, lane < 8 → testing.depotFlip 2 lane = 0)
      ∧ (testing.setN LDG 0 0x130 5).rf LDG 0 0x130 0 13 ≠ 3 := by decide

/-! ### Reset, boot, stock mode and boundary scan -/

/-- The device that the watchdog may reset, at its limit and one below; PERST# low with EXTEST (0x00) or IDCODE in force; straps of a card. -/
def watched (n : Nat) : Device :=
  let d := booted.setN CLK 0 0x188 65535
  { d with boot := { d.boot with wdog := n } }
def powered (ir : Byte) : Device := { jtag := { ir := ir } }
def strapsOf (mode : BitVec 2) : Straps := ⟨true, true, mode, false, true⟩

theorem witness_Resets :
    ([powered 0x00, powered 0x02].all (fun d => !d.boot.perstHigh) = true) ∧ takesPins (powered 0x00).jtag.ir = true
    ∧ takesPins (powered 0x02).jtag.ir = false ∧ ((strapsOf 3).flashMode = 3 ∧ (strapsOf 2).flashMode ≠ 3)
    ∧ ((watched 65535).boot.held = false ∧ (watched 65535).rf CLK 0 0x188 0 16 ≠ 0 ∧ (watched 65535).rf CLK 0 0x188 0 16 ≤ (watched 65535).boot.wdog
      ∧ (watched 65534).boot.wdog < (watched 65534).rf CLK 0 0x188 0 16)
    ∧ (booted.boot.perstHigh = true ∧ takesPins 0x06 = true ∧ takesPins 0xFF = false) := by decide

/-- Released from reset, with STOCK_FORCE strapped or not; what the ROM finds. -/
def released (straps : Nat) : Device :=
  let d : Device := ({} : Device).setN CLK 0 0x184 straps
  { d with boot := { d.boot with held := false, perstHigh := true } }
def found (puf low : Bool) : BootInputs := ⟨puf, [], low, false, true, (false, false), none, none⟩
def running_ : Device := { released 0 with boot := { (released 0).boot with romDone := true, firmware := true } }
def zeroed_ : Device := { running_ with boot := { running_.boot with zeroed := true } }

theorem witness_BootAndStock_boot :
    ((released 0).boot.held = false ∧ (released 0).boot.romDone = false ∧ (released 0).rb CLK 0 0x180 9 = false
      ∧ (released 0).rb CLK 0 0x184 5 = false ∧ (released 32).rb CLK 0 0x184 5 = true)
    ∧ ((found true false).railsLow = false ∧ (found true true).railsLow = true ∧ (found false false).pufOk = false ∧ (found true false).pufOk = true)
    ∧ (running_.boot.firmware = true ∧ running_.boot.zeroed = false)
    ∧ (zeroed_.boot.zeroed = true ∧ zeroed_.boot.sthZeroed = false)
    ∧ (booted.boot.sthZeroed = true ∧ booted.rb CLK 0 0x180 8 = false
      ∧ ({ booted with loader := { booted.loader with waitPrep := some true } } : Device).loader.waitPrep ≠ none) := by decide

/-- Stock mode is due; it runs with port 2 up, and stream 511 is a stock stream. -/
def stockDue_ : Device := { released 0 with boot := { (released 0).boot with romDone := true, stockDue := true } }
def stocked : Device := (((booted.setN CLK 0 0x180 0x20).setN GAT 0 0x010 4).setN STH 0 0x010 0x10000)
def stockStream_ : Device := stocked.setStream 511 { data := streamWords, state := 1, stock := true }

theorem witness_BootAndStock_stock :
    (stockDue_.boot.held = false ∧ stockDue_.stockMode = false ∧ stockDue_.boot.stockDue = true)
    ∧ (stocked.boot.held = false ∧ stocked.stockMode = true ∧ stocked.rb GAT 0 0x010 2 = true)
    ∧ (stockStream_.stockMode = true ∧ (stockStream_.stream 511).stock = true ∧ (stockStream_.stream 511).state = 1) := by decide

/-- Where the stock image keeps a stream's frames no rule says: the hypothesis puts them at the bottom of the Storehouse. -/
theorem witness_BootAndStock_admit (hb : Config.stockBuffer 511 = 0) :
    [96, 98].all (fun pt => decide (stocked.admitResult 511 { (stocked.stream 511).accept stocked.now (stockRecordOf 511 pt) with stock := true } = 0)) = true := by
  simp only [stockRecordOf, hb]
  decide +kernel

/-! ### The code of the stored words -/

/-- The first and last bit of a word, the pair (48, 63) that reads as spoiled, and the pair (0, 71) that does not. -/
theorem test_secded :
    (decodeWord (encodeWord 7 false ^^^ 1)).ce = true ∧ (decodeWord (encodeWord 7 false ^^^ (1#72 <<< 71))).bit = 71
      ∧ (decodeWord (encodeWord 7 false ^^^ (1#72 <<< 48) ^^^ (1#72 <<< 63))).ue = false
      ∧ (decodeWord (encodeWord 7 false ^^^ 1 ^^^ (1#72 <<< 71))).ue = true := by decide +kernel

/-! ### Clauses of the statements about reset and boot that the states above do not meet -/

/-- A TAP instruction that takes pins after PERST# has risen in a held device; one that connects the boundary register. -/
def heldByTap : Device := { boot := { perstHigh := true }, jtag := { ir := 0x06 } }

theorem witness_Resets_tap :
    (heldByTap.boot.held = true ∧ heldByTap.boot.perstHigh = true ∧ takesPins heldByTap.jtag.ir = true)
    ∧ (scansBoundary 0x00 = true ∧ scansBoundary 0x02 = false ∧ scansBoundary 0x03 = false) ∧ (powered 0x02).boot.held = true := by decide

theorem witness_BootAndStock_negatives :
    (booted.boot.romDone = true ∧ booted.boot.zeroed = true ∧ booted.boot.sthZeroed = true ∧ (released 0).boot.firmware = false)
    ∧ ((booted.setN CLK 0 0x180 0x100).rb CLK 0 0x180 8 = true ∧ (booted.setN CLK 0 0x180 0x100).boot.stockDue = false
      ∧ (booted.setN CLK 0 0x180 0x100).loader.running = none ∧ (booted.setN CLK 0 0x180 0x100).loadState = 0
      ∧ (booted.setN CLK 0 0x180 0x100).stockMode = false)
    ∧ ((booted.setN GAT 0 0x010 0).rb GAT 0 0x010 2 = false ∧ (stocked.stream 511).state ≠ 1 ∧ (stocked.stream 511).stock = false) := by decide
end Sys2Proof.Tests
end

section
/-! SUPPORT. Frames: what the statements mean by "nothing else changes", as rules for the shared operations. A register write, a fault and an
event of the Ledger each get one rule for `Only`; settling a command is invisible to all that the statements ask of a device. -/

namespace Sys2Proof.Machine

/-! ### Fields of a word -/

/-- A word with a field replaced: the bits below, the new field, the bits above. -/
theorem putFld_eq (v lo n x : Nat) : putFld v lo n x = v % 2 ^ lo + 2 ^ lo * (x % 2 ^ n + 2 ^ n * (v / 2 ^ lo / 2 ^ n)) := by
  have hv : v = v % 2 ^ lo + 2 ^ lo * (v / 2 ^ lo % 2 ^ n + 2 ^ n * (v / 2 ^ lo / 2 ^ n)) := by
    rw [Nat.mod_add_div, Nat.mod_add_div]
  rw [Nat.mul_add, Nat.mul_comm (2 ^ lo) (v / 2 ^ lo % 2 ^ n)] at hv
  rw [putFld, fld, Nat.mul_add, Nat.mul_comm (2 ^ lo) (x % 2 ^ n)]
  omega

theorem fld_putFld (v lo n x : Nat) : fld (putFld v lo n x) lo n = x % 2 ^ n := by
  rw [putFld_eq, fld, Nat.add_mul_div_left _ _ (Nat.two_pow_pos lo), Nat.div_eq_of_lt (Nat.mod_lt _ (Nat.two_pow_pos lo)), Nat.zero_add,
    Nat.add_mul_mod_self_left, Nat.mod_mod]

theorem putFld_lt {v lo n m : Nat} (x : Nat) (hv : v < 2 ^ m) (hm : lo + n ≤ m) : putFld v lo n x < 2 ^ m := by
  obtain ⟨k, rfl⟩ := Nat.exists_eq_add_of_le hm
  have hc : v / 2 ^ lo / 2 ^ n < 2 ^ k := by
    rw [Nat.div_div_eq_div_mul, ← Nat.pow_add]
    exact Nat.div_lt_of_lt_mul (by rwa [← Nat.pow_add])
  have hx : x % 2 ^ n + 2 ^ n * (v / 2 ^ lo / 2 ^ n) < 2 ^ (n + k) := by
    rw [Nat.mul_comm]; exact Laws.stacked_lt (Nat.mod_lt _ (Nat.two_pow_pos n)) hc
  rw [putFld_eq, Nat.mul_comm (2 ^ lo), Nat.add_assoc]
  exact Laws.stacked_lt (Nat.mod_lt _ (Nat.two_pow_pos lo)) hx

/-! ### Pages -/

/-- A page's number fits the field that `regKey` keeps it in. -/
theorem page_unit_lt {page : Page} (h : page.exists = true) : page.unit < 8192 := by
  have hc : Page.count page.block ≤ 8192 := by unfold Page.count; split <;> decide
  simp only [Page.exists, decide_eq_true_eq] at h
  omega

/-! ### Only the listed registers differ -/

namespace Only

variable {l : List (Nat × Nat × Nat)} {d e : Device} {b u o : Nat}

theorem refl (l : List (Nat × Nat × Nat)) (d : Device) : Only l d d :=
  ⟨fun _ _ _ _ _ _ => rfl, fun _ _ => rfl, fun _ => rfl, fun _ _ _ => rfl, fun _ => rfl, fun _ => rfl⟩

/-- A register that is not listed holds what it held. -/
theorem reg_eq (h : Only l d e) (hu : u < 8192) (ho : o < 4096) (hn : (b, u, o) ∉ l) : e.reg b u o = d.reg b u o :=
  h.1 b u o hu ho hn

theorem setReg (h : Only l d e) (v : Word) (hu : u < 8192) (ho : o < 4096) (hm : (b, u, o) ∈ l) : Only l d (e.setReg b u o v) := by
  refine ⟨fun b' u' o' hu' ho' hn => ?_, h.2⟩
  have hne : ¬(b' = b ∧ u' = u ∧ o' = o) := by
    rintro ⟨rfl, rfl, rfl⟩; exact hn hm
  rw [Device.reg_setReg e v hu ho hu' ho', if_neg hne]
  exact h.1 b' u' o' hu' ho' hn

theorem setN (h : Only l d e) (v : Nat) (hu : u < 8192) (ho : o < 4096) (hm : (b, u, o) ∈ l) : Only l d (e.setN b u o v) :=
  h.setReg _ hu ho hm

theorem setB (h : Only l d e) (i : Nat) (x : Bool) (hu : u < 8192) (ho : o < 4096) (hm : (b, u, o) ∈ l) : Only l d (e.setB b u o i x) :=
  h.setReg _ hu ho hm

theorem count16 (h : Only l d e) (hu : u < 8192) (ho : o < 4096) (hm : (b, u, o) ∈ l) : Only l d (e.count16 b u o) :=
  h.setReg _ hu ho hm

theorem setFaultRegs (h : Only l d e) (code : Nat) (loc when_ : Word) (hu : u < 8192) (hm : ∀ r ∈ eventRegs b u, r ∈ l) :
    Only l d (e.setFaultRegs b u code loc when_) :=
  ((h.setN code hu (by omega) (hm _ (by simp [eventRegs]))).setReg loc hu (by omega) (hm _ (by simp [eventRegs]))).setReg when_ hu (by omega)
    (hm _ (by simp [eventRegs]))

/-- An event for the Ledger writes no register, but for the count of lost entries (R412). -/
theorem logAt (h : Only l d e) (bell code : Nat) (page loc : Word) (detail : DWord) (hm : (LDG, 0, 0x030) ∈ l) :
    Only l d (e.logAt bell code page loc detail) := by
  unfold Device.logAt
  split
  · exact h.count16 (by omega) (by omega) hm
  · exact h

end Only

/-! ### Settling a command -/

@[simp] theorem Device.reg_settle (d : Device) (b u o : Nat) : d.settle.reg b u o = d.reg b u o := by
  obtain ⟨_, _, _, _, h⟩ := d.settle_frame; rw [h]; rfl

@[simp] theorem Device.regN_settle (d : Device) (b u o : Nat) : d.settle.regN b u o = d.regN b u o := by
  simp only [Device.regN, Device.reg_settle]

@[simp] theorem Device.faultHeld_settle (d : Device) (b u : Nat) : d.settle.faultHeld b u = d.faultHeld b u := by
  simp only [Device.faultHeld, Device.rb, Device.regN_settle]

@[simp] theorem Device.reply_settle (d : Device) : d.settle.reply = d.reply := by
  obtain ⟨_, _, _, _, h⟩ := d.settle_frame; rw [h]

@[simp] theorem Device.twinPending_settle (d : Device) (b u o : Nat) : d.settle.twinPending b u o = d.twinPending b u o := by
  obtain ⟨_, _, _, _, h⟩ := d.settle_frame; rw [h]; rfl

@[simp] theorem only_settle (l : List (Nat × Nat × Nat)) (d e : Device) : Only l d e.settle ↔ Only l d e := by
  obtain ⟨_, _, _, _, h⟩ := e.settle_frame; rw [h]; rfl

@[simp] theorem sameSquare_settle (d e : Device) : SameSquare d e.settle ↔ SameSquare d e := by
  obtain ⟨_, _, _, _, h⟩ := e.settle_frame; rw [h]; rfl

/-- A command whose meaning is an action answers with the settled effect of the action. -/
theorem Answers.of_act {c : Instr} {s : State} {f : Device → Device} {P : Device → Prop} (hc : exec c s = s.act (Instr.wf c) f)
    (hwf : Instr.wf c = true) (hheld : s.dev.boot.held = false) (hP : P (f s.dev).settle) : Answers c s P :=
  ⟨{ s with dev := (f s.dev).settle }, by rw [hc, hwf, State.act_ok hheld], rfl, hP⟩

/-! ### The completion of a read, and the note of this cycle's events: no register -/

@[simp] theorem Device.regN_answer (d : Device) (v b u o : Nat) : (d.answer v).regN b u o = d.regN b u o := rfl
@[simp] theorem Device.value_answer (d : Device) (v : Nat) : (d.answer v).reply.value = v := rfl
@[simp] theorem only_answer (l : List (Nat × Nat × Nat)) (d e : Device) (v : Nat) : Only l d (e.answer v) ↔ Only l d e := Iff.rfl
@[simp] theorem Device.regN_fresh (d : Device) (m : KMap (Nat × Nat)) (b u o : Nat) : ({ d with fresh := m } : Device).regN b u o = d.regN b u o := rfl
@[simp] theorem only_fresh (l : List (Nat × Nat × Nat)) (d e : Device) (m : KMap (Nat × Nat)) :
    Only l d { e with fresh := m } ↔ Only l d e := Iff.rfl

/-! ### Faults -/

theorem Device.rb_setB_same (d : Device) (b u o : Nat) {i : Nat} (x : Bool) (hi : i < 32) : (d.setB b u o i x).rb b u o i = x := by
  have hlt : putFld (d.regN b u o) i 1 (b2n x) < 2 ^ 32 := putFld_lt _ (d.reg b u o).isLt (by omega)
  have hf : tb (putFld (d.regN b u o) i 1 (b2n x)) i = decide (b2n x % 2 = 1) := by
    have := fld_putFld (d.regN b u o) i 1 (b2n x)
    simp only [fld, Nat.pow_one] at this
    rw [tb, this]
  rw [Device.rb, Device.setB, Device.setF, Device.regN_setN_same _ _ _ _ _ hlt, hf]
  cases x <;> rfl

/-- What recording a fault does (R348): it writes the fault registers of the page, always so when they held no fault, raises the page's fault
bit, and sends the fault on its way to the Ledger. -/
theorem Device.fault_eq (d : Device) (b u code : Nat) (loc : Word) : ∃ (kept : Bool) (fresh : KMap (Nat × Nat)) (faults : List (Nat × Nat × Word × Word)),
    (d.faultHeld b u = false → kept = true) ∧
    d.fault b u code loc = Device.logAt
      { (if kept then d.setFaultRegs b u code loc (BitVec.ofNat 32 d.bellCount) else d).setB b u 0x014 (faultBit b) true with
        fresh := fresh, newFaults := faults } d.bellCount code (pageId b u) loc 0 := by
  unfold Device.fault
  extract_lets when_ key now_ kept src d1 d2
  refine ⟨kept, d2.fresh, d2.newFaults ++ [(regKey b u 0, code, loc, when_)], fun h => by simp [kept, h], ?_⟩
  simp only [d2, d1]
  cases kept <;> rfl

theorem faultBit_lt (b : Nat) : faultBit b < 32 := by unfold faultBit; split <;> decide

/-- A fault writes the event registers of its page and the count of lost Ledger entries. -/
theorem Device.only_fault (d : Device) {b u : Nat} (code : Nat) (loc : Word) (hu : u < 8192) :
    Only ((LDG, 0, 0x030) :: eventRegs b u) d (d.fault b u code loc) := by
  obtain ⟨kept, fresh, faults, -, h⟩ := d.fault_eq b u code loc
  have hk : Only ((LDG, 0, 0x030) :: eventRegs b u) d
      (if kept then d.setFaultRegs b u code loc (BitVec.ofNat 32 d.bellCount) else d) := by
    cases kept
    · exact .refl _ d
    · exact (Only.refl _ d).setFaultRegs _ _ _ hu (fun _ => List.mem_cons_of_mem _)
  rw [h]
  exact Only.logAt (e := { Device.setB _ _ _ _ _ _ with fresh := fresh, newFaults := faults })
    (hk.setB (faultBit b) true hu (by omega) (by simp [eventRegs])) _ _ _ _ _ (by simp)

/-- An event for the Ledger leaves every register but the count of lost entries as it was (R412). -/
theorem Device.reg_logAt (d : Device) {b u o : Nat} (bell code : Nat) (page loc : Word) (detail : DWord) (hu : u < 8192) (ho : o < 4096)
    (hn : (b, u, o) ≠ (LDG, 0, 0x030)) : (d.logAt bell code page loc detail).reg b u o = d.reg b u o :=
  ((Only.refl [(LDG, 0, 0x030)] d).logAt _ _ _ _ _ (by simp)).reg_eq hu ho (by simpa using hn)

theorem Device.twins_logAt (d : Device) (bell code : Nat) (page loc : Word) (detail : DWord) :
    (d.logAt bell code page loc detail).twins = d.twins := by
  unfold Device.logAt; split <;> rfl

/-- A register after a fault, other than the count of lost Ledger entries: the fault registers, where they keep this fault, and the fault bit
are written. -/
theorem Device.reg_fault (d : Device) {b u o : Nat} (code : Nat) (loc : Word) (hu : u < 8192) (ho : o < 4096) (hn : (b, u, o) ≠ (LDG, 0, 0x030)) :
    ∃ kept : Bool, (d.faultHeld b u = false → kept = true) ∧ (d.fault b u code loc).reg b u o
      = ((if kept then d.setFaultRegs b u code loc (BitVec.ofNat 32 d.bellCount) else d).setB b u 0x014 (faultBit b) true).reg b u o := by
  obtain ⟨kept, fresh, faults, hk, h⟩ := d.fault_eq b u code loc
  refine ⟨kept, hk, ?_⟩
  rw [h, Device.reg_logAt _ _ _ _ _ _ hu ho hn]
  rfl

theorem Device.faultHeld_fault (d : Device) {b u : Nat} (code : Nat) (loc : Word) (hu : u < 8192) :
    (d.fault b u code loc).faultHeld b u = true := by
  obtain ⟨kept, -, h⟩ := d.reg_fault (b := b) (o := 0x014) code loc hu (by omega) (by simp)
  have hb := Device.rb_setB_same (if kept then d.setFaultRegs b u code loc (BitVec.ofNat 32 d.bellCount) else d) b u 0x014 true (faultBit_lt b)
  rw [Device.rb, Device.regN] at hb
  rw [Device.faultHeld, Device.rb, Device.regN, h, hb]

/-- The first fault of a page stands in FAULT_CODE. -/
theorem Device.fault_code (d : Device) {b u code : Nat} (loc : Word) (hu : u < 8192) (hc : code < 2 ^ 32) (hf : d.faultHeld b u = false) :
    (d.fault b u code loc).regN b u 0x020 = code := by
  obtain ⟨kept, hk, h⟩ := d.reg_fault (b := b) (o := 0x020) code loc hu (by omega) (by simp)
  rw [Device.regN, h, hk hf, if_pos rfl, Device.setB, Device.setF, Device.setN, Device.reg_setReg _ _ hu (by omega) hu (by omega), if_neg (by simp),
    Device.setFaultRegs, Device.reg_setReg _ _ hu (by omega) hu (by omega), if_neg (by simp),
    Device.reg_setReg _ _ hu (by omega) hu (by omega), if_neg (by simp)]
  exact Device.regN_setN_same _ _ _ _ _ hc

theorem Device.twins_fault (d : Device) (b u code : Nat) (loc : Word) : (d.fault b u code loc).twins = d.twins := by
  obtain ⟨kept, fresh, faults, -, h⟩ := d.fault_eq b u code loc
  rw [h, Device.twins_logAt]
  cases kept <;> rfl

end Sys2Proof.Machine
end

section
/-! SUPPORT. Reads of registers: the three things that a read can do (R9, R10, R608), and the statement of the RC counters. -/

namespace Sys2Proof.Proofs

open Sys2Proof Sys2Proof.Machine

variable {d : Device} {who : Agent} {b u o : Nat}

theorem exec_rcCounterRead (who : Agent) (page : Page) (off : Nat) (s : State) :
    exec (.rcCounterRead who page off) s = s.act (Instr.wf (.rcCounterRead who page off)) (fun d => d.readWith who page.block page.unit off) := rfl

/-- During BOOT a host's read of a block page returns the reset value (R608). -/
theorem readWith_hostBoot (hb : d.hostBoot who = true) (hd : b ≠ DIR) : d.readWith who b u o = d.answer (resetRead b u o) := by
  simp [Device.readWith, hb, hd]

/-- A read of an RC register leaves the events of this cycle in it (R10). -/
theorem readWith_rc (hb : d.hostBoot who = false) (hacc : (regSpec b u o).acc = .rc) :
    d.readWith who b u o = Device.answer
      { d.setN b u o (d.freshOf b u o).2 with fresh := KMap.put d.fresh (regKey b u o) (0, (d.freshOf b u o).2) }
      (if d.readAt b u o = 0 then 0 else (d.freshOf b u o).1) := by
  simp [Device.readWith, hb, hacc]

/-- A read of a register that is neither RC nor one of the two that latch changes nothing (R9). -/
theorem readWith_plain (hb : d.hostBoot who = false) (hacc : (regSpec b u o).acc ≠ .rc) (hbel : (b, o) ≠ (BEL, 0x120))
    (hgat : (b, o) ≠ (GAT, 0x100)) : d.readWith who b u o = d.answer (d.readAt b u o) := by
  simp only [ne_eq, Prod.mk.injEq] at hbel hgat
  simp [Device.readWith, hb, hacc, hbel, hgat]

/-- Settles O11: one case for each of the three things that a read can do. -/
theorem rcReadClears : Obligations.RcReadClears := by
  intro s who page off hwf hheld
  have hpage : page.exists = true ∧ off < 4096 := by simpa [Instr.wf] using hwf
  obtain ⟨hpage, hoff⟩ := hpage
  refine ⟨fun hb hacc hlt => ?_, fun hb hacc hbel hgat => ?_, fun hb hd => ?_⟩
  · refine Answers.of_act (exec_rcCounterRead ..) hwf hheld ?_
    simp only [Device.reply_settle, Device.regN_settle, only_settle, readWith_rc hb hacc, Device.value_answer, Device.regN_answer, only_answer,
      Device.regN_fresh, only_fresh]
    exact ⟨trivial, Device.regN_setN_same _ _ _ _ _ hlt, (Only.refl _ s.dev).setN _ (page_unit_lt hpage) hoff (by simp)⟩
  · refine Answers.of_act (exec_rcCounterRead ..) hwf hheld ?_
    simp only [Device.reply_settle, only_settle, readWith_plain hb hacc hbel hgat, Device.value_answer, only_answer]
    exact ⟨trivial, .refl _ _⟩
  · refine Answers.of_act (exec_rcCounterRead ..) hwf hheld ?_
    simp only [Device.reply_settle, only_settle, readWith_hostBoot hb hd, Device.value_answer, only_answer]
    exact ⟨trivial, .refl _ _⟩

end Sys2Proof.Proofs
end

section
/-! SUPPORT. Twin registers: what each half of a pair does (R11, R12), and the statement of the pair. -/

namespace Sys2Proof.Proofs

open Sys2Proof Sys2Proof.Machine

variable {d e : Device} {b u o : Nat} {val : Word}

theorem exec_twinValueWrite (page : Page) (off : Nat) (val : Word) (s : State) : exec (.twinValueWrite page off val) s
    = s.act (Instr.wf (.twinValueWrite page off val)) (fun d => d.twinValue page.block page.unit off val) := rfl

theorem exec_twinComplementWrite (page : Page) (off : Nat) (val : Word) (s : State) : exec (.twinComplementWrite page off val) s
    = s.act (Instr.wf (.twinComplementWrite page off val)) (fun d => d.twinComplement page.block page.unit off val) := rfl

/-! ### The pending holder -/

/-- A reloaded holder holds the effective value (R11). -/
theorem twinPending_twinReload : (d.twinReload b u o).twinPending b u o = d.reg b u o := by
  simp [Device.twinPending, Device.twinReload, Device.reg]

/-- A holder follows nothing but itself and the effective value of its register. -/
theorem twinPending_congr (ht : e.twins = d.twins) (hr : e.reg b u o = d.reg b u o) : e.twinPending b u o = d.twinPending b u o := by
  simp only [Device.twinPending, ht, hr]

/-- IRQ_RAW is W1C on every page that has it (R503). -/
theorem irqRaw_ne_tw (b u : Nat) : (regSpec b u 0x014).acc ≠ .tw := by
  have hblock : (blockSpec b u 0x014).acc ≠ .tw := by
    unfold blockSpec
    split <;> simp [stlSpec, bskSpec, arcSpec, belSpec, gatSpec, criSpec, depSpec, sthSpec, prtSpec, aisSpec, wbrSpec, ldgSpec, clkSpec, wrdSpec,
      stwSpec, rsvSpec, trsSpec, hstSpec, noReg, inArr]
    -- The Aisle and the host pages: each has two kinds, by the number of the page.
    all_goals split <;> simp
  by_cases hb : b = DIR
  · simp [regSpec, hb, inArr, noReg]
  · simpa [regSpec, hb] using hblock

/-- The fault registers are RO on every page that has them (R503). -/
theorem faultReg_ne_tw (b u : Nat) (ho : o = 0x020 ∨ o = 0x024 ∨ o = 0x028) : (regSpec b u o).acc ≠ .tw := by
  obtain rfl | rfl | rfl := ho <;> by_cases hb : b = DIR <;> simp [regSpec, hb, inArr, noReg]

/-- No twin register is one that a fault writes: those are RO, W1C and RC registers (R503, R422). -/
theorem twin_not_event (hacc : (regSpec b u o).acc = .tw) : (b, u, o) ∉ (LDG, 0, 0x030) :: eventRegs b u := by
  intro hm
  simp only [eventRegs, List.mem_cons, Prod.mk.injEq, true_and, List.not_mem_nil, or_false] at hm
  obtain ⟨rfl, rfl, rfl⟩ | rfl | hfault := hm
  · exact absurd hacc (by decide)
  · exact irqRaw_ne_tw b u hacc
  · exact faultReg_ne_tw b u hfault hacc

/-! ### The two halves -/

theorem twinValue_open (hacc : (regSpec b u o).acc = .tw) (hopen : d.twinOpen b u = true) :
    d.twinValue b u o val = { d with twins := KMap.put d.twins (regKey b u o) (some (val &&& BitVec.ofNat 32 (regSpec b u o).mask)) } := by
  simp [Device.twinValue, hacc, hopen]

theorem twinValue_shut (hopen : d.twinOpen b u = false) : d.twinValue b u o val = d := by
  simp [Device.twinValue, hopen]

theorem twinComplement_shut {c : Nat} (hopen : d.twinOpen b u = false) : d.twinComplement b u c val = d := by
  simp [Device.twinComplement, hopen]

/-- A write to the complement half of a pair that takes writes: the pending value is committed, or the pair is refused (R11). -/
theorem twinComplement_open (hacc : (regSpec b u o).acc = .tw) (hnone : (regSpec b u (o + 4)).acc = .none_) (hopen : d.twinOpen b u = true) :
    d.twinComplement b u (o + 4) val =
      if (d.twinMatches b u o val && !twinBad b u o (d.twinPending b u o).toNat) = true then
        (d.twinReload b u o).twinCommit b u o (d.twinPending b u o)
      else (d.twinReload b u o).integ b u o := by
  have hpair : ¬(o + 4 < 4 ∨ (regSpec b u o).acc ≠ .tw ∨ (regSpec b u (o + 4)).acc ≠ .none_) := by
    rintro (h | h | h)
    · omega
    · exact h hacc
    · exact h hnone
  simp only [Device.twinComplement, Nat.add_sub_cancel, if_neg hpair, hopen, Bool.not_true, Bool.false_eq_true, if_false]

theorem twinComplement_accepted (hacc : (regSpec b u o).acc = .tw) (hnone : (regSpec b u (o + 4)).acc = .none_) (hopen : d.twinOpen b u = true)
    (hmatch : d.twinMatches b u o val = true) (hgood : twinBad b u o (d.twinPending b u o).toNat = false) :
    d.twinComplement b u (o + 4) val = (d.twinReload b u o).twinCommit b u o (d.twinPending b u o) := by
  rw [twinComplement_open hacc hnone hopen, if_pos]
  rw [hmatch, hgood]; rfl

theorem twinComplement_refused (hacc : (regSpec b u o).acc = .tw) (hnone : (regSpec b u (o + 4)).acc = .none_) (hopen : d.twinOpen b u = true)
    (hbad : d.twinMatches b u o val = false ∨ twinBad b u o (d.twinPending b u o).toNat = true) :
    d.twinComplement b u (o + 4) val = (d.twinReload b u o).integ b u o := by
  rw [twinComplement_open hacc hnone hopen, if_neg]
  obtain hbad | hbad := hbad
  · rw [hbad, Bool.false_and]; exact Bool.false_ne_true
  · rw [hbad, Bool.not_true, Bool.and_false]; exact Bool.false_ne_true

/-- Nearly every twin register does nothing more than hold its value. -/
theorem twinCommit_plain (v : Word)
    (hplain : (b, o) ∉ [(BEL, 0x008), (BEL, 0x100), (CRI, 0x008), (PRT, 0x008), (AIS, 0x008), (WBR, 0x008), (STW, 0x008), (TRS, 0x008)]) :
    d.twinCommit b u o v = d.setReg b u o v := by
  unfold Device.twinCommit
  split <;> simp at hplain ⊢

/-! ### The statement -/

/-- A write to the value half puts the listed bits into the holder and nothing anywhere else. -/
theorem twinValue_effect (hacc : (regSpec b u o).acc = .tw) (hopen : d.twinOpen b u = true) :
    (d.twinValue b u o val).twinPending b u o = val &&& BitVec.ofNat 32 (regSpec b u o).mask
      ∧ SameSquare d (d.twinValue b u o val) ∧ Only [] d (d.twinValue b u o val) := by
  rw [twinValue_open hacc hopen]
  exact ⟨by simp [Device.twinPending], ⟨rfl, rfl, rfl, rfl⟩, .refl _ _⟩

/-- A twin register that does nothing more than hold its value takes the committed one. -/
theorem twinCommit_effect (v : Word) (hu : u < 8192) (ho : o < 4096)
    (hplain : (b, o) ∉ [(BEL, 0x008), (BEL, 0x100), (CRI, 0x008), (PRT, 0x008), (AIS, 0x008), (WBR, 0x008), (STW, 0x008), (TRS, 0x008)]) :
    (d.twinCommit b u o v).reg b u o = v ∧ SameSquare d (d.twinCommit b u o v) ∧ Only [(b, u, o)] d (d.twinCommit b u o v) := by
  rw [twinCommit_plain v hplain]
  exact ⟨Device.reg_setReg_same .., ⟨rfl, rfl, rfl, rfl⟩, (Only.refl _ d).setReg v hu ho (by simp)⟩

/-- A pair that is refused: INTEG is recorded on the page, and holder and register both hold the effective value (R11). -/
theorem twinRefused_effect (hu : u < 8192) (ho : o < 4096) (hacc : (regSpec b u o).acc = .tw) (he : e = (d.twinReload b u o).integ b u o) :
    e.reg b u o = d.reg b u o ∧ e.twinPending b u o = d.reg b u o ∧ e.faultHeld b u = true
      ∧ (d.faultHeld b u = false → e.regN b u 0x020 = 0x7001) ∧ Only ((LDG, 0, 0x030) :: eventRegs b u) d e := by
  subst he
  have honly : Only ((LDG, 0, 0x030) :: eventRegs b u) (d.twinReload b u o) ((d.twinReload b u o).integ b u o) := Device.only_fault _ _ _ hu
  have hreg : ((d.twinReload b u o).integ b u o).reg b u o = (d.twinReload b u o).reg b u o := honly.reg_eq hu ho (twin_not_event hacc)
  have hpend := twinPending_congr (Device.twins_fault _ _ _ _ _) hreg
  exact ⟨hreg, hpend.trans twinPending_twinReload, Device.faultHeld_fault _ _ _ hu,
    fun hf => Device.fault_code _ _ hu (by decide) hf, honly⟩

/-- Settles O14: the value half, then the complement half of a pair that is accepted, one that is refused, and one of an arcade page whose stall is
not closed. -/
theorem twinPair : Obligations.TwinPair := by
  intro s page off val hwf hheld hacc hoff hnone
  have hpage : page.exists = true ∧ off < 4096 := by simpa [Instr.wf] using hwf
  obtain ⟨hpage, ho⟩ := hpage
  have hu := page_unit_lt hpage
  have hwfc : Instr.wf (.twinComplementWrite page (off + 4) val) = true := by simp [Instr.wf, hpage, hoff]
  refine ⟨fun hopen => ⟨?_, fun hmatch hgood hplain => ?_, fun hbad => ?_⟩, fun hshut c hc => ?_⟩
  · refine Answers.of_act (exec_twinValueWrite ..) hwf hheld ?_
    simp only [Device.twinPending_settle, sameSquare_settle, only_settle]
    exact twinValue_effect hacc hopen
  · refine Answers.of_act (exec_twinComplementWrite ..) hwfc hheld ?_
    rw [twinComplement_accepted hacc hnone hopen hmatch hgood]
    simp only [Device.reg_settle, sameSquare_settle, only_settle]
    exact twinCommit_effect _ hu ho hplain
  · refine Answers.of_act (exec_twinComplementWrite ..) hwfc hheld ?_
    rw [twinComplement_refused hacc hnone hopen hbad]
    simp only [Device.reg_settle, Device.regN_settle, Device.faultHeld_settle, Device.twinPending_settle, only_settle]
    exact twinRefused_effect hu ho hacc rfl
  · have hsame : ∀ d, d = s.dev → d.settle.twinPending page.block page.unit off = s.dev.twinPending page.block page.unit off
        ∧ SameSquare s.dev d.settle ∧ Only [] s.dev d.settle := by
      rintro _ rfl
      simp only [Device.twinPending_settle, sameSquare_settle, only_settle]
      exact ⟨trivial, ⟨rfl, rfl, rfl, rfl⟩, .refl _ _⟩
    obtain rfl | rfl : c = .twinValueWrite page off val ∨ c = .twinComplementWrite page (off + 4) val := by simpa using hc
    · exact Answers.of_act (exec_twinValueWrite ..) hwf hheld (hsame _ (twinValue_shut hshut))
    · exact Answers.of_act (exec_twinComplementWrite ..) hwfc hheld (hsame _ (twinComplement_shut hshut))

end Sys2Proof.Proofs
end

section
/-! SUPPORT. Bits and fields of a register after a field of it is written, and what settling a command leaves of the parts that statements name. -/

namespace Sys2Proof.Machine

/-! ### Bits of a word -/

theorem tb_eq_testBit (v i : Nat) : tb v i = v.testBit i := Nat.testBit_eq_decide_div_mod_eq.symm

/-- A bit of a word with a field replaced: of the new field inside it, of the word outside. -/
theorem testBit_putFld (v lo n x i : Nat) :
    (putFld v lo n x).testBit i = if lo ≤ i ∧ i < lo + n then x.testBit (i - lo) else v.testBit i := by
  rw [putFld_eq, Nat.add_comm, Nat.testBit_two_pow_mul_add _ (Nat.mod_lt _ (Nat.two_pow_pos lo)), Nat.testBit_mod_two_pow, Nat.add_comm (x % 2 ^ n),
    Nat.testBit_two_pow_mul_add _ (Nat.mod_lt _ (Nat.two_pow_pos n)), Nat.testBit_mod_two_pow, Nat.testBit_div_two_pow, Nat.testBit_div_two_pow]
  by_cases hlo : i < lo
  · simp [hlo, Nat.not_le.mpr hlo]
  · by_cases hn : i - lo < n
    · rw [if_neg hlo, if_pos hn, if_pos (by omega)]; simp [hn]
    · rw [if_neg hlo, if_neg hn, if_neg (by omega)]; congr 1; omega

/-! ### Bits and fields of a register -/

namespace Device

variable (d : Device) {b u o : Nat}

/-- A write at another offset, of whatever page, leaves a register alone. -/
theorem reg_setReg_off {b' u' o' : Nat} (v : Word) (h : o' % 4096 ≠ o % 4096) : (d.setReg b u o v).reg b' u' o' = d.reg b' u' o' := by
  have hk : regKey b' u' o' ≠ regKey b u o := by unfold regKey; omega
  simp only [setReg, reg, KMap.set]
  split
  · rw [KMap.get_del, if_neg hk]
  · rw [KMap.get_put, if_neg hk]

theorem regN_setF_same {lo n : Nat} (x : Nat) (h : lo + n ≤ 32) : (d.setF b u o lo n x).regN b u o = putFld (d.regN b u o) lo n x :=
  regN_setN_same _ _ _ _ _ (putFld_lt _ (d.reg b u o).isLt h)

theorem rf_setF_same {lo n : Nat} (x : Nat) (h : lo + n ≤ 32) : (d.setF b u o lo n x).rf b u o lo n = x % 2 ^ n := by
  rw [rf, regN_setF_same d x h, fld_putFld]

theorem rb_setF {lo n : Nat} (x i : Nat) (h : lo + n ≤ 32) :
    (d.setF b u o lo n x).rb b u o i = if lo ≤ i ∧ i < lo + n then x.testBit (i - lo) else d.rb b u o i := by
  rw [rb, rb, regN_setF_same d x h, tb_eq_testBit, tb_eq_testBit, testBit_putFld]

theorem rb_setB_other {i j : Nat} (x : Bool) (hj : j < 32) (h : i ≠ j) : (d.setB b u o j x).rb b u o i = d.rb b u o i := by
  rw [setB, rb_setF d _ _ (by omega), if_neg (by omega)]

/-- A field of one bit is that bit. -/
theorem rf_one (i : Nat) : d.rf b u o i 1 = (d.rb b u o i).toNat := by
  rw [rf, rb, tb_eq_testBit, Nat.toNat_testBit, fld, Nat.pow_one]

theorem rb_raise_same {i : Nat} (hi : i < 32) : (d.raise b u i).rb b u 0x014 i = true := rb_setB_same d b u 0x014 true hi

/-- Raising a bit writes no register at another offset than that of IRQ_RAW. -/
theorem regN_raise_off {b' u' i : Nat} (h : o % 4096 ≠ 0x014) : (d.raise b u i).regN b' u' o = d.regN b' u' o :=
  congrArg BitVec.toNat (d.reg_setReg_off _ h)

theorem regN_setN_off {b' u' o' : Nat} (v : Nat) (h : o' % 4096 ≠ o % 4096) : (d.setN b u o v).regN b' u' o' = d.regN b' u' o' :=
  congrArg BitVec.toNat (d.reg_setReg_off _ h)

/-! ### Settling a command -/

@[simp] theorem rb_settle (b u o i : Nat) : d.settle.rb b u o i = d.rb b u o i := by simp only [rb, regN_settle]
@[simp] theorem rf_settle (b u o lo n : Nat) : d.settle.rf b u o lo n = d.rf b u o lo n := by simp only [rf, regN_settle]
@[simp] theorem activeSet_settle : d.settle.activeSet = d.activeSet := d.rf_settle ..
@[simp] theorem shadowLocked_settle : d.settle.shadowLocked = d.shadowLocked := by simp only [shadowLocked, rb_settle]
@[simp] theorem bell_settle : d.settle.bell = d.bell := by obtain ⟨_, _, _, _, h⟩ := d.settle_frame; rw [h]
@[simp] theorem stalls_settle : d.settle.stalls = d.stalls := by obtain ⟨_, _, _, _, h⟩ := d.settle_frame; rw [h]
@[simp] theorem chans_settle : d.settle.chans = d.chans := by obtain ⟨_, _, _, _, h⟩ := d.settle_frame; rw [h]
@[simp] theorem chan_settle (c : Nat) : d.settle.chan c = d.chan c := by simp only [chan, chans_settle]
@[simp] theorem wbr_settle : d.settle.wbr = d.wbr := by obtain ⟨_, _, _, _, h⟩ := d.settle_frame; rw [h]

end Device

@[simp] theorem sameMemory_settle (d e : Device) : SameMemory d e.settle ↔ SameMemory d e := by
  obtain ⟨_, _, _, _, h⟩ := e.settle_frame; rw [h]; rfl

@[simp] theorem sameButDepot_settle (d e : Device) : SameButDepot d e.settle ↔ SameButDepot d e := by
  obtain ⟨_, _, _, _, h⟩ := e.settle_frame; rw [h]; rfl

/-! ### Only the listed registers differ -/

namespace Only

variable {l : List (Nat × Nat × Nat)} {d e : Device} {b u o : Nat}

theorem setF (h : Only l d e) (lo n x : Nat) (hu : u < 8192) (ho : o < 4096) (hm : (b, u, o) ∈ l) : Only l d (e.setF b u o lo n x) :=
  h.setN _ hu ho hm

theorem raise (h : Only l d e) (i : Nat) (hu : u < 8192) (hm : (b, u, 0x014) ∈ l) : Only l d (e.raise b u i) :=
  h.setB i true hu (by omega) hm

end Only
end Sys2Proof.Machine
end

section
/-! SUPPORT. What recording events and writing the Depot can touch, and that reads of the stall stores only record events. -/

namespace Sys2Proof.Machine

/-- `e` is `d` but for registers, the notes of this cycle's events and faults, the Ledger and the Depot. -/
def DepotWritten (d e : Device) : Prop :=
  ∃ regs fresh faults ledger depot, e = { d with regs := regs, fresh := fresh, newFaults := faults, ledger := ledger, depot := depot }

/-- `e` is `d` but for recorded events: the Depot is as it was too, and so is the STATUS register of every page (R503). -/
structure Recorded (d e : Device) : Prop where
  written : DepotWritten d e
  depot : e.depot = d.depot
  status : ∀ b u, e.reg b u 0x010 = d.reg b u 0x010

namespace DepotWritten

variable {a d e : Device}

theorem refl (d : Device) : DepotWritten d d := ⟨_, _, _, _, _, rfl⟩

theorem trans (h : DepotWritten a d) (g : DepotWritten d e) : DepotWritten a e := by
  obtain ⟨_, _, _, _, _, rfl⟩ := h
  obtain ⟨_, _, _, _, _, rfl⟩ := g
  exact ⟨_, _, _, _, _, rfl⟩

theorem foldl {α : Type} {f : Device → α → Device} (h : ∀ a x, DepotWritten a (f a x)) (l : List α) (d : Device) :
    DepotWritten d (l.foldl f d) := List.foldlRecOn l f (refl d) (fun a ha x _ => ha.trans (h a x))

theorem wbr_eq (h : DepotWritten d e) : e.wbr = d.wbr := by obtain ⟨_, _, _, _, _, rfl⟩ := h; rfl

theorem sameButDepot (h : DepotWritten d e) : SameButDepot d e := by
  obtain ⟨_, _, _, _, _, rfl⟩ := h
  exact ⟨fun _ _ => rfl, fun _ => rfl, fun _ => rfl, fun _ => rfl⟩

end DepotWritten

namespace Recorded

variable {a d e : Device} {b u o : Nat}

theorem refl (d : Device) : Recorded d d := ⟨.refl d, rfl, fun _ _ => rfl⟩

theorem trans (h : Recorded a d) (g : Recorded d e) : Recorded a e :=
  ⟨h.written.trans g.written, g.depot.trans h.depot, fun b u => (g.status b u).trans (h.status b u)⟩

theorem ite {c : Prop} [Decidable c] {x y : Device} (hx : Recorded d x) (hy : Recorded d y) : Recorded d (if c then x else y) := by
  split <;> assumption

theorem foldl {α : Type} {f : Device → α → Device} (h : ∀ a x, Recorded a (f a x)) (l : List α) (d : Device) : Recorded d (l.foldl f d) :=
  List.foldlRecOn l f (refl d) (fun a ha x _ => ha.trans (h a x))

/-- The same of a chain that carries a result along. -/
theorem foldl_snd {α β : Type} {f : β × Device → α → β × Device} (h : ∀ a x, Recorded a.2 (f a x).2) (l : List α) (r : β × Device) :
    Recorded r.2 (l.foldl f r).2 :=
  List.foldlRecOn l f (motive := fun a => Recorded r.2 a.2) (refl r.2) (fun a ha x _ => ha.trans (h a x))

theorem sameMemory (h : Recorded d e) : SameMemory d e := by
  obtain ⟨⟨regs, fresh, faults, ledger, depot, rfl⟩, rfl, -⟩ := h
  exact ⟨fun _ _ => rfl, fun _ => rfl, fun _ _ _ => rfl, fun _ => rfl, fun _ => rfl⟩

theorem activeSet_eq (h : Recorded d e) : e.activeSet = d.activeSet := by
  simp only [Device.activeSet, Device.rf, Device.regN, h.status]

theorem setReg (d : Device) (b u : Nat) {o : Nat} (v : Word) (ho : 0x010 ≠ o % 4096) : Recorded d (d.setReg b u o v) :=
  ⟨⟨_, _, _, _, _, rfl⟩, rfl, fun _ _ => d.reg_setReg_off v ho⟩

theorem setFresh (d : Device) (m : KMap (Nat × Nat)) : Recorded d { d with fresh := m } := ⟨⟨_, _, _, _, _, rfl⟩, rfl, fun _ _ => rfl⟩

theorem raise (d : Device) (b u i : Nat) : Recorded d (d.raise b u i) := (setReg d b u _ (by decide)).trans (setFresh _ _)

theorem bumpBy (d : Device) (b u : Nat) {o : Nat} (cap n : Nat) (ho : 0x010 ≠ o % 4096) : Recorded d (d.bumpBy b u o cap n) :=
  (setReg d b u _ ho).trans (setFresh _ _)

theorem logAt (d : Device) (bell code : Nat) (page loc : Word) (detail : DWord) : Recorded d (d.logAt bell code page loc detail) :=
  ite (bumpBy d _ _ _ _ (by decide)) ⟨⟨_, _, _, _, _, rfl⟩, rfl, fun _ _ => rfl⟩

theorem log (d : Device) (code b u : Nat) (loc : Word) (detail : Nat) : Recorded d (d.log code b u loc detail) := logAt ..

theorem setFaultRegs (d : Device) (b u code : Nat) (loc when_ : Word) : Recorded d (d.setFaultRegs b u code loc when_) :=
  ((setReg d b u _ (by decide)).trans (setReg _ b u loc (by decide))).trans (setReg _ b u when_ (by decide))

theorem fault (d : Device) (b u code : Nat) (loc : Word) : Recorded d (d.fault b u code loc) := by
  obtain ⟨kept, fresh, faults, -, h⟩ := d.fault_eq b u code loc
  have hregs : Recorded d (if kept then d.setFaultRegs b u code loc (BitVec.ofNat 32 d.bellCount) else d) :=
    ite (setFaultRegs ..) (refl d)
  rw [h]
  exact ((hregs.trans (setReg _ b u _ (by decide))).trans ⟨⟨_, fresh, faults, _, _, rfl⟩, rfl, fun _ _ => rfl⟩).trans (logAt ..)

theorem mapCheck (d : Device) (o : Nat) : Recorded d (d.mapCheck o) := ite (refl d) (fault ..)

theorem remapCheck (d : Device) (l : List Remap) (addr : Nat) : Recorded d (d.remapCheck l addr) := ite (fault ..) (refl d)

/-- A demand read of a stall store corrects in flight, and records what it met (R109). -/
theorem storeRead (d : Device) (p wa : Nat) : Recorded d (d.storeRead p wa).2 :=
  ((remapCheck d _ _).trans (ite ((bumpBy _ _ _ _ _ (by decide)).trans (raise ..)) (refl _))).trans (ite ((raise ..).trans (log ..)) (refl _))

end Recorded

/-- An owner write of a Depot lane (R406 to R410). -/
theorem DepotWritten.depotPutCode (d : Device) (pb word lane : Nat) (c : CodeWord) : DepotWritten d (d.depotPutCode pb word lane c) := by
  unfold Device.depotPutCode
  extract_lets c1 d1 rs
  have h1 : DepotWritten d d1 := ⟨_, _, _, _, _, rfl⟩
  split
  · exact h1.trans ⟨_, _, _, _, _, rfl⟩
  · split <;> exact h1.trans ⟨_, _, _, _, _, rfl⟩

theorem DepotWritten.depotWriteLane (d : Device) (off : Nat) (v : DWord) (spoil : Bool) : DepotWritten d (d.depotWriteLane off v spoil) := by
  unfold Device.depotWriteLane
  extract_lets pb d1 ts
  have h1 : DepotWritten d d1 := ((Recorded.mapCheck d 0x114).trans (Recorded.remapCheck ..)).written.trans (depotPutCode ..)
  split
  · exact h1
  · exact h1.trans ⟨_, _, _, _, _, rfl⟩

end Sys2Proof.Machine
end

section
/-! SUPPORT. Messages to other chips: they wait on the Aisles, and change nothing else. -/

namespace Sys2Proof.Machine

/-- A message that joins a control queue changes only what waits on the Aisles (R478). -/
theorem Device.pushCtl_eq (d : Device) (l : Nat) (m : AisleMsg) : ∃ a, d.pushCtl l m = { d with aisles := a } := by
  unfold Device.pushCtl
  extract_lets k
  split
  · exact ⟨d.aisles, rfl⟩
  · exact ⟨_, rfl⟩

theorem Device.sendNew_eq (d : Device) (links : List Nat) (type a b c : Nat) : ∃ x, d.sendNew links type a b c = { d with aisles := x } := by
  have hpush : ∃ x, links.foldl (fun acc l => acc.pushCtl l ⟨type, d.chipIndex, d.aisles.msgNo, a, b, c⟩) d = { d with aisles := x } := by
    refine List.foldlRecOn _ _ (motive := fun e => ∃ x, e = { d with aisles := x }) ⟨d.aisles, rfl⟩ ?_
    rintro _ ⟨x, rfl⟩ l -
    exact pushCtl_eq ..
  obtain ⟨x, hx⟩ := hpush
  exact ⟨_, by rw [Device.sendNew, hx]⟩

/-- Passing readiness on to the master changes only what waits on the Aisles (R480). -/
theorem Device.relayReady_eq (d : Device) (kind : Nat) : ∃ x, d.relayReady kind = { d with aisles := x } := by
  unfold Device.relayReady Device.sendUp
  split
  · split
    · exact ⟨d.aisles, rfl⟩
    · exact d.sendNew_eq ..
  · exact ⟨d.aisles, rfl⟩

@[simp] theorem Device.rb_relayReady (d : Device) (kind b u o i : Nat) : (d.relayReady kind).rb b u o i = d.rb b u o i := by
  obtain ⟨x, hx⟩ := d.relayReady_eq kind; rw [hx]; rfl

theorem sameMemory_relayReady (d e : Device) (kind : Nat) : SameMemory d (e.relayReady kind) ↔ SameMemory d e := by
  obtain ⟨x, hx⟩ := e.relayReady_eq kind; rw [hx]; rfl

end Sys2Proof.Machine
end

section
/-! SUPPORT. The Weighbridge: the check of the shadow sets, the record of a window, and the statements of its commands. -/

namespace Sys2Proof.Machine

namespace Recorded

/-! ### The check of the shadow sets (R67) -/

theorem checkStall (d : Device) (p : Nat) : Recorded d (d.checkStall p).2 := by
  unfold Device.checkStall
  extract_lets s base r
  refine foldl_snd (fun a ki => ?_) _ ([], d)
  exact (storeRead ..).trans (storeRead ..)

/-- The check reads the stores, and changes nothing but what those reads record. -/
theorem checkShadow (d : Device) : Recorded d d.checkShadow.2 := by
  unfold Device.checkShadow
  extract_lets r bad
  have hr : Recorded d r.2 := by
    refine foldl_snd (fun a ps => ?_) _ (none, d)
    split
    · exact refl _
    · extract_lets x
      have hx : Recorded a.2 x.2 := checkStall ..
      split <;> exact hx
  split <;> exact hr

/-! ### The record of a window (R55, R82) -/

theorem zeroRange (d : Device) (loc : Word) (detail : Nat) : Recorded d (d.zeroRange loc detail) :=
  ((raise ..).trans (bumpBy _ _ _ _ _ (by decide))).trans (log ..)

theorem zeroRanges (d : Device) (w : Window) : Recorded d (d.zeroRanges w) := by
  unfold Device.zeroRanges
  split
  · exact refl d
  · extract_lets d1
    have h1 : Recorded d d1 := ite (refl d) (foldl (fun a kv => ite (zeroRange ..) (refl a)) _ d)
    exact ite h1 (h1.trans (foldl (fun a kv => ite (zeroRange ..) (refl a)) _ d1))

end Recorded

namespace Device

variable (d : Device)

/-- The record of a window stands in the Depot: what STATS_READY does before it marks the half full (R82, R84). -/
def recordWritten (w : Window) : Device :=
  let half := 1 - d.rf WBR 0 0x010 7 1
  let base := d.rf WBR 0 0x108 16 11 * 65536 + half * 0x30000
  let d1 := (List.range 24576).foldl (fun a i => a.depotWriteLane ((base + 8 * i) % 2 ^ 27) (d.recordWord w i) false) d
  { d1 with wbr := { d1.wbr with closed := none }, frees := d1.frees + 16384 }.zeroRanges w

theorem statsReady_closed {w : Window} (h : d.wbr.closed = some w) : d.statsReady =
    (((d.recordWritten w).setB WBR 0 0x010 (5 + (1 - d.rf WBR 0 0x010 7 1)) true).setF WBR 0 0x010 7 1 (1 - d.rf WBR 0 0x010 7 1)).raise WBR 0 0 := by
  simp only [statsReady, h]; rfl

/-- Writing the record takes the window, and changes no memory but the Depot. -/
theorem recordWritten_effect (w : Window) : (d.recordWritten w).wbr.closed = none ∧ SameButDepot d (d.recordWritten w) := by
  unfold recordWritten
  extract_lets half base d1
  have h1 : DepotWritten d d1 := .foldl (fun _ _ => .depotWriteLane ..) _ d
  clear_value d1
  have hz := (Recorded.zeroRanges { d1 with wbr := { d1.wbr with closed := none }, frees := d1.frees + 16384 } w).written
  refine ⟨by rw [hz.wbr_eq], ?_⟩
  obtain ⟨_, _, _, _, _, rfl⟩ := h1
  exact hz.sameButDepot

/-- STATS_READY with a closed window waiting: the half that was due is full, and LAST_HALF names it (R82). -/
theorem statsReady_effect {w : Window} (h : d.wbr.closed = some w) :
    d.statsReady.wbr.closed = none ∧ d.statsReady.rf WBR 0 0x010 7 1 = 1 - d.rf WBR 0 0x010 7 1
      ∧ d.statsReady.rb WBR 0 0x010 (5 + (1 - d.rf WBR 0 0x010 7 1)) = true ∧ d.statsReady.rb WBR 0 0x014 0 = true
      ∧ SameButDepot d d.statsReady := by
  obtain ⟨hclosed, hmem⟩ := d.recordWritten_effect w
  rw [d.statsReady_closed h]
  generalize d.recordWritten w = x at hclosed hmem ⊢
  generalize hdue : 1 - d.rf WBR 0 0x010 7 1 = half
  have hhalf : half ≤ 1 := by omega
  refine ⟨hclosed, ?_, ?_, rb_raise_same _ (by decide), hmem⟩
  · rw [rf, regN_raise_off _ (by decide), ← rf, rf_setF_same _ _ (by decide)]; omega
  · rw [rb, regN_raise_off _ (by decide), ← rb, rb_setF _ _ _ (by decide), if_neg (by omega), rb_setB_same _ _ _ _ _ (by omega)]

/-! ### Refusals and the end of the check (R68, R73, R74) -/

/-- A refused swap: ARM, the check and READY are clear, and the rest of STATUS is as it was. -/
theorem rb_swapRefuse (loc i : Nat) : (d.swapRefuse loc).rb WBR 0 0x010 i = if 1 ≤ i ∧ i < 4 then false else d.rb WBR 0 0x010 i := by
  rw [swapRefuse, rb, regN_raise_off _ (by decide), regN_setN_off _ _ (by decide), ← rb, rb_setF _ _ _ (by decide), Nat.zero_testBit]

theorem activeSet_of_rb {e : Device} (h : e.rb WBR 0 0x010 0 = d.rb WBR 0 0x010 0) : e.activeSet = d.activeSet := by
  rw [activeSet, activeSet, rf_one, rf_one, h]

theorem swapCheckDone_found {loc : Nat} (hcheck : d.rb WBR 0 0x010 2 = true) (h : d.checkShadow.1 = some loc) :
    d.swapCheckDone = d.checkShadow.2.swapRefuse loc := by
  simp [swapCheckDone, hcheck, h]

theorem swapCheckDone_clean (hcheck : d.rb WBR 0 0x010 2 = true) (h : d.checkShadow.1 = none) :
    d.swapCheckDone = (d.checkShadow.2.setF WBR 0 0x010 1 3 5).relayReady 0 := by
  simp [swapCheckDone, hcheck, h]

/-- ARM outside the busy round: ARM and the check are set and READY is clear (R67). -/
theorem rb_swapArm (hbusy : d.rb WBR 0 0x010 4 = false) (i : Nat) :
    d.swapArm.rb WBR 0 0x010 i = if 1 ≤ i ∧ i < 4 then (3).testBit (i - 1) else d.rb WBR 0 0x010 i := by
  rw [swapArm, if_neg (by simp [hbusy]), rb_setF _ _ _ (by decide)]

theorem swapArm_effect (hbusy : d.rb WBR 0 0x010 4 = false) :
    d.swapArm.rb WBR 0 0x010 1 = true ∧ d.swapArm.rb WBR 0 0x010 2 = true ∧ d.swapArm.rb WBR 0 0x010 3 = false
      ∧ d.swapArm.shadowLocked = true ∧ d.swapArm.activeSet = d.activeSet ∧ Only [(WBR, 0, 0x010)] d d.swapArm := by
  have hbit := d.rb_swapArm hbusy
  refine ⟨hbit 1, hbit 2, hbit 3, ?_, activeSet_of_rb d (hbit 0), ?_⟩
  · rw [shadowLocked, hbit 1]; rfl
  · rw [swapArm, if_neg (by simp [hbusy])]
    exact (Only.refl _ d).setF 1 3 3 (by decide) (by decide) (by decide)

theorem swapArm_busy (hbusy : d.rb WBR 0 0x010 4 = true) :
    d.swapArm.rb WBR 0 0x014 2 = true ∧ d.swapArm.regN WBR 0 0x11C = 3 ∧ Only [(WBR, 0, 0x014), (WBR, 0, 0x11C)] d d.swapArm := by
  rw [swapArm, if_pos hbusy]
  refine ⟨rb_raise_same _ (by decide), ?_, ?_⟩
  · rw [regN_raise_off _ (by decide), regN_setN_same _ _ _ _ _ (by decide)]
  · exact ((Only.refl _ d).setN 3 (by decide) (by decide) (by decide)).raise 2 (by decide) (by decide)

/-- The check ends with READY, or with SWAP_REFUSED and ARM clear (R67, R68). -/
theorem swapCheckDone_effect (hcheck : d.rb WBR 0 0x010 2 = true) :
    (d.checkShadow.1 = none →
        d.swapCheckDone.rb WBR 0 0x010 1 = true ∧ d.swapCheckDone.rb WBR 0 0x010 2 = false ∧ d.swapCheckDone.rb WBR 0 0x010 3 = true)
      ∧ (d.checkShadow.1 ≠ none →
        d.swapCheckDone.rb WBR 0 0x010 1 = false ∧ d.swapCheckDone.rb WBR 0 0x010 3 = false ∧ d.swapCheckDone.rb WBR 0 0x014 2 = true)
      ∧ d.swapCheckDone.activeSet = d.activeSet ∧ SameMemory d d.swapCheckDone := by
  have hread := Recorded.checkShadow d
  cases h : d.checkShadow.1 with
  | none =>
    rw [d.swapCheckDone_clean hcheck h]
    generalize d.checkShadow.2 = r at hread ⊢
    have hbit : ∀ i, ((r.setF WBR 0 0x010 1 3 5).relayReady 0).rb WBR 0 0x010 i
        = if 1 ≤ i ∧ i < 4 then (5).testBit (i - 1) else r.rb WBR 0 0x010 i := by
      intro i; rw [rb_relayReady, rb_setF _ _ _ (by decide)]
    refine ⟨fun _ => ⟨hbit 1, hbit 2, hbit 3⟩, fun hne => absurd rfl hne, ?_, ?_⟩
    · exact (activeSet_of_rb r (hbit 0)).trans hread.activeSet_eq
    · exact (sameMemory_relayReady ..).mpr hread.sameMemory
  | some loc =>
    rw [d.swapCheckDone_found hcheck h]
    generalize d.checkShadow.2 = r at hread ⊢
    have hbit := r.rb_swapRefuse loc
    refine ⟨fun hnone => absurd hnone (by simp), fun _ => ⟨hbit 1, hbit 3, rb_raise_same _ (by decide)⟩, ?_, hread.sameMemory⟩
    exact (activeSet_of_rb r (hbit 0)).trans hread.activeSet_eq

/-- REL0 and REL1 clear the FULL bit of their half and nothing else (R80). -/
theorem release_effect {j : Nat} (hj : j < 32) :
    (d.setB WBR 0 0x010 j false).rb WBR 0 0x010 j = false
      ∧ (∀ i, i < 32 → i ≠ j → (d.setB WBR 0 0x010 j false).rb WBR 0 0x010 i = d.rb WBR 0 0x010 i)
      ∧ Only [(WBR, 0, 0x010)] d (d.setB WBR 0 0x010 j false) :=
  ⟨rb_setB_same _ _ _ _ _ hj, fun _ _ hne => rb_setB_other d _ hj hne, (Only.refl _ d).setB j false (by decide) (by decide) (by decide)⟩

/-- DISARM before the guard cycle clears ARM, the check and READY (R71). -/
theorem swapDisarm_open (h : d.swapCommitted = false) :
    d.swapDisarm.rb WBR 0 0x010 1 = false ∧ d.swapDisarm.rb WBR 0 0x010 2 = false ∧ d.swapDisarm.rb WBR 0 0x010 3 = false
      ∧ d.swapDisarm.activeSet = d.activeSet ∧ Only [(WBR, 0, 0x010)] d d.swapDisarm := by
  rw [swapDisarm, if_neg (by simp [h])]
  have hbit : ∀ i, (d.setF WBR 0 0x010 1 3 0).rb WBR 0 0x010 i = if 1 ≤ i ∧ i < 4 then (0).testBit (i - 1) else d.rb WBR 0 0x010 i :=
    fun i => rb_setF _ _ _ (by decide)
  exact ⟨hbit 1, hbit 2, hbit 3, activeSet_of_rb d (hbit 0), (Only.refl _ d).setF 1 3 0 (by decide) (by decide) (by decide)⟩

theorem swapDisarm_committed (h : d.swapCommitted = true) : d.swapDisarm = d := by rw [swapDisarm, if_pos h]

end Device
end Sys2Proof.Machine

namespace Sys2Proof.Proofs

open Sys2Proof Sys2Proof.Machine

theorem exec_swapArm (s : State) : exec .swapArm s = s.act (Instr.wf .swapArm) Device.swapArm := rfl
theorem exec_swapDisarm (s : State) : exec .swapDisarm s = s.act (Instr.wf .swapDisarm) Device.swapDisarm := rfl
theorem exec_swapCheckDone (s : State) : exec .swapCheckDone s = s.act (Instr.wf .swapCheckDone) Device.swapCheckDone := rfl
theorem exec_statsReady (s : State) : exec .statsReady s = s.act (Instr.wf .statsReady) Device.statsReady := rfl
theorem exec_wbrStatsAckRel0 (s : State) :
    exec .wbrStatsAckRel0 s = s.act (Instr.wf .wbrStatsAckRel0) (fun d => d.setB WBR 0 0x010 5 false) := rfl
theorem exec_wbrStatsAckRel1 (s : State) :
    exec .wbrStatsAckRel1 s = s.act (Instr.wf .wbrStatsAckRel1) (fun d => d.setB WBR 0 0x010 6 false) := rfl

/-- Settles O36: each command by the effect of its action, of which settling changes nothing that the statement names. -/
theorem weighbridgeCommands : Obligations.WeighbridgeCommands := by
  refine ⟨fun s hheld => ⟨fun hbusy => ?_, fun hbusy => ?_, fun hcheck => ?_, ?_, ?_⟩, fun s w hheld hclosed => ?_⟩
  · exact Answers.of_act (exec_swapArm s) rfl hheld (by simpa using s.dev.swapArm_effect hbusy)
  · exact Answers.of_act (exec_swapArm s) rfl hheld (by simpa using s.dev.swapArm_busy hbusy)
  · exact Answers.of_act (exec_swapCheckDone s) rfl hheld (by simpa using s.dev.swapCheckDone_effect hcheck)
  · exact Answers.of_act (exec_wbrStatsAckRel0 s) rfl hheld (by simpa using s.dev.release_effect (j := 5) (by decide))
  · exact Answers.of_act (exec_wbrStatsAckRel1 s) rfl hheld (by simpa using s.dev.release_effect (j := 6) (by decide))
  · exact Answers.of_act (exec_statsReady s) rfl hheld (by simpa using s.dev.statsReady_effect hclosed)

/-- Settles O37: the DISARM of a swap that is not committed, and of one that is. -/
theorem disarmBeforeGuard : Obligations.DisarmBeforeGuard := by
  refine fun s hheld => ⟨fun hopen => ?_, fun hcommitted => ?_⟩
  · exact Answers.of_act (exec_swapDisarm s) rfl hheld (by simpa using s.dev.swapDisarm_open hopen)
  · refine Answers.of_act (exec_swapDisarm s) rfl hheld ?_
    rw [Device.swapDisarm_committed _ hcommitted]
    exact ⟨by rw [Device.bell_settle], (only_settle ..).mpr (.refl _ _)⟩

end Sys2Proof.Proofs
end

section
/-! SUPPORT. The guard decision and the start of a slot: what deciding adds, what issuing a slot gives the channels, and the statement of both. -/

namespace Sys2Proof.KMap

/-- A map over the values shows through every reading that it leaves alone. -/
theorem reading_get_map {α β : Type} {g : α → β} {f : α → α} (hf : ∀ v, g (f v) = g v) (m : KMap α) (k : Nat) (d : α) :
    g (get (m.map (fun kv => (kv.1, f kv.2))) k d) = g (get m k d) := by
  induction m with
  | nil => rfl
  | cons e rest ih =>
    obtain ⟨q, w⟩ := e
    simp only [List.map_cons, get]
    split
    · exact hf w
    · exact ih

end Sys2Proof.KMap

namespace Sys2Proof.Machine

theorem mem_insertNew {α : Type} [DecidableEq α] {x y : α} {l : List α} : x ∈ insertNew y l ↔ x ∈ l ∨ x = y := by
  unfold insertNew
  split
  · next h => exact ⟨.inl, fun hx => hx.elim id (fun e => e ▸ h)⟩
  · simp

namespace Device

variable (d : Device)

/-! ### The guard decision (R70) -/

/-- One decision names the next bell, and waits on the Aisles; the rest of the device is as it was. -/
theorem decideOne_eq (kind : Nat) : ∃ x, d.decideOne kind =
    { d with bell := { d.bell with decided := insertNew (kind, d.nextBell % 2 ^ 24) d.bell.decided }, aisles := x } :=
  sendNew_eq _ _ 6 kind _ 0

/-- Decisions of several kinds name the next bell in each of them. -/
theorem decideAll_eq (kinds : List Nat) : ∃ decided x,
    kinds.foldl (fun a k => a.decideOne k) d = { d with bell := { d.bell with decided := decided }, aisles := x }
      ∧ ∀ y, y ∈ decided ↔ y ∈ d.bell.decided ∨ (y.2 = d.nextBell % 2 ^ 24 ∧ y.1 ∈ kinds) := by
  induction kinds generalizing d with
  | nil => exact ⟨d.bell.decided, d.aisles, rfl, by simp⟩
  | cons k kinds ih =>
    obtain ⟨x, hx⟩ := d.decideOne_eq k
    obtain ⟨decided, z, hfold, hmem⟩ := ih (d.decideOne k)
    refine ⟨decided, z, by rw [List.foldl_cons, hfold, hx], fun y => ?_⟩
    have hnext : (d.decideOne k).nextBell = d.nextBell := by rw [hx]; rfl
    have hdecided : (d.decideOne k).bell.decided = insertNew (k, d.nextBell % 2 ^ 24) d.bell.decided := by rw [hx]
    have hnew : y = (k, d.nextBell % 2 ^ 24) ↔ y.2 = d.nextBell % 2 ^ 24 ∧ y.1 = k := Prod.ext_iff.trans And.comm
    rw [hmem, hnext, hdecided, mem_insertNew, List.mem_cons, or_assoc, and_or_left, hnew]

/-- The kinds that the master decides. -/
theorem mem_guardKinds (k : Nat) : k ∈ d.guardKinds ↔
    (k = 0 ∧ d.marketReady 0 = true) ∨ (k = 1 ∧ d.marketReady 1 = true ∧ d.loadState = 2) ∨ (k = 2 ∧ d.marketReady 2 = true ∧ d.loadState = 4)
      ∨ (k = 3 ∧ d.bell.halting = true ∧ (d.marketHalted = false ∨ d.children ≠ [])) := by
  have hif : ∀ (c : Prop) [Decidable c] (j : Nat), k ∈ (if c then [j] else []) ↔ k = j ∧ c := by
    intro c _ j; split <;> simp [*]
  simp only [guardKinds, List.mem_append, hif, Bool.and_eq_true, Bool.or_eq_true, Bool.not_eq_true', decide_eq_true_eq, or_assoc,
    List.isEmpty_eq_false_iff]

/-! ### Issuing a slot (R63, R224) -/

/-- Verdicts owed for a slot stand in the bell's lists; free values may be used. -/
theorem oweSlot_eq (slot : Nat) (late : Bool) : ∃ owing seqs frees,
    d.oweSlot slot late = { d with bell := { d.bell with owing := owing, seqs := seqs }, frees := frees } :=
  List.foldlRecOn _ _ (motive := fun a => ∃ owing seqs frees, a = { d with bell := { d.bell with owing := owing, seqs := seqs }, frees := frees })
    ⟨_, _, _, rfl⟩ (by rintro _ ⟨_, _, _, rfl⟩ cx -; exact ⟨_, _, _, rfl⟩)

/-- A stall store reads alike while its words and the remap entries of its stall are the same. -/
theorem storeCode_congr {d e : Device} {p : Nat} (wa : Nat) (hremaps : (e.stall p).remaps = (d.stall p).remaps) (hstore : e.store = d.store)
    (hspare : e.storeSpare = d.storeSpare) : e.storeCode p wa = d.storeCode p wa := by
  simp only [storeCode, hremaps, hstore, hspare]

theorem remaps_clearEnds (slot p : Nat) : ((d.clearEnds slot).stall p).remaps = (d.stall p).remaps :=
  KMap.reading_get_map (g := Stall.remaps) (f := fun v => { v with ctxs := v.ctxs.map (fun c => { c with ends := KMap.set c.ends slot 0 0 }) })
    (fun _ => rfl) d.stalls p {}

theorem chan_setChan (c c' : Nat) (x : Chan) : (d.setChan c x).chan c' = if c' = c then x else d.chan c' := KMap.get_put ..

/-- The channels of a list are given a slot: an idle one takes it up, another has it due. -/
def giveSlot (run : SlotRun) (l : List (Nat × Chan)) : Device :=
  l.foldl (fun a kc =>
    let c := a.chan kc.1
    a.setChan kc.1 (if c.run.isNone then c.takeSlot (c.due ++ [run]) else { c with due := c.due ++ [run] })) d

theorem giveSlot_eq (run : SlotRun) (l : List (Nat × Chan)) : ∃ chans, d.giveSlot run l = { d with chans := chans } :=
  List.foldlRecOn _ _ (motive := fun a => ∃ chans, a = { d with chans := chans }) ⟨_, rfl⟩ (by rintro _ ⟨_, rfl⟩ kc -; exact ⟨_, rfl⟩)

/-- A channel that works a slot goes on with it. -/
theorem run_giveSlot_busy (run r : SlotRun) (l : List (Nat × Chan)) {c : Nat} (h : (d.chan c).run = some r) :
    ((d.giveSlot run l).chan c).run = some r := by
  refine List.foldlRecOn _ _ (motive := fun a : Device => (a.chan c).run = some r) h (fun a ha kc _ => ?_)
  rw [chan_setChan]
  split
  · next hc => subst hc; simp [ha]
  · exact ha

/-- An idle channel of the list that has a descriptor for the slot takes it up. -/
theorem run_giveSlot_idle (run : SlotRun) (l : List (Nat × Chan)) {c : Nat} (hmem : c ∈ l.map Prod.fst) (hrun : (d.chan c).run = none)
    (hdue : (d.chan c).due = []) (hnext : ((d.chan c).nextDesc 0 run.slot).isSome = true) : ((d.giveSlot run l).chan c).run = some run := by
  induction l generalizing d with
  | nil => simp at hmem
  | cons kc l ih =>
    by_cases hc : c = kc.1
    · subst hc
      refine run_giveSlot_busy _ run run l ?_
      rw [chan_setChan, if_pos rfl]
      simp [hrun, hdue, Chan.takeSlot, hnext]
    · have hchan : ∀ x, (d.setChan kc.1 x).chan c = d.chan c := fun x => by rw [chan_setChan, if_neg hc]
      refine ih _ (by simpa [hc] using hmem) ?_ ?_ ?_ <;> rw [hchan] <;> assumption

/-- A slot that is issued, before its tokens wait at the edges: its verdicts are owed, no body of it has ended, and the rota has it. -/
def slotGiven (slot : Nat) : Device := ((d.oweSlot slot false).clearEnds slot).giveSlot ⟨slot, d.work, d.bell.count⟩ d.rotaChans

theorem issueSlot_eq (slot : Nat) : ∃ arcade, d.issueSlot slot = { d.slotGiven slot with arcade := arcade } := by
  have hrota : ((d.oweSlot slot false).clearEnds slot).rotaChans = d.rotaChans := by
    obtain ⟨_, _, _, h⟩ := d.oweSlot_eq slot false; rw [h]; rfl
  rw [slotGiven, ← hrota]
  exact List.foldlRecOn _ _ (motive := fun a : Device => ∃ arcade, a = { Device.giveSlot _ _ _ with arcade := arcade }) ⟨_, rfl⟩
    (by rintro _ ⟨_, rfl⟩ e -; exact ⟨_, rfl⟩)

/-- Issuing a slot writes no register and no memory, and the count of issued slots is for SLOT_START to keep. -/
theorem issueSlot_frame (slot : Nat) : (d.issueSlot slot).bell.issued = d.bell.issued ∧ Only [] d (d.issueSlot slot) := by
  obtain ⟨arcade, hissue⟩ := d.issueSlot_eq slot
  obtain ⟨owing, seqs, frees, howe⟩ := d.oweSlot_eq slot false
  obtain ⟨chans, hgive⟩ := ((d.oweSlot slot false).clearEnds slot).giveSlot_eq ⟨slot, d.work, d.bell.count⟩ d.rotaChans
  have hstall := (d.oweSlot slot false).remaps_clearEnds slot
  rw [howe] at hstall
  rw [hissue, slotGiven, hgive, howe]
  exact ⟨rfl, fun _ _ _ _ _ _ => rfl, fun p wa => storeCode_congr wa (hstall p) rfl rfl, fun _ => rfl, fun _ _ _ => rfl, fun _ => rfl, fun _ => rfl⟩

/-- A channel of the rota that is idle and has a descriptor for an issued slot takes it up. -/
theorem run_issueSlot {slot c : Nat} {x : Chan} (hmem : (c, x) ∈ d.chans) (hx : d.chan c = x) (hrota : x.rota = true) (hrun : x.run = none)
    (hdue : x.due = []) (hnext : (x.nextDesc 0 slot).isSome = true) :
    ((d.issueSlot slot).chan c).run = some ⟨slot, d.work, d.bell.count⟩ := by
  subst hx
  have hchan : ((d.oweSlot slot false).clearEnds slot).chan c = d.chan c := by
    obtain ⟨_, _, _, h⟩ := d.oweSlot_eq slot false; rw [h]; rfl
  have hlist : c ∈ d.rotaChans.map Prod.fst := List.mem_map_of_mem (List.mem_filter.mpr ⟨hmem, hrota⟩)
  obtain ⟨arcade, hissue⟩ := d.issueSlot_eq slot
  rw [hissue]
  exact run_giveSlot_idle _ _ _ hlist (by rw [hchan, hrun]) (by rw [hchan, hdue]) (by rw [hchan]; exact hnext)

/-! ### GUARD_DECISION and SLOT_START -/

/-- Where a bell will ring, the guard cycle decides what it is, and nothing else (R70, R226). -/
theorem guardDecision_decides (hfollows : d.follows = false)
    (hring : (d.bellsRing = true ∧ d.rb BEL 0 0x008 0 = true) ∨ (d.bell.waiting = true ∧ d.bell.grid.isSome = true)) :
    (∀ y, y ∈ d.guardDecision.bell.decided ↔ y ∈ d.bell.decided ∨ (y.2 = d.nextBell % 2 ^ 24 ∧ y.1 ∈ d.guardKinds))
      ∧ d.guardDecision.stalls = d.stalls ∧ Only [] d d.guardDecision := by
  obtain ⟨decided, x, hfold, hmem⟩ := d.decideAll_eq d.guardKinds
  have hif : ¬(d.follows || !(d.bellsRing && d.rb BEL 0 0x008 0 || d.bell.waiting && d.bell.grid.isSome)) = true := by
    obtain ⟨h, h'⟩ | ⟨h, h'⟩ := hring <;> simp [*]
  rw [guardDecision, if_neg hif, hfold]
  exact ⟨hmem, rfl, .refl [] d⟩

theorem guardDecision_none (h : d.follows = true ∨
    ((d.bellsRing = false ∨ d.rb BEL 0 0x008 0 = false) ∧ (d.bell.waiting = false ∨ d.bell.grid = none))) : d.guardDecision = d := by
  refine if_pos ?_
  obtain h | ⟨h | h, h' | h'⟩ := h <;> simp [*]

/-- Out of turn, or before its cycle, a slot does not start (R223). -/
theorem slotStart_early {slot : Nat} (h : slot ≠ d.bell.issued ∨ d.rf BEL 0 0x128 0 24 < d.slotOffset slot) : d.slotStart slot = d := if_pos h

/-- The rota counts a slot of the round as issued: what SLOT_START does before the slot begins. -/
def slotCounted (slot : Nat) : Device := { d with bell := { d.bell with issued := slot + 1 } }

/-- In turn and in time a slot begins (R223, R224). -/
theorem slotStart_due {slot : Nat} (hturn : slot = d.bell.issued) (hcycle : d.slotOffset slot ≤ d.rf BEL 0 0x128 0 24) :
    d.slotStart slot = (d.slotCounted slot).beginSlot slot := if_neg (by omega)

/-- The rota issues a slot of the round. -/
theorem beginSlot_goes {slot : Nat} (hissuing : d.issuing = true) (hlt : slot < d.bell.slots) :
    ¬(!d.issuing || decide (d.bell.slots ≤ slot)) = true := by
  rw [hissuing, decide_eq_false (Nat.not_le.mpr hlt)]
  exact Bool.false_ne_true

theorem beginSlot_open {slot : Nat} (hissuing : d.issuing = true) (hlt : slot < d.bell.slots) (hopen : d.bell.hushed = false) :
    d.beginSlot slot = d.issueSlot slot := by
  rw [beginSlot, if_neg (d.beginSlot_goes hissuing hlt), if_neg (by rw [hopen]; exact Bool.false_ne_true)]

theorem beginSlot_hushed {slot : Nat} (hissuing : d.issuing = true) (hlt : slot < d.bell.slots) (hhushed : d.bell.hushed = true) :
    d.beginSlot slot = { d with bell := { d.bell with deferred := insertNew slot d.bell.deferred } } := by
  rw [beginSlot, if_neg (d.beginSlot_goes hissuing hlt), if_pos hhushed]

end Device
end Sys2Proof.Machine

namespace Sys2Proof.Proofs

open Sys2Proof Sys2Proof.Machine

theorem exec_guardDecision (s : State) : exec .guardDecision s = s.act (Instr.wf .guardDecision) Device.guardDecision := rfl
theorem exec_slotStart (slot : Nat) (s : State) : exec (.slotStart slot) s = s.act (Instr.wf (.slotStart slot)) (fun d => d.slotStart slot) := rfl

/-- Settles O34: what the guard cycle decides, then the start of a slot in an unhushed cycle, in a hushed one, and out of turn. -/
theorem guardAndSlots : Obligations.GuardAndSlots := by
  refine ⟨fun s hheld => ⟨fun hfollows hring => ?_, fun hnone => ?_⟩, fun s k hk hheld => ⟨fun hissuing hlt hturn hcycle => ?_, fun hearly => ?_⟩⟩
  · obtain ⟨hmem, hframe⟩ := s.dev.guardDecision_decides hfollows hring
    have hkind : ∀ kind, kind ∈ s.dev.guardKinds → (kind, s.dev.nextBell % 2 ^ 24) ∈ s.dev.guardDecision.bell.decided :=
      fun kind h => (hmem _).mpr (.inr ⟨rfl, h⟩)
    simp only [Device.mem_guardKinds] at hkind
    refine Answers.of_act (exec_guardDecision s) rfl hheld ?_
    simp only [Device.bell_settle, Device.stalls_settle, only_settle]
    exact ⟨fun h => hkind 0 (by simp [h]), fun h h' => hkind 1 (by simp [h, h']), fun h h' => hkind 2 (by simp [h, h']),
      fun h h' => hkind 3 (by simp [h, h']), fun y hy => (hmem y).mp hy, hframe⟩
  · refine Answers.of_act (exec_guardDecision s) rfl hheld ?_
    rw [s.dev.guardDecision_none hnone]
    simpa using Only.refl [] s.dev
  · have hwf : Instr.wf (.slotStart k) = true := by simp [Instr.wf, hk]
    refine ⟨fun hopen => Answers.of_act (exec_slotStart k s) hwf hheld ?_, fun hhushed => Answers.of_act (exec_slotStart k s) hwf hheld ?_⟩
    · rw [s.dev.slotStart_due hturn hcycle, Device.beginSlot_open (s.dev.slotCounted k) hissuing hlt hopen]
      simp only [Device.bell_settle, Device.chan_settle, only_settle]
      obtain ⟨hissued, hframe⟩ := (s.dev.slotCounted k).issueSlot_frame k
      exact ⟨hissued, fun c x => Device.run_issueSlot (s.dev.slotCounted k), hframe⟩
    · rw [s.dev.slotStart_due hturn hcycle, Device.beginSlot_hushed (s.dev.slotCounted k) hissuing hlt hhushed]
      simp only [Device.bell_settle, Device.chans_settle, Device.stalls_settle, only_settle]
      exact ⟨rfl, mem_insertNew.mpr (.inr rfl), rfl, rfl, .refl [] s.dev⟩
  · refine Answers.of_act (exec_slotStart k s) (by simp [Instr.wf, hk]) hheld ?_
    rw [s.dev.slotStart_early hearly]
    simpa using Only.refl [] s.dev

end Sys2Proof.Proofs
end

section
/-! SUPPORT. A step of the line-buffer feed that only pops, the count of a word that fails its parity check, and the refutation of the statement of
the context switch and the feed: it admits a stall with more baskets than the four that a stall has, and the parity counter of basket 120 is at the
place of a register of the next page. -/

namespace Sys2Proof.Machine.Device

variable (d : Device) {p b k : Nat} {w : BWord}

@[simp] theorem reg_setCtx (c : Ctx) (b' u' o' : Nat) : (d.setCtx p k c).reg b' u' o' = d.reg b' u' o' := rfl

/-- The head of a basket does not depend on the feed's note of its step. -/
theorem headOf_fedNow : (d.fedNow p).headOf p b = d.headOf p b := by
  simp only [headOf, fedNow, updStall, stall_setStall, if_pos, setStall_work]
  rfl

/-- A step of the feed that only discards: the head leaves, and the step counts (R270). -/
theorem feedStep_drop {r : CtxRecord} {l : LbDecl} (hfeed : (d.stall p).feeding = some (k, r, l, .drop b)) (hhushed : d.bell.hushed = false)
    (hclosed : d.closed p = false) (hfed : (d.stall p).fedAt ≠ some d.work) (hgen : d.headGen p b ((d.stall p).ctx k).gen = some 0) :
    d.feedStep p = ((d.fedNow p).basketPop p b).2.setCtx p k (((d.stall p).ctx k).stepped false) := by
  simp [feedStep, hfeed, hhushed, hclosed, hfed, hgen]

/-- A pop whose word fails its parity check counts it, and but for IRQ_RAW it writes no other register (R190). -/
theorem reg_basketPop_parity (hhead : d.headOf p b = some w) (hpar : w.parOk = false) {b' u' o' : Nat} (ho : o' % 4096 ≠ 0x014) :
    (d.basketPop p b).2.reg b' u' o' = (d.count16 BSK p (0x110 + 0x20 * b)).reg b' u' o' := by
  simp only [basketPop, hhead, checkPar, hpar, Bool.false_eq_true, if_false]
  exact (reg_raise ..).trans (reg_setReg_off _ _ ho)

end Sys2Proof.Machine.Device

namespace Sys2Proof.Machine

/-- What an answered command whose meaning is an action has left is the settled effect of the action. -/
theorem Answers.act_effect {c : Instr} {s : State} {f : Device → Device} {P : Device → Prop} (h : Answers c s P)
    (hc : exec c s = s.act (Instr.wf c) f) (hwf : Instr.wf c = true) (hheld : s.dev.boot.held = false) : P (f s.dev).settle := by
  obtain ⟨t, hexec, -, hP⟩ := h
  rw [hc, hwf, State.act_ok hheld] at hexec
  obtain rfl := Host.Outcome.next.inj hexec
  exact hP

end Sys2Proof.Machine

namespace Sys2Proof.Proofs

open Sys2Proof Sys2Proof.Machine

theorem exec_lbFeedStep (p : Nat) (s : State) : exec (.lbFeedStep p) s = s.act (Instr.wf (.lbFeedStep p)) (fun d => d.feedStep p) := rfl

/-! ### A stall of 121 baskets that discards from the last -/

/-- A context that is fed by basket 120, and a block of one column with one row of tail. -/
def farRecord : CtxRecord :=
  { length := 1, entry := 0, stop := 0, loopFirst := [], loopLast := [], loopBound := [], slotBaskets := 0, fwdSlot := 0, fwdLimit := 0, fwdArm := 0,
    feed := 120, lbBase := 0, lbSize := 0, feedWords := 0, fireExpect := 0, gInit := [] }
def farBlock : LbDecl :=
  { nb := 1, pwd := 0, w := 1, tailC := 0, y0 := 0, ownRows := 0, tailR := 1, padT := 0, padB := 0, padL := 0, padR := 0, padCode := 0, rper := 0,
    cper := 0, rmask := 1, cmask := 1, htBsk := 7, hbBsk := 7, htRows := 0, hbRows := 0, htN := 0, hbN := 0 }

/-- A data word of generation 0 whose parity bit is wrong. -/
def badParWord : BWord := { data := 0, fin := false, spoil := false, gen := 0, ctl := false, par := true }

/-- No bit of 0 counts towards its parity. -/
theorem parityOf_zero (w : Nat) : parityOf w 0 = false := by
  refine List.foldlRecOn (List.range w) _ (motive := fun x => x = false) rfl (fun x hx i _ => ?_)
  rw [hx, tb, Nat.zero_div]
  rfl

theorem badParWord_parOk : badParWord.parOk = false := by
  have hbit : badParWord.parBit = false := by
    show ((((parityOf 64 0 != false) != false) != parityOf 2 0) != false) = false
    rw [parityOf_zero, parityOf_zero]
    rfl
  rw [BWord.parOk, hbit]
  rfl

def farStall : Stall :=
  { ctxs := [{ rec_ := some farRecord, lb := some farBlock, feeding := true }],
    baskets := List.replicate 120 {} ++ [{ chain := [{ w := badParWord, at_ := 0 }] }] }

/-- The chip runs, and stall 0 is that stall, open. -/
def farFeed : Device :=
  Device.setN { work := 1, boot := { held := false }, reserve := { mapped := true }, stalls := [(0, farStall)] } STL 0 0x008 0

theorem farFeed_feeding : (farFeed.stall 0).feeding = some (0, farRecord, farBlock, .drop 120) := by decide
theorem farFeed_headOf : farFeed.headOf 0 120 = some badParWord := by decide
theorem farFeed_closed : farFeed.closed 0 = false := by decide

/-- The parity counter of basket 120 of stall 0 is at the place of STATUS of the basket page of stall 1. -/
theorem farFeed_status : (farFeed.count16 BSK 0 (0x110 + 0x20 * 120)).reg BSK 1 0x010 ≠ farFeed.reg BSK 1 0x010 := by decide

/-- Refutes O31: the statement asks of the basket only that the stall's list has it, and has the discarding step write no register but IRQ_RAW and the
parity counter of that basket. The counter of basket 120 lies beyond its page, and the step of the stall above counts in a register of stall 1. -/
theorem not_switchAndFeed : ¬ Obligations.SwitchAndFeed := by
  intro h
  obtain ⟨-, hfeed⟩ := h ⟨[], farFeed⟩ 0 rfl (by decide) rfl farFeed_closed
  obtain ⟨-, hdata, -⟩ := hfeed 0 farRecord farBlock (.drop 120) _ _ farFeed_feeding (by decide) rfl rfl
  obtain ⟨-, hdrop⟩ := hdata 120 badParWord (by decide) farFeed_headOf rfl rfl
  obtain ⟨-, -, -, ⟨hregs, -⟩, -⟩ := Answers.act_effect (hdrop rfl) (exec_lbFeedStep ..) rfl rfl
  have hsame := hregs BSK 1 0x010 (by decide) (by decide) (by simp [parityRegs])
  rw [Device.reg_settle] at hsame
  have hdropped := farFeed.feedStep_drop farFeed_feeding rfl farFeed_closed (by decide) (by decide)
  have hcounted : ((farFeed.fedNow 0).basketPop 0 120).2.reg BSK 1 0x010 = (farFeed.count16 BSK 0 (0x110 + 0x20 * 120)).reg BSK 1 0x010 :=
    Device.reg_basketPop_parity (w := badParWord) _ (farFeed.headOf_fedNow.trans farFeed_headOf) badParWord_parOk (by decide)
  refine farFeed_status (hcounted.symm.trans ?_)
  rw [← hsame, hdropped, Device.reg_setCtx]

end Sys2Proof.Proofs
end

section
/-! SUPPORT. Updates of a stall, what settling leaves of it, and what the issue of an instruction keeps count of: the rules by which statements about
an instruction that goes speak of its effect alone. -/

namespace Sys2Proof.Machine

/-! ### Of the stalls only the one that a command names -/

namespace Device

variable (d : Device)

/-- A stall after an update of a stall. -/
theorem stall_updStall (p q : Nat) (f : Stall → Stall) : (d.updStall p f).stall q = if q = p then f (d.stall p) else d.stall q :=
  stall_setStall ..

@[simp] theorem stall_updStall_same (p : Nat) (f : Stall → Stall) : (d.updStall p f).stall p = f (d.stall p) := by
  rw [stall_updStall, if_pos rfl]

@[simp] theorem stall_settle (p : Nat) : d.settle.stall p = d.stall p := by simp only [stall, stalls_settle]

theorem otherStalls_updStall (p : Nat) (f : Stall → Stall) : OtherStalls p d (d.updStall p f) :=
  fun q hq => by rw [stall_updStall, if_neg hq]

end Device

theorem OtherStalls.trans {p : Nat} {a d e : Device} (h : OtherStalls p a d) (g : OtherStalls p d e) : OtherStalls p a e :=
  fun q hq => (g q hq).trans (h q hq)

section
variable (p : Nat) (d e : Device)

@[simp] theorem otherStalls_settle : OtherStalls p d e.settle ↔ OtherStalls p d e := by simp only [OtherStalls, Device.stall_settle]
@[simp] theorem sameQueues_settle : SameQueues p d e.settle ↔ SameQueues p d e := by simp only [SameQueues, Device.stall_settle]
@[simp] theorem sameFeeds_settle : SameFeeds p d e.settle ↔ SameFeeds p d e := by simp only [SameFeeds, Device.stall_settle]
@[simp] theorem sameAccs_settle : SameAccs p d e.settle ↔ SameAccs p d e := by simp only [SameAccs, Device.stall_settle]

end

theorem SameMemory.trans {a d e : Device} (h : SameMemory a d) (g : SameMemory d e) : SameMemory a e := by
  obtain ⟨hstore, hprog, hdepot, hsth, hclerk⟩ := h
  obtain ⟨gstore, gprog, gdepot, gsth, gclerk⟩ := g
  exact ⟨fun p wa => (gstore p wa).trans (hstore p wa), fun i => (gprog i).trans (hprog i),
    fun pb word lane => (gdepot pb word lane).trans (hdepot pb word lane), fun a => (gsth a).trans (hsth a), fun i => (gclerk i).trans (hclerk i)⟩

namespace Only

variable {l l' : List (Nat × Nat × Nat)} {a d e : Device}

theorem trans (h : Only l a d) (g : Only l d e) : Only l a e :=
  ⟨fun b u o hu ho hn => (g.1 b u o hu ho hn).trans (h.1 b u o hu ho hn), h.2.trans g.2⟩

theorem mono (h : Only l d e) (hsub : ∀ r ∈ l, r ∈ l') : Only l' d e := ⟨fun b u o hu ho hn => h.1 b u o hu ho (fun hm => hn (hsub _ hm)), h.2⟩

/-- An update of a stall writes no register, and no memory reads otherwise while the stall's remap entries stay. -/
theorem updStall (h : Only l d e) (p : Nat) {f : Stall → Stall} (hf : (f (e.stall p)).remaps = (e.stall p).remaps) : Only l d (e.updStall p f) := by
  refine h.trans ⟨fun _ _ _ _ _ _ => rfl, fun q wa => Device.storeCode_congr wa ?_ rfl rfl, fun _ => rfl, fun _ _ _ => rfl, fun _ => rfl, fun _ => rfl⟩
  rw [Device.stall_updStall]
  split
  · next hq => rw [hq, hf]
  · rfl

end Only

/-! ### The loops that end at an instruction (R128, R154) -/

theorem mem_insLoop {r : CtxRecord} {k j : Nat} {l : List Nat} (h : j ∈ insLoop r k l) : j = k ∨ j ∈ l := by
  induction l with
  | nil => simpa [insLoop] using h
  | cons i l ih =>
    unfold insLoop at h
    split at h
    · simpa using h
    · rcases List.mem_cons.mp h with rfl | h
      · simp
      · rcases ih h with rfl | h
        · simp
        · simp [h]

/-- A context has four loops. -/
theorem lt_of_mem_loopsAt {r : CtxRecord} {pc j : Nat} (h : j ∈ loopsAt r pc) : j < 4 := by
  unfold loopsAt at h
  refine List.foldlRecOn _ _ (motive := fun l => ∀ j ∈ l, j < 4) (by simp) (fun l hl k hk j hj => ?_) j h
  rcases mem_insLoop hj with rfl | hj
  · exact List.mem_range.mp (List.mem_filter.mp hk).1
  · exact hl j hj

/-- Of the loops, only those of the list are counted. -/
theorem mem_of_mem_loopStep {r : CtxRecord} {cnt : Nat → Nat} {l : List Nat} {e : Nat × Nat} (h : e ∈ (loopStep r cnt l).1) : e.1 ∈ l := by
  induction l with
  | nil => simp [loopStep] at h
  | cons k l ih =>
    unfold loopStep at h
    split at h
    · simp only [List.mem_singleton] at h; simp [h]
    · rcases List.mem_cons.mp h with rfl | h
      · simp
      · exact List.mem_cons_of_mem _ (ih h)

/-! ### What an issue keeps count of -/

/-- `e` is `d` but for what the issue of an instruction of context `k` keeps count of: the context's PC, firing count and loop counters, the contexts of
the stall, and the sequencer's notes. -/
structure Counted (p k : Nat) (d e : Device) : Prop where
  stall : ∃ ctxs noIssue waitIn waitOut branchTo endedAt, e.stall p =
    { d.stall p with ctxs := ctxs, noIssue := noIssue, waitIn := waitIn, waitOut := waitOut, branchTo := branchTo, endedAt := endedAt }
  others : OtherStalls p d e
  only : Only (issueRegs p k) d e

namespace Counted

variable {p k : Nat} {a d e : Device}

theorem refl (p k : Nat) (d : Device) : Counted p k d d := ⟨⟨_, _, _, _, _, _, rfl⟩, fun _ _ => rfl, .refl _ d⟩

theorem trans (h : Counted p k a d) (g : Counted p k d e) : Counted p k a e := by
  obtain ⟨_, _, _, _, _, _, hs⟩ := h.stall
  obtain ⟨_, _, _, _, _, _, gs⟩ := g.stall
  exact ⟨⟨_, _, _, _, _, _, by rw [gs, hs]⟩, h.others.trans g.others, h.only.trans g.only⟩

/-- A write of one of the registers of an issue. -/
theorem setReg (d : Device) {o : Nat} (v : Word) (hp : p < 6400) (ho : o < 4096) (hm : (STL, p, o) ∈ issueRegs p k) :
    Counted p k d (d.setReg STL p o v) := ⟨⟨_, _, _, _, _, _, rfl⟩, fun _ _ => rfl, (Only.refl _ d).setReg v (by omega) ho hm⟩

/-- An update of the stall's contexts and the sequencer's notes. -/
theorem updStall (d : Device) {f : Stall → Stall} (hf : ∃ ctxs noIssue waitIn waitOut branchTo endedAt, f (d.stall p) =
    { d.stall p with ctxs := ctxs, noIssue := noIssue, waitIn := waitIn, waitOut := waitOut, branchTo := branchTo, endedAt := endedAt }) :
    Counted p k d (d.updStall p f) := by
  refine ⟨by rwa [Device.stall_updStall_same], d.otherStalls_updStall p f, (Only.refl _ d).updStall p ?_⟩
  obtain ⟨_, _, _, _, _, _, h⟩ := hf
  rw [h]

theorem setPc (d : Device) (v : Nat) (hp : p < 6400) (hk : k < 8) : Counted p k d (d.setPc p k v) :=
  setReg d _ hp (by omega) (by simp [issueRegs])

theorem setCnt (d : Device) {c : Nat} (v : Nat) (hp : p < 6400) (hk : k < 8) (hc : c < 4) : Counted p k d (d.setCnt p k c v) :=
  setReg d _ hp (by omega) (by simp [issueRegs]; omega)

/-- An issued instruction is one firing of its context (R115, R139). -/
theorem countFiring (d : Device) (hp : p < 6400) (hk : k < 8) : Counted p k d (d.countFiring p k) := by
  have hfired : Counted p k d (d.setN STL p (0x180 + 4 * k) ((d.regN STL p (0x180 + 4 * k) + 1) % 2 ^ 32)) :=
    setReg d _ hp (by omega) (by simp [issueRegs])
  obtain ⟨hstall, hothers, honly⟩ := hfired.trans (updStall _ (f := fun s =>
    { s.setCtx k { s.ctx k with fired := (s.ctx k).fired + 1 } with noIssue := some d.work, waitIn := false, waitOut := false })
    ⟨_, _, _, _, _, _, rfl⟩)
  exact ⟨hstall, hothers, honly⟩

/-- The end of a body (R132). -/
theorem endBody (d : Device) (r : CtxRecord) (hp : p < 6400) (hk : k < 8) : Counted p k d (d.endBody p k r) :=
  (setPc d _ hp hk).trans (updStall _ ⟨_, _, _, _, _, _, rfl⟩)

/-- Wherever the program goes on (R132, R154, R166). -/
theorem nextPc (d : Device) (r : CtxRecord) (br : Option Nat) (hp : p < 6400) (hk : k < 8) : Counted p k d (d.nextPc p k r br) := by
  have hloops : Counted p k d ((loopStep r (d.cnt p k) (loopsAt r (d.pc p k))).1.foldl (fun a e => a.setCnt p k e.1 e.2) d) :=
    List.foldlRecOn _ _ (refl p k d) (fun a ha e he => ha.trans (setCnt a e.2 hp hk (lt_of_mem_loopsAt (mem_of_mem_loopStep he))))
  unfold Device.nextPc
  cases br with
  | some t =>
    dsimp only
    split
    · exact (setPc d _ hp hk).trans (updStall _ ⟨_, _, _, _, _, _, rfl⟩)
    · exact setPc d _ hp hk
  | none =>
    dsimp only
    split
    · exact (setPc d _ hp hk).trans (updStall _ ⟨_, _, _, _, _, _, rfl⟩)
    · split
      · exact hloops.trans (setPc _ _ hp hk)
      · split
        · exact hloops.trans (endBody _ r hp hk)
        · exact hloops.trans (setPc _ _ hp hk)

end Counted

/-- What an instruction that goes and does not branch does: its effect, and what the issue keeps count of (R134, R135, R139). -/
theorem Device.issue_goes (d : Device) {p op k w : Nat} {r : CtxRecord} {needs : Device → Nat → CtxRecord → Nat → Needs}
    (eff : Device → Nat → CtxRecord → Nat → Device) (hdue : IssueDue d p op k r w) (hgoes : Goes d p k r (needs d k r w)) :
    d.issue p op needs eff noBranch = ((eff (d.afterClaim p r (needs d k r w)) k r w).countFiring p k).nextPc p k r none := by
  obtain ⟨-, rfl, hused, hmay, hpar, hword, hcode, hbound, hmasked⟩ := hdue
  obtain ⟨hjudge, hbanks⟩ := hgoes
  simp only [Device.issue, hused, hmay, hpar, hword, hcode, hbound, hmasked, hjudge, noBranch, branchOut, Device.afterClaim]
  cases hnow : (needs d (d.stall p).cur r w).now_ with
  | false => simp
  | true => simp [hbanks.resolve_left (by simp [hnow])]

/-- An instruction that takes no bank in its issue cycle finds the device as it is. -/
theorem Device.afterClaim_later (d : Device) (p : Nat) (r : CtxRecord) {n : Needs} (h : n.now_ = false) : d.afterClaim p r n = d := by
  rw [afterClaim, h]; rfl

/-- What an instruction leaves that goes, takes no bank in its issue cycle and does not branch: its effect, but for what the issue keeps count of. -/
theorem Counted.issue {d : Device} {p op k w : Nat} {r : CtxRecord} {needs : Device → Nat → CtxRecord → Nat → Needs}
    (eff : Device → Nat → CtxRecord → Nat → Device) (hp : p < 6400) (hdue : IssueDue d p op k r w) (hgoes : Goes d p k r (needs d k r w))
    (hlater : (needs d k r w).now_ = false) : Counted p k (eff d k r w) (d.issue p op needs eff noBranch) := by
  rw [d.issue_goes eff hdue hgoes, d.afterClaim_later p r hlater]
  exact (countFiring _ hp hdue.lt).trans (nextPc _ r none hp hdue.lt)

end Sys2Proof.Machine
end

section
/-! SUPPORT. What reads of a stall's store and a fault of a stall leave alone, and the statement of the plane and latch fills. -/

namespace Sys2Proof.Machine

/-! ### Registers of the map of the Square -/

namespace Device

variable {d e : Device}

theorem rb_congr {b u o : Nat} (h : e.reg b u o = d.reg b u o) (i : Nat) : e.rb b u o i = d.rb b u o i := by rw [rb, rb, regN, regN, h]

/-- A stall has the same logical position while the map words are the same (R119, R587). -/
theorem logOf_congr {p : Nat} (hp : p < 6400) (hres : e.reserve = d.reserve)
    (hmap : ∀ o, 0x400 ≤ o → o < 0x1000 → e.reg RSV 0 o = d.reg RSV 0 o) : e.logOf p = d.logOf p := by
  have hword : ∀ o, 0x400 ≤ o → o < 0x1000 → e.mapWord o = d.mapWord o := fun o h h' => by
    unfold mapWord mapOk mapComp; rw [hmap o h h', hres]
  have hrow : ∀ r, r < 64 → e.rowRetired r = d.rowRetired r := fun r h => by rw [rowRetired, rowRetired, hword _ (by omega) (by omega)]
  have hmarked : ∀ c, c < 100 → e.marked (p / 100) c = d.marked (p / 100) c := fun c h => by rw [marked, marked, hword _ (by omega) (by omega)]
  have hcols : (List.range (p % 100)).filter (fun x => !e.marked (p / 100) x) = (List.range (p % 100)).filter (fun x => !d.marked (p / 100) x) :=
    List.filter_congr fun x hx => by rw [hmarked x (by have := List.mem_range.mp hx; omega)]
  have hrows : (List.range (p / 100)).filter (fun x => !e.rowRetired x) = (List.range (p / 100)).filter (fun x => !d.rowRetired x) :=
    List.filter_congr fun x hx => by rw [hrow x (by have := List.mem_range.mp hx; omega)]
  simp only [logOf, hres, hrow _ (show p / 100 < 64 by omega), hmarked _ (show p % 100 < 100 by omega), hcols, hrows]

end Device

/-! ### Reads of a stall's store -/

theorem Recorded.stall_eq {d e : Device} (h : Recorded d e) (q : Nat) : e.stall q = d.stall q := by
  obtain ⟨⟨_, _, _, _, _, rfl⟩, -, -⟩ := h; rfl

/-- `e` is `d` after reads of the store of stall `p`: events are recorded, in the registers that reads can change, and none is a fault of the stall. -/
structure StoreReads (p : Nat) (d e : Device) : Prop where
  recorded : Recorded d e
  only : Only (readRegs p) d e
  held : e.faultHeld STL p = d.faultHeld STL p

namespace StoreReads

variable {p : Nat} {a d e : Device}

theorem refl (p : Nat) (d : Device) : StoreReads p d d := ⟨.refl d, .refl _ d, rfl⟩

theorem trans (h : StoreReads p a d) (g : StoreReads p d e) : StoreReads p a e :=
  ⟨h.recorded.trans g.recorded, h.only.trans g.only, g.held.trans h.held⟩

/-- The use of a remap entry whose twin words differ is a fault of the RSV page. -/
theorem remapCheck (d : Device) (l : List Remap) (wa : Nat) (hp : p < 6400) : StoreReads p d (d.remapCheck l wa) := by
  unfold Device.remapCheck
  split
  · have hfault := d.only_fault (b := RSV) (u := 0) 0x7001 (whereWord 0 0 0 0 0 (0 / 8)) (by omega)
    exact ⟨.fault .., hfault.mono (by simp +contextual [readRegs]),
      Device.rb_congr (hfault.reg_eq (by omega) (by omega) (by simp [eventRegs, STL, RSV, LDG])) 1⟩
  · exact refl p d

/-- A corrected word is counted (R109). -/
theorem corrected (d : Device) (hp : p < 6400) : StoreReads p d ((d.count16 STL p 0x034).raise STL p 5) := by
  refine ⟨(Recorded.bumpBy _ _ _ _ _ (by decide)).trans (.raise ..),
    ((Only.refl _ d).count16 (by omega) (by omega) (by simp [readRegs])).raise 5 (by omega) (by simp [readRegs]), ?_⟩
  calc ((d.count16 STL p 0x034).setB STL p 0x014 5 true).rb STL p 0x014 1 = (d.count16 STL p 0x034).rb STL p 0x014 1 :=
        Device.rb_setB_other _ _ (by decide) (by decide)
    _ = d.rb STL p 0x014 1 := Device.rb_congr (Device.reg_setReg_off _ _ (by decide)) 1

/-- An uncorrectable word is reported (R109). -/
theorem uncorrectable (d : Device) (loc : Word) (wa : Nat) (hp : p < 6400) : StoreReads p d ((d.raise STL p 6).log 0xA006 STL p loc wa) := by
  refine ⟨(Recorded.raise ..).trans (.log ..),
    ((Only.refl _ d).raise 6 (by omega) (by simp [readRegs])).logAt _ _ _ _ _ (by simp [readRegs]), ?_⟩
  calc ((d.raise STL p 6).log 0xA006 STL p loc wa).rb STL p 0x014 1 = (d.setB STL p 0x014 6 true).rb STL p 0x014 1 :=
        Device.rb_congr (Device.reg_logAt _ _ _ _ _ _ (by omega) (by omega) (by simp [STL, LDG])) 1
    _ = d.rb STL p 0x014 1 := Device.rb_setB_other _ _ (by decide) (by decide)

theorem ite {c : Prop} [Decidable c] {x y : Device} (hx : StoreReads p d x) (hy : StoreReads p d y) : StoreReads p d (if c then x else y) := by
  split <;> assumption

theorem storeRead (d : Device) (wa : Nat) (hp : p < 6400) : StoreReads p d (d.storeRead p wa).2 :=
  ((remapCheck d _ _ hp).trans (ite (corrected _ hp) (refl _ _))).trans (ite (uncorrectable _ _ _ hp) (refl _ _))

theorem readWords (d : Device) (l : List Nat) (hp : p < 6400) : StoreReads p d (d.readWords p l).2 :=
  List.foldlRecOn l _ (motive := fun a : List (DWord × Bool) × Device => StoreReads p d a.2) (refl p d) (fun a ha i _ => ha.trans (storeRead a.2 i hp))

/-- Faults name the stall as before. -/
theorem whereP_eq (h : StoreReads p d e) (hp : p < 6400) (lane slot ctx index : Nat) :
    e.whereP p lane slot ctx index = d.whereP p lane slot ctx index := by
  have hres : e.reserve = d.reserve := by obtain ⟨⟨_, _, _, _, _, rfl⟩, -, -⟩ := h.recorded; rfl
  rw [Device.whereP, Device.whereP, Device.logOf_congr hp hres fun o ho ho' => h.only.reg_eq (by omega) ho' ?_]
  simp [readRegs, eventRegs, STL, RSV, LDG]
  omega

end StoreReads

/-! ### Faults of a stall (R164) -/

namespace Device

variable (d : Device)

theorem sendUp_eq (type a : Nat) : ∃ x, d.sendUp type a = { d with aisles := x } := by
  unfold sendUp
  split
  · exact ⟨d.aisles, rfl⟩
  · exact d.sendNew_eq ..

/-- A report of a halt cause stays with the bell, or waits on the Aisles for the bell master (R249). -/
theorem reportHalt_eq (cause : Nat) : ∃ bell x, d.reportHalt cause = { d with bell := bell, aisles := x } := by
  obtain ⟨x, hx⟩ := Device.sendUp_eq { d with bell := { d.bell with halting := true } } 5 cause
  exact ⟨_, x, hx⟩

@[simp] theorem reg_reportHalt (cause b u o : Nat) : (d.reportHalt cause).reg b u o = d.reg b u o := by
  obtain ⟨bell, x, h⟩ := d.reportHalt_eq cause; rw [h]; rfl

@[simp] theorem stall_reportHalt (cause q : Nat) : (d.reportHalt cause).stall q = d.stall q := by
  obtain ⟨bell, x, h⟩ := d.reportHalt_eq cause; rw [h]; rfl

theorem sameMemory_reportHalt (a : Device) (cause : Nat) : SameMemory a (d.reportHalt cause) ↔ SameMemory a d := by
  obtain ⟨bell, x, h⟩ := d.reportHalt_eq cause; rw [h]; rfl

/-- The first fault of a page stands with its place in FAULT_WHERE. -/
theorem fault_where {b u : Nat} (code : Nat) (loc : Word) (hu : u < 8192) (hf : d.faultHeld b u = false) :
    (d.fault b u code loc).reg b u 0x024 = loc := by
  obtain ⟨kept, hk, h⟩ := d.reg_fault (b := b) (o := 0x024) code loc hu (by omega) (by simp)
  rw [h, hk hf, if_pos rfl, setB, setF, setN, reg_setReg_off _ _ (by decide), setFaultRegs, reg_setReg_off _ _ (by decide), reg_setReg_same]

variable {p k code lane index : Nat}

/-- A register after a fault of a stall is as after the fault is recorded. -/
theorem reg_stallFault (b u o : Nat) :
    (d.stallFault p k code lane index).reg b u o = (d.fault STL p code (d.whereP p lane 0 k index)).reg b u o := reg_reportHalt ..

/-- A faulting stall closes after the cycle, and keeps all else. -/
theorem stall_stallFault (q : Nat) : (d.stallFault p k code lane index).stall q = if q = p then { d.stall p with faulting := true } else d.stall q := by
  rw [stallFault, stall_reportHalt, stall_updStall, (Recorded.fault ..).stall_eq, (Recorded.fault ..).stall_eq]

theorem sameMemory_stallFault : SameMemory d (d.stallFault p k code lane index) :=
  (sameMemory_reportHalt ..).mpr ((Recorded.fault ..).sameMemory.trans ((Only.refl [] _).updStall p rfl).2)

/-- The fault registers of the stall hold its first fault (R348). -/
theorem stallFault_recorded (hp : p < 6400) (hcode : code < 2 ^ 32) :
    (d.stallFault p k code lane index).rb STL p 0x014 1 = true
      ∧ (d.faultHeld STL p = false → (d.stallFault p k code lane index).regN STL p 0x020 = code
          ∧ (d.stallFault p k code lane index).reg STL p 0x024 = d.whereP p lane 0 k index) := by
  simp only [rb, regN, reg_stallFault]
  exact ⟨d.faultHeld_fault _ _ (by omega), fun hf => ⟨d.fault_code _ (by omega) hcode hf, d.fault_where _ _ (by omega) hf⟩⟩

end Device
end Sys2Proof.Machine
end

section
/-! SUPPORT. The plane and latch fills: what the issue of a fill queues, what its last access leaves, and the statement of both. -/

namespace Sys2Proof.Machine

/-! ### The issue of a fill (R88, R99, R149) -/

/-- A fill that is queued by an instruction: beside what the issue keeps count of, only the queues of the fills differ. -/
theorem Counted.queued {d e : Device} {p k : Nat} {planeFills : List PlaneFill} {latchFills : List LatchFill}
    (h : Counted p k (d.setStall p { d.stall p with planeFills := planeFills, latchFills := latchFills }) e) :
    (e.stall p).planeFills = planeFills ∧ (e.stall p).latchFills = latchFills ∧ Only (issueRegs p k) d e
      ∧ SameQueues p d e ∧ SameFeeds p d e ∧ SameAccs p d e ∧ OtherStalls p d e := by
  obtain ⟨⟨_, _, _, _, _, _, hstall⟩, hothers, honly⟩ := h
  rw [Device.stall_setStall, if_pos rfl] at hstall
  simp only [SameQueues, SameFeeds, SameAccs, hstall, true_and, and_true]
  exact ⟨((Only.refl _ d).updStall p (f := fun s => { s with planeFills := planeFills, latchFills := latchFills }) rfl).trans honly,
    (d.otherStalls_updStall p (fun s => { s with planeFills := planeFills, latchFills := latchFills })).trans hothers⟩

theorem Stall.planeLocked_queued {s : Stall} {l : List PlaneFill} {f : PlaneFill} (h : s.planeFills = l ++ [f]) (now : Nat) :
    s.planeLocked now f.plane = true := by simp [planeLocked, h]

theorem Stall.latchFilling_queued {s : Stall} {l : List LatchFill} {f : LatchFill} (h : s.latchFills = l ++ [f]) (now : Nat) :
    s.latchFilling now = true := by simp [latchFilling, h]

/-! ### The last access of a fill -/

namespace Device

variable (d : Device) {p : Nat}

section
variable {f : PlaneFill} (hask : (d.stall p).planeAsks d.work = some f) (hhushed : d.bell.hushed = false) (hlast : f.todo.length ≤ 8)
  (hfree : allFree (d.afterPrio3 p) = true)
include hask hhushed hlast hfree

/-- The last access of a plane fill, in a cycle that it has all eight banks in (R89, R149). -/
theorem planeFillDone_last : d.planeFillDone p = (d.readWords p f.todo).2.updStall p (fun s =>
      { s with planes := KMap.set s.planes f.plane ((s.plane f.plane).filled f (f.got ++ (d.readWords p f.todo).1)) {},
               planeFills := s.planeFills.drop 1, planeAt := some (d.work, f.plane), banks := List.range 8 }) := by
  simp [planeFillDone, hask, hhushed, hfree, Nat.not_lt.mpr hlast]

theorem planeFillDone_effect (hp : p < 6400) :
    (d.planeFillDone p).stall p = { d.stall p with
        planes := KMap.set (d.stall p).planes f.plane (((d.stall p).plane f.plane).filled f (f.got ++ (d.readWords p f.todo).1)) {},
        planeFills := (d.stall p).planeFills.drop 1, planeAt := some (d.work, f.plane), banks := List.range 8 }
      ∧ Only (readRegs p) d (d.planeFillDone p) ∧ OtherStalls p d (d.planeFillDone p) := by
  have hreads := StoreReads.readWords d f.todo hp
  rw [d.planeFillDone_last hask hhushed hlast hfree]
  refine ⟨?_, hreads.only.updStall p rfl, fun q hq => ?_⟩
  · rw [stall_updStall_same, hreads.recorded.stall_eq]
  · rw [otherStalls_updStall _ p _ q hq, hreads.recorded.stall_eq]

/-- Of the planes only the one that was filled is another. -/
theorem plane_planeFillDone (hp : p < 6400) (i : Nat) : ((d.planeFillDone p).stall p).plane i =
      if i = f.plane then ((d.stall p).plane f.plane).filled f (f.got ++ (d.readWords p f.todo).1) else (d.stall p).plane i := by
  rw [(d.planeFillDone_effect hask hhushed hlast hfree hp).1]
  exact KMap.get_set ..

end

/-- The device after the last access of a latch fill, before a failing entry counts. -/
def latchFilled (p : Nat) (f : LatchFill) : Device :=
  (d.readWords p f.todo).2.updStall p (fun s =>
    { s with latch := ((d.stall p).filledLatch f (f.got ++ (d.readWords p f.todo).1)).1, latchFills := s.latchFills.drop 1,
             latchAt := some d.work, banks := List.range 8 })

theorem stall_latchFilled (f : LatchFill) (hp : p < 6400) : (d.latchFilled p f).stall p =
    { d.stall p with latch := ((d.stall p).filledLatch f (f.got ++ (d.readWords p f.todo).1)).1, latchFills := (d.stall p).latchFills.drop 1,
                     latchAt := some d.work, banks := List.range 8 } := by
  rw [latchFilled, stall_updStall_same, (StoreReads.readWords d f.todo hp).recorded.stall_eq]

theorem latchFilled_frame (f : LatchFill) (hp : p < 6400) : Only (readRegs p) d (d.latchFilled p f) ∧ OtherStalls p d (d.latchFilled p f)
    ∧ (d.latchFilled p f).faultHeld STL p = d.faultHeld STL p
    ∧ ∀ lane slot ctx index, (d.latchFilled p f).whereP p lane slot ctx index = d.whereP p lane slot ctx index := by
  have hreads := StoreReads.readWords d f.todo hp
  exact ⟨hreads.only.updStall p rfl, fun q hq => (otherStalls_updStall _ p _ q hq).trans (hreads.recorded.stall_eq q), hreads.held,
    hreads.whereP_eq hp⟩

section
variable {f : LatchFill} (hask : (d.stall p).latchAsks d.work = some f) (hhushed : d.bell.hushed = false) (hlast : f.todo.length ≤ 8)
  (hfree : allFree (d.afterPrio2 p) = true)
include hask hhushed hlast hfree

/-- The last access of a latch fill none of whose entries fails, in a cycle that it has all eight banks in (R99). -/
theorem latchFillDone_sound (hfails : ((d.stall p).filledLatch f (f.got ++ (d.readWords p f.todo).1)).2 = []) :
    d.latchFillDone p = d.latchFilled p f := by
  simp [latchFillDone, hask, hhushed, hfree, Nat.not_lt.mpr hlast, latchFilled, hfails]

/-- The first failing entry of a latch fill is a fault of the stall (R164, R351). -/
theorem latchFillDone_failing {bad : Nat × Nat} {rest : List (Nat × Nat)}
    (hfails : ((d.stall p).filledLatch f (f.got ++ (d.readWords p f.todo).1)).2 = bad :: rest) :
    d.latchFillDone p = (d.latchFilled p f).stallFault p f.ctx (if bad.2 = 1 then 0x4005 else 0x4008) 0 (bad.1 % 512) := by
  simp [latchFillDone, hask, hhushed, hfree, Nat.not_lt.mpr hlast, latchFilled, hfails]

/-- What the last access of a latch fill leaves, by the entries that fail. -/
theorem latchFillDone_effect {fails : List (Nat × Nat)} (hp : p < 6400)
    (hfails : fails = ((d.stall p).filledLatch f (f.got ++ (d.readWords p f.todo).1)).2) :
    ∃ faulting, (d.latchFillDone p).stall p = { d.stall p with
          latch := ((d.stall p).filledLatch f (f.got ++ (d.readWords p f.todo).1)).1, latchFills := (d.stall p).latchFills.drop 1,
          latchAt := some d.work, banks := List.range 8, faulting := faulting }
      ∧ (fails = [] → faulting = (d.stall p).faulting ∧ Only (readRegs p) d (d.latchFillDone p))
      ∧ (∀ bad rest, fails = bad :: rest → faulting = true ∧ (d.latchFillDone p).rb STL p 0x014 1 = true
        ∧ (d.faultHeld STL p = false → (d.latchFillDone p).regN STL p 0x020 = (if bad.2 = 1 then 0x4005 else 0x4008)
          ∧ (d.latchFillDone p).reg STL p 0x024 = d.whereP p 0 0 f.ctx (bad.1 % 512)))
      ∧ OtherStalls p d (d.latchFillDone p) ∧ SameMemory d (d.latchFillDone p) := by
  have hstall := d.stall_latchFilled f hp
  obtain ⟨honly, hothers, hheld, hwhere⟩ := d.latchFilled_frame f hp
  cases fails with
  | nil =>
    rw [d.latchFillDone_sound hask hhushed hlast hfree hfails.symm]
    exact ⟨_, hstall, fun _ => ⟨rfl, honly⟩, fun _ _ h => by simp at h, hothers, honly.2⟩
  | cons bad rest =>
    have hcode : (if bad.2 = 1 then 0x4005 else 0x4008) < 2 ^ 32 := by split <;> decide
    obtain ⟨hbit, hfirst⟩ := (d.latchFilled p f).stallFault_recorded (k := f.ctx) (lane := 0) (index := bad.1 % 512) hp hcode
    rw [hheld, hwhere] at hfirst
    rw [d.latchFillDone_failing hask hhushed hlast hfree hfails.symm]
    refine ⟨true, ?_, fun h => by simp at h, ?_, fun q hq => ?_, honly.2.trans (sameMemory_stallFault _)⟩
    · rw [stall_stallFault, if_pos rfl, hstall]
    · rintro _ _ ⟨⟩
      exact ⟨rfl, hbit, hfirst⟩
    · rw [stall_stallFault, if_neg hq, hothers q hq]

end

/-- The end of an output transform whose last cycle has come (R153). -/
theorem winogradDone_due {wg c : Nat} {done : Bool} (hreads : KMap.get (d.stall p).wgReads wg none = some (c, done)) (hc : c ≤ d.work)
    (hhushed : d.bell.hushed = false) :
    d.winogradDone p wg = d.updStall p (fun t => { t with wgReads := KMap.put t.wgReads wg (some (d.work, true)) }) := by
  simp [winogradDone, hreads, hhushed, Nat.not_lt.mpr hc, Nat.max_eq_right hc]

end Device

/-- A group whose sums have been read in a cycle is in use in it, and free from the next on. -/
theorem Stall.wgReading_done {s : Stall} {wg work : Nat} (h : KMap.get s.wgReads wg none = some (work, true)) :
    s.wgReading work wg = true ∧ s.wgReading (work + 1) wg = false := by simp [wgReading, h]

end Sys2Proof.Machine

namespace Sys2Proof.Proofs

open Sys2Proof Sys2Proof.Machine

theorem exec_pfill (p : Nat) (s : State) :
    exec (.pfill p) s = s.act (Instr.wf (.pfill p)) (fun d => d.issue p 0x0A (pfillNeeds p) (pfillEffect p) noBranch) := rfl
theorem exec_latch (p : Nat) (s : State) :
    exec (.latch p) s = s.act (Instr.wf (.latch p)) (fun d => d.issue p 0x0B (latchNeeds p) (latchEffect p) noBranch) := rfl
theorem exec_planeFillDone (p : Nat) (s : State) :
    exec (.planeFillDone p) s = s.act (Instr.wf (.planeFillDone p)) (fun d => d.planeFillDone p) := rfl
theorem exec_latchFillDone (p : Nat) (s : State) :
    exec (.latchFillDone p) s = s.act (Instr.wf (.latchFillDone p)) (fun d => d.latchFillDone p) := rfl
theorem exec_winogradTransformDone (p wg : Nat) (s : State) :
    exec (.winogradTransformDone p wg) s = s.act (Instr.wf (.winogradTransformDone p wg)) (fun d => d.winogradDone p wg) := rfl

/-- Settles O21: the issue of each kind of fill, the last access of each, and the end of an output transform. -/
theorem fills : Obligations.Fills := by
  refine fun s p hheld hp => ⟨fun k w r hgoes hdue => ?_, fun k w first set r hfirst hset hgoes hdue => ?_,
    fun f hask hhushed hlast hfree => ?_, fun f fails hask hhushed hlast hfree hfails => ?_, fun wg c done hwg hreads hc hhushed => ?_⟩
  · obtain ⟨hfills, -, honly, hqueues, hfeeds, haccs, hothers⟩ := (Counted.issue (pfillEffect p) hp hdue hgoes rfl).queued
    refine Answers.of_act (exec_pfill p s) (by simp [Instr.wf, hp]) hheld ?_
    simp only [Device.stall_settle, only_settle, sameQueues_settle, sameFeeds_settle, sameAccs_settle, otherStalls_settle]
    exact ⟨hfills, Stall.planeLocked_queued hfills, honly, hqueues, hfeeds, haccs, hothers⟩
  · subst hfirst hset
    obtain ⟨-, hfills, honly, hqueues, hfeeds, haccs, hothers⟩ := (Counted.issue (latchEffect p) hp hdue hgoes rfl).queued
    refine Answers.of_act (exec_latch p s) (by simp [Instr.wf, hp]) hheld ?_
    simp only [Device.stall_settle, only_settle, sameQueues_settle, sameFeeds_settle, sameAccs_settle, otherStalls_settle]
    exact ⟨hfills, Stall.latchFilling_queued hfills, honly, hqueues, hfeeds, haccs, hothers⟩
  · obtain ⟨hstall, honly, hothers⟩ := s.dev.planeFillDone_effect hask hhushed hlast hfree hp
    refine Answers.of_act (exec_planeFillDone p s) (by simp [Instr.wf, hp]) hheld ?_
    have hplane := s.dev.plane_planeFillDone hask hhushed hlast hfree hp
    simp only [SameQueues, SameAccs, Device.stall_settle, only_settle, otherStalls_settle]
    refine ⟨(hplane _).trans (if_pos rfl), fun i hi => (hplane i).trans (if_neg hi), ?_⟩
    simp only [hstall, true_and, and_self]
    exact ⟨honly, hothers⟩
  · obtain ⟨faulting, hstall, hclean, hfailing, hothers, hmem⟩ := s.dev.latchFillDone_effect hask hhushed hlast hfree hp hfails
    refine Answers.of_act (exec_latchFillDone p s) (by simp [Instr.wf, hp]) hheld ?_
    simp only [SameQueues, SameAccs, Device.stall_settle, only_settle, otherStalls_settle, sameMemory_settle, Device.rb_settle, Device.regN_settle,
      Device.reg_settle, hstall, true_and, and_self]
    exact ⟨hclean, hfailing, hothers, hmem⟩
  · have hdone := s.dev.winogradDone_due hreads hc hhushed
    refine Answers.of_act (exec_winogradTransformDone p wg s) (by simp [Instr.wf, hp, hwg]) hheld ?_
    rw [hdone]
    simp only [SameQueues, SameFeeds, SameAccs, Device.stall_settle, only_settle, otherStalls_settle, Device.stall_updStall_same, and_self, true_and]
    obtain ⟨hnow, hnext⟩ := Stall.wgReading_done (s := { s.dev.stall p with wgReads := KMap.put (s.dev.stall p).wgReads wg (some (s.dev.work, true)) })
      (KMap.get_put_same ..)
    exact ⟨hnow, hnext, (Only.refl [] _).updStall p rfl, s.dev.otherStalls_updStall p _⟩

end Sys2Proof.Proofs
end

section
/-! SUPPORT. Fields with a range: what a plain write leaves in an RW register, the limits of the tables, and the statement of both. -/

namespace Sys2Proof.Machine

/-- Where the one listed register holds what it held, none differs. -/
theorem Only.of_reg_eq {d e : Device} {b u o : Nat} (h : Only [(b, u, o)] d e) (hreg : e.reg b u o = d.reg b u o) : Only [] d e := by
  refine ⟨fun b' u' o' hu ho _ => ?_, h.2⟩
  by_cases hx : (b', u', o') = (b, u, o)
  · obtain ⟨rfl, rfl, rfl⟩ := hx; exact hreg
  · exact h.reg_eq hu ho (by simpa using hx)

/-- LEVEL of each basket of a stall (R213). -/
theorem regSpec_level {p b : Nat} (hp : p < 6400) (hb : b < 4) : regSpec BSK p (0x108 + 0x20 * b) = ⟨.rw, 0xFFF, 0⟩ := by
  have hpage : ¬6400 ≤ p := Nat.not_le.mpr hp
  obtain rfl | rfl | rfl | rfl : b = 0 ∨ b = 1 ∨ b = 2 ∨ b = 3 := by omega
  all_goals simp only [regSpec, blockSpec, bskSpec, hp, hpage]; rfl

namespace Device

variable (d : Device) {b u o p : Nat} {val : Word}

/-- A write to an RW register without a row of its own leaves there what its table's limits make of the listed bits (R8, R9). -/
theorem writeAt_rw (hacc : (regSpec b u o).acc = .rw) (hgat : ¬(b = GAT ∧ o = 0x214)) (hhst : b ≠ HST) :
    d.writeAt b u o val = d.setN b u o (d.limited b u o (val &&& BitVec.ofNat 32 (regSpec b u o).mask).toNat) := by
  simp [writeAt, writeReg, hacc, hgat, hhst]

theorem writeAt_rw_effect {w : Word} (hacc : (regSpec b u o).acc = .rw) (hgat : ¬(b = GAT ∧ o = 0x214)) (hhst : b ≠ HST) (hu : u < 8192)
    (ho : o < 4096) (hw : d.limited b u o (val &&& BitVec.ofNat 32 (regSpec b u o).mask).toNat = w.toNat) :
    (d.writeAt b u o val).reg b u o = w ∧ Only [(b, u, o)] d (d.writeAt b u o val) := by
  rw [d.writeAt_rw hacc hgat hhst, hw, setN, BitVec.ofNat_toNat, BitVec.setWidth_eq]
  exact ⟨reg_setReg_same .., (Only.refl _ d).setReg w hu ho (by simp)⟩

/-! ### The tables' limits -/

/-- A LEVEL above the capacity leaves the field (R192). -/
theorem limited_level (hb : b < 4) (v : Nat) :
    d.limited BSK p (0x108 + 0x20 * b) v = if d.capOf p b < v then d.regN BSK p (0x108 + 0x20 * b) else v := by
  have hoff : (0x108 + 0x20 * b) % 0x20 = 8 := by omega
  have hix : (0x108 + 0x20 * b - 0x100) / 0x20 = b := by omega
  unfold limited
  split
  case h_11 => simp [hoff, hix]
  all_goals contradiction

/-- A write to LEVEL of a basket of a stall leaves the value that its capacity allows (R192). -/
theorem writeLevel_effect {w : Word} (hp : p < 6400) (hb : b < 4)
    (hw : (if d.capOf p b < (val &&& 0xFFF#32).toNat then d.regN BSK p (0x108 + 0x20 * b) else (val &&& 0xFFF#32).toNat) = w.toNat) :
    (d.writeAt BSK p (0x108 + 0x20 * b) val).reg BSK p (0x108 + 0x20 * b) = w
      ∧ Only [(BSK, p, 0x108 + 0x20 * b)] d (d.writeAt BSK p (0x108 + 0x20 * b) val) := by
  have hspec := regSpec_level hp hb
  refine d.writeAt_rw_effect (by rw [hspec]) (by simp [BSK, GAT]) (by decide) (by omega) (by omega) ?_
  rw [hspec]
  exact (d.limited_level hb _).trans hw

/-- Without a LEVEL the depths are not watched (R192). -/
theorem levelWatch_off (h : d.rf BSK p (0x108 + 0x20 * b) 0 12 = 0) (was is : Nat) : d.levelWatch p b was is = d := by
  simp [levelWatch, h]

/-- HUSH_LIMIT, DL_LIMIT and REORDER_TMO with their lowest values (R255, R463). -/
theorem limited_lowest {r : Nat × Nat × Nat} (hr : r ∈ [(BEL, 0x138, 256), (BEL, 0x140, 1024), (GAT, 0x220, 1)]) (v : Nat) :
    d.limited r.1 0 r.2.1 v = if v < r.2.2 then d.regN r.1 0 r.2.1 else v := by
  simp only [List.mem_cons, List.not_mem_nil, or_false] at hr
  obtain rfl | rfl | rfl := hr
  · rfl
  · rfl
  · simp only [Nat.lt_one_iff]; rfl

/-- Where no table gives a limit every value is taken. -/
theorem limited_free (u v : Nat) (hb : b ∉ [BSK, WBR, LDG])
    (ho : (b, o) ∉ [(BEL, 0x138), (BEL, 0x140), (GAT, 0x220), (CRI, 0x100), (STW, 0x264)]) : d.limited b u o v = v := by
  unfold limited
  split <;> simp [BSK, WBR, LDG, BEL, GAT, CRI, STW] at hb ho ⊢

end Device
end Sys2Proof.Machine

namespace Sys2Proof.Proofs

open Sys2Proof Sys2Proof.Machine

theorem exec_registerWrite (page : Page) (off : Nat) (val : Word) (s : State) : exec (.registerWrite page off val) s
    = s.act (Instr.wf (.registerWrite page off val)) (fun d => d.writeAt page.block page.unit off val) := rfl

/-- The fields with a lowest value are plain RW registers of pages that the device has. -/
theorem lowestField_plain {r : Nat × Nat × Nat} (hr : r ∈ [(BEL, 0x138, 256), (BEL, 0x140, 1024), (GAT, 0x220, 1)]) (val : Word) :
    Instr.wf (.registerWrite ⟨r.1, 0⟩ r.2.1 val) = true ∧ (regSpec r.1 0 r.2.1).acc = .rw ∧ ¬(r.1 = GAT ∧ r.2.1 = 0x214) ∧ r.1 ≠ HST
      ∧ r.2.1 < 4096 := by
  simp only [List.mem_cons, List.not_mem_nil, or_false] at hr
  obtain rfl | rfl | rfl := hr <;> exact ⟨rfl, by decide, by decide, by decide, by decide⟩

/-- Settles O10: LEVEL above and up to the capacity and without a value, the three fields with a lowest value, and registers without limits. -/
theorem levelRange : Obligations.LevelRange := by
  refine ⟨fun s p b hp hb hheld => ?_, fun s r val v hheld hr hv => ?_, fun d b u o v hb ho => d.limited_free u v hb ho⟩
  · have hwf : ∀ val, Instr.wf (.registerWrite ⟨BSK, p⟩ (0x108 + 0x20 * b) val) = true := fun val => by
      simp only [Instr.wf, Page.exists, Page.count, BSK, Bool.and_eq_true, decide_eq_true_eq]; omega
    refine ⟨fun val hval => ?_, fun val hval => ?_, fun hzero was is => s.dev.levelWatch_off hzero was is⟩
    · refine Answers.of_act (exec_registerWrite ..) (hwf val) hheld ?_
      obtain ⟨hreg, honly⟩ := s.dev.writeLevel_effect (val := val) hp hb (if_pos hval)
      exact (only_settle ..).mpr (honly.of_reg_eq hreg)
    · refine Answers.of_act (exec_registerWrite ..) (hwf val) hheld ?_
      simp only [Device.reg_settle, only_settle]
      exact s.dev.writeLevel_effect hp hb (if_neg (Nat.not_lt.mpr hval))
  · obtain ⟨hwf, hacc, hgat, hhst, ho⟩ := lowestField_plain hr val
    refine Answers.of_act (exec_registerWrite ..) hwf hheld ?_
    simp only [Device.reg_settle, only_settle]
    refine s.dev.writeAt_rw_effect hacc hgat hhst (by decide) ho ?_
    rw [← hv, s.dev.limited_lowest hr]
    split <;> rfl

end Sys2Proof.Proofs
end

section
/-! SUPPORT. Baskets: what setting one leaves of its stall, what a hardware fault of one does (R211), and the statement of where a pushed word goes. -/

namespace Sys2Proof.Machine

/-! ### A basket of a stall is set -/

theorem Stall.basket_setBasket (s : Stall) {b : Nat} (k : Basket) (hb : b < s.baskets.length) (j : Nat) :
    (s.setBasket b k).basket j = if j = b then k else s.basket j := by
  by_cases hj : j = b
  · subst hj; simp [basket, setBasket, upd, hb]
  · simp [basket, setBasket, upd, List.getElem?_modify_ne, Ne.symm hj, hj]

/-- What a word that arrives at a basket leaves alone, in whichever way it arrives: the other baskets, the other stalls, every memory. -/
def PushKept (p b : Nat) (d e : Device) : Prop :=
  (∀ j, j ≠ b → (e.stall p).basket j = (d.stall p).basket j) ∧ OtherStalls p d e ∧ SameMemory d e

namespace Device

variable (d : Device) {p b : Nat}

theorem basket_setBasket (k : Basket) (hb : b < (d.stall p).baskets.length) (j : Nat) :
    ((d.setBasket p b k).stall p).basket j = if j = b then k else (d.stall p).basket j := by
  rw [setBasket, stall_updStall_same, Stall.basket_setBasket _ k hb]

theorem otherStalls_setBasket (k : Basket) : OtherStalls p d (d.setBasket p b k) := d.otherStalls_updStall p _

theorem only_setBasket (k : Basket) : Only [] d (d.setBasket p b k) := (Only.refl [] d).updStall p rfl

/-! ### The stalls that a fault makes suspect (R592) -/

/-- A write on a page of a later block type leaves a register alone, whatever its offset. -/
theorem reg_setReg_below {b u o b' u' o' : Nat} (v : Word) (hb : b' < b) (hu : u' < 8192) (ho : o' < 4096) :
    (d.setReg b u o v).reg b' u' o' = d.reg b' u' o' := by
  have hk : regKey b' u' o' ≠ regKey b u o := by unfold regKey; omega
  simp only [setReg, reg, KMap.set]
  split
  · rw [KMap.get_del, if_neg hk]
  · rw [KMap.get_put, if_neg hk]

/-- Suspect stalls stand in BIST_PENDING: registers of the RSV page. -/
theorem suspect_eq (p : Nat) : ∃ regs, d.suspect p = { d with regs := regs }
    ∧ ∀ b u o, b < RSV → u < 8192 → o < 4096 → (d.suspect p).reg b u o = d.reg b u o := by
  refine List.foldlRecOn _ _ (motive := fun a : Device => ∃ regs, a = { d with regs := regs }
    ∧ ∀ b u o, b < RSV → u < 8192 → o < 4096 → a.reg b u o = d.reg b u o) ⟨d.regs, rfl, fun _ _ _ _ _ _ => rfl⟩ ?_
  rintro _ ⟨regs, rfl, hregs⟩ q -
  exact ⟨_, rfl, fun b u o hb hu ho => (reg_setReg_below _ _ hb hu ho).trans (hregs b u o hb hu ho)⟩

theorem stall_suspect (p q : Nat) : (d.suspect p).stall q = d.stall q := by
  obtain ⟨regs, h, -⟩ := d.suspect_eq p; rw [h]; rfl

theorem sameMemory_suspect (a : Device) (p : Nat) : SameMemory a (d.suspect p) ↔ SameMemory a d := by
  obtain ⟨regs, h, -⟩ := d.suspect_eq p; rw [h]; rfl

theorem reg_suspect (p : Nat) {b u o : Nat} (hb : b < RSV) (hu : u < 8192) (ho : o < 4096) : (d.suspect p).reg b u o = d.reg b u o := by
  obtain ⟨-, -, h⟩ := d.suspect_eq p; exact h b u o hb hu ho

/-! ### A hardware fault of a basket (R164, R211, R249) -/

/-- A report of a halt cause reaches the bell. -/
theorem halting_reportHalt (cause : Nat) : (d.reportHalt cause).bell.halting = true := by
  obtain ⟨x, h⟩ := Device.sendUp_eq { d with bell := { d.bell with halting := true } } 5 cause
  rw [reportHalt, h]

variable {code index : Nat}

/-- A faulting stall closes after the cycle, and keeps all else. -/
theorem stall_basketFault (q : Nat) :
    (d.basketFault p code b index).stall q = if q = p then { d.stall p with faulting := true } else d.stall q := by
  rw [basketFault, stall_reportHalt, stall_suspect, stall_updStall, (Recorded.fault ..).stall_eq, (Recorded.fault ..).stall_eq]

theorem otherStalls_basketFault : OtherStalls p d (d.basketFault p code b index) := fun q hq => by rw [stall_basketFault, if_neg hq]

theorem sameMemory_basketFault : SameMemory d (d.basketFault p code b index) :=
  (sameMemory_reportHalt ..).mpr ((sameMemory_suspect ..).mpr ((Recorded.fault ..).sameMemory.trans ((Only.refl [] _).updStall p rfl).2))

/-- The registers of basket pages are as after the fault is recorded. -/
theorem reg_basketFault {u o : Nat} (hu : u < 8192) (ho : o < 4096) :
    (d.basketFault p code b index).reg BSK u o = (d.fault BSK p code (d.whereP p b 0 0 index)).reg BSK u o :=
  (reg_reportHalt ..).trans (reg_suspect _ p (by decide) hu ho)

/-- The fault registers of the page hold its first fault (R348). -/
theorem basketFault_recorded (hp : p < 6400) (hcode : code < 2 ^ 32) :
    (d.basketFault p code b index).faultHeld BSK p = true
      ∧ (d.faultHeld BSK p = false → (d.basketFault p code b index).regN BSK p 0x020 = code) := by
  simp only [faultHeld, rb, regN, d.reg_basketFault (show p < 8192 by omega) (show 0x014 < 4096 by decide),
    d.reg_basketFault (show p < 8192 by omega) (show 0x020 < 4096 by decide)]
  exact ⟨d.faultHeld_fault code _ (by omega), d.fault_code _ (by omega) hcode⟩

/-- A fault of a basket is reported as a cause of a halt. -/
theorem halting_basketFault : (d.basketFault p code b index).bell.halting = true := halting_reportHalt ..

/-! ### A word arrives (R182, R188) -/

theorem pushKept_setBasket (hb : b < (d.stall p).baskets.length) (k : Basket) : PushKept p b d (d.setBasket p b k) :=
  ⟨fun j hj => by rw [d.basket_setBasket k hb, if_neg hj], d.otherStalls_setBasket k, (d.only_setBasket k).2⟩

theorem pushKept_basketFault : PushKept p b d (d.basketFault p code b index) :=
  ⟨fun _ _ => by rw [stall_basketFault, if_pos rfl]; rfl, d.otherStalls_basketFault, d.sameMemory_basketFault⟩

theorem pushKept_basketPush (hb : b < (d.stall p).baskets.length) (w : BWord) : PushKept p b d (d.basketPush p b w) := by
  unfold basketPush
  extract_lets k
  split
  · exact d.pushKept_basketFault
  · split
    · exact d.pushKept_setBasket hb _
    · split
      · exact d.pushKept_basketFault
      · exact d.pushKept_setBasket hb _

variable {k : Basket} {w : BWord} (hk : (d.stall p).basket b = k)
include hk

theorem basketPush_full (hfull : 8 + k.ext ≤ k.depth) : d.basketPush p b w = d.basketFault p 0x6001 b 0 := by
  simp [basketPush, hk, hfull]

theorem basketPush_chain (hroom : k.depth < 8 + k.ext) (hdirect : k.spill = [] ∧ k.ringCount = 0 ∧ k.chain.length < 8) :
    d.basketPush p b w = d.setBasket p b { k with chain := k.chain ++ [⟨w, d.work, false⟩] } := by
  obtain ⟨hspill, hring, hchain⟩ := hdirect
  simp [basketPush, hk, Nat.not_le.mpr hroom, hspill, hring, hchain]

theorem basketPush_queued (hroom : k.depth < 8 + k.ext) (hdirect : ¬(k.spill = [] ∧ k.ringCount = 0 ∧ k.chain.length < 8)) :
    d.basketPush p b w = if 4 ≤ k.spill.length then d.basketFault p 0x6002 b 4
      else d.setBasket p b { k with spill := k.spill ++ [⟨w, d.work, false⟩] } := by
  have hno : (k.spill.isEmpty && decide (k.ringCount = 0) && decide (k.chain.length < 8)) = false := by
    simpa [and_assoc] using hdirect
  simp only [basketPush, hk, if_neg (Nat.not_le.mpr hroom), hno, Bool.false_eq_true, if_false]

/-- A push that finds no room is a fault: of a full basket, or else of a full spill queue (R188). -/
theorem basketPush_lost
    (hlost : 8 + k.ext ≤ k.depth ∨ (¬(k.spill = [] ∧ k.ringCount = 0 ∧ k.chain.length < 8) ∧ 4 ≤ k.spill.length)) :
    ∃ index, d.basketPush p b w = d.basketFault p (if 8 + k.ext ≤ k.depth then 0x6001 else 0x6002) b index := by
  by_cases hfull : 8 + k.ext ≤ k.depth
  · exact ⟨0, by rw [if_pos hfull, d.basketPush_full hk hfull]⟩
  · obtain ⟨hdirect, hspill⟩ := hlost.resolve_left hfull
    exact ⟨4, by rw [if_neg hfull, d.basketPush_queued hk (Nat.not_le.mp hfull) hdirect, if_pos hspill]⟩

end Device
end Sys2Proof.Machine

namespace Sys2Proof.Proofs

open Sys2Proof Sys2Proof.Machine

/-- Settles O25: the frame, then the word in the chain, in the spill queue, and lost. -/
theorem basketPushPlace : Obligations.BasketPushPlace := by
  rintro d _ p b w k hp hb hk rfl
  have hset : ∀ k' : Basket, ((d.setBasket p b k').stall p).basket b = k' ∧ Only [] d (d.setBasket p b k') := fun k' =>
    ⟨by rw [d.basket_setBasket k' hb, if_pos rfl], d.only_setBasket k'⟩
  obtain ⟨hbaskets, hothers, hmem⟩ := d.pushKept_basketPush hb w
  refine ⟨hbaskets, hothers, hmem, fun hroom hdirect => ?_, fun hroom hdirect hspill => ?_, fun hlost => ?_⟩
  · rw [d.basketPush_chain hk hroom hdirect]; exact hset _
  · rw [d.basketPush_queued hk hroom hdirect, if_neg (Nat.not_le.mpr hspill)]; exact hset _
  · obtain ⟨index, hfault⟩ := d.basketPush_lost (w := w) hk hlost
    obtain ⟨hheld, hcode⟩ := d.basketFault_recorded (b := b) (index := index) hp
      (code := if 8 + k.ext ≤ k.depth then 0x6001 else 0x6002) (by split <;> decide)
    rw [hfault]
    refine ⟨?_, ?_, d.halting_basketFault, hheld, hcode⟩ <;> rw [Device.stall_basketFault, if_pos rfl]
    exact hk

end Sys2Proof.Proofs
end

section
/-! SUPPORT. Owner writes of a stall store: the places that a word is kept in (R408), the flip mask that a write takes (R410), and all that a write
leaves alone. -/

namespace Sys2Proof.Machine

namespace Device

variable (d : Device) {p wa : Nat}

/-! ### Places of the stall stores -/

/-- What a place of the stall stores holds. -/
def placeCode (d : Device) (x : Bool × Nat) : CodeWord :=
  if x.1 then KMap.get d.storeSpare x.2 0 else KMap.get d.store x.2 0

/-- A place of the stall stores is given a codeword. -/
def putPlace (d : Device) (c : CodeWord) (x : Bool × Nat) : Device :=
  if x.1 then { d with storeSpare := KMap.set d.storeSpare x.2 c 0 } else { d with store := KMap.set d.store x.2 c 0 }

/-- A read uses the first place of its word. -/
theorem storeCode_eq_placeCode (q a : Nat) : ∃ x, (d.storePlaces q a).head? = some x ∧ d.storeCode q a = d.placeCode x := by
  cases hspare : activeSpare (d.stall q).remaps a with
  | none => exact ⟨(false, 8192 * q + a), by simp only [storePlaces, hspare, List.head?_cons], by simp [storeCode, placeCode, hspare]⟩
  | some s => exact ⟨(true, 8 * q + s), by simp only [storePlaces, hspare, List.head?_cons], by simp [storeCode, placeCode, hspare]⟩

theorem storePlaces_congr {d e : Device} {p : Nat} (wa : Nat) (h : (e.stall p).remaps = (d.stall p).remaps) :
    e.storePlaces p wa = d.storePlaces p wa := by simp only [storePlaces, h]

theorem placeCode_putPlace (c : CodeWord) (x y : Bool × Nat) : (d.putPlace c x).placeCode y = if y = x then c else d.placeCode y := by
  obtain ⟨spare, i⟩ := x
  obtain ⟨spare', j⟩ := y
  cases spare <;> cases spare' <;> simp [putPlace, placeCode, KMap.get_set]

/-- Places that are all given one codeword hold it, and the others what they held. -/
theorem placeCode_putPlaces (c : CodeWord) (l : List (Bool × Nat)) (y : Bool × Nat) :
    (l.foldl (fun a x => a.putPlace c x) d).placeCode y = if y ∈ l then c else d.placeCode y := by
  induction l generalizing d with
  | nil => simp
  | cons x l ih =>
    rw [List.foldl_cons, ih, placeCode_putPlace]
    by_cases hl : y ∈ l <;> by_cases hx : y = x <;> simp [hl, hx]

theorem putPlaces_eq (c : CodeWord) (l : List (Bool × Nat)) :
    ∃ (store spare : KMap CodeWord), l.foldl (fun a x => a.putPlace c x) d = { d with store := store, storeSpare := spare } := by
  refine List.foldlRecOn _ _ (motive := fun a => ∃ (store spare : KMap CodeWord), a = { d with store := store, storeSpare := spare })
    ⟨d.store, d.storeSpare, rfl⟩ ?_
  rintro _ ⟨store, spare, rfl⟩ x -
  unfold putPlace
  split <;> exact ⟨_, _, rfl⟩

/-! ### A codeword is stored -/

/-- The flip mask that the next write of stall `p` takes (R410). -/
def flipFor (d : Device) (p : Nat) : CodeWord := if d.rf LDG 0 0x130 0 13 = p then d.storeFlip else 0

/-- The device once a write of stall `p` has taken the flip mask (R410). -/
def flipTaken (d : Device) (p : Nat) : Device :=
  if d.rf LDG 0 0x130 0 13 = p then ((d.setN LDG 0 0x134 0).setN LDG 0 0x138 0).setN LDG 0 0x13C 0 else d

/-- A codeword is stored in every place of its word, under the flip mask (R408, R410). -/
theorem storePutCode_eq (c : CodeWord) : d.storePutCode p wa c =
    (d.storePlaces p wa).foldl (fun a x => a.putPlace (c ^^^ d.flipFor p) x) (d.flipTaken p) := by
  by_cases haim : d.rf LDG 0 0x130 0 13 = p <;> cases hact : activeSpare (d.stall p).remaps wa <;>
    cases hpend : pendingSpare (d.stall p).remaps wa <;>
    simp [storePutCode, storePlaces, flipFor, flipTaken, putPlace, haim, hact, hpend]

theorem flipTaken_eq (p : Nat) : ∃ regs, d.flipTaken p = { d with regs := regs } := by
  unfold flipTaken
  split <;> exact ⟨_, rfl⟩

theorem only_flipTaken (p : Nat) : Only writeRegs d (d.flipTaken p) := by
  unfold flipTaken
  split
  · exact (((Only.refl _ d).setN 0 (by decide) (by decide) (by simp [writeRegs])).setN 0 (by decide) (by decide) (by simp [writeRegs])).setN 0
      (by decide) (by decide) (by simp [writeRegs])
  · exact .refl _ d

theorem storePutCode_frame (c : CodeWord) :
    ∃ regs store spare, d.storePutCode p wa c = { d with regs := regs, store := store, storeSpare := spare } := by
  obtain ⟨store, spare, h⟩ := (d.flipTaken p).putPlaces_eq (c ^^^ d.flipFor p) (d.storePlaces p wa)
  obtain ⟨regs, hregs⟩ := d.flipTaken_eq p
  exact ⟨regs, store, spare, by rw [storePutCode_eq, h, hregs]⟩

theorem stall_storePutCode (c : CodeWord) (q : Nat) : (d.storePutCode p wa c).stall q = d.stall q := by
  obtain ⟨_, _, _, h⟩ := d.storePutCode_frame (p := p) (wa := wa) c
  rw [h]; rfl

theorem storePlaces_storePutCode (c : CodeWord) (q a : Nat) : (d.storePutCode p wa c).storePlaces q a = d.storePlaces q a :=
  storePlaces_congr a (by rw [stall_storePutCode])

theorem placeCode_storePutCode (c : CodeWord) (y : Bool × Nat) :
    (d.storePutCode p wa c).placeCode y = if y ∈ d.storePlaces p wa then c ^^^ d.flipFor p else d.placeCode y := by
  obtain ⟨regs, hregs⟩ := d.flipTaken_eq p
  rw [storePutCode_eq, placeCode_putPlaces, hregs]; rfl

/-- The word that a codeword is stored in reads as it, but for the flip mask. -/
theorem storeCode_storePutCode_flipped (c : CodeWord) : (d.storePutCode p wa c).storeCode p wa = c ^^^ d.flipFor p := by
  obtain ⟨x, hx, hcode⟩ := (d.storePutCode p wa c).storeCode_eq_placeCode p wa
  rw [storePlaces_storePutCode] at hx
  rw [hcode, placeCode_storePutCode, if_pos (List.mem_of_mem_head? hx)]

theorem sameStoreBut_storePutCode (c : CodeWord) : SameStoreBut p wa d (d.storePutCode p wa c) := by
  refine ⟨fun q a hother => ?_, ?_⟩
  · obtain ⟨x, hx, hcode⟩ := d.storeCode_eq_placeCode q a
    obtain ⟨y, hy, hcode'⟩ := (d.storePutCode p wa c).storeCode_eq_placeCode q a
    rw [storePlaces_storePutCode, hx] at hy
    obtain rfl := Option.some.inj hy
    rw [hcode', hcode, placeCode_storePutCode, if_neg (hother x hx)]
  · obtain ⟨_, _, _, h⟩ := d.storePutCode_frame (p := p) (wa := wa) c
    rw [h]
    exact ⟨fun _ => rfl, fun _ _ _ => rfl, fun _ => rfl, fun _ => rfl⟩

theorem sameRegsBut_storePutCode (c : CodeWord) : SameRegsBut writeRegs d (d.storePutCode p wa c) := by
  obtain ⟨store, spare, h⟩ := (d.flipTaken p).putPlaces_eq (c ^^^ d.flipFor p) (d.storePlaces p wa)
  rw [storePutCode_eq, h]
  exact (d.only_flipTaken p).1

/-- The flip mask follows the register that aims it and the three that hold it. -/
theorem flipFor_congr {d e : Device} (p : Nat) (h : ∀ o ∈ [0x130, 0x134, 0x138, 0x13C], e.reg LDG 0 o = d.reg LDG 0 o) :
    e.flipFor p = d.flipFor p := by
  simp only [List.mem_cons, List.not_mem_nil, or_false, forall_eq_or_imp, forall_eq] at h
  obtain ⟨haim, hlow, hhigh, hcheck⟩ := h
  rw [flipFor, flipFor, storeFlip, storeFlip, rf, rf, regN, regN, haim, hlow, hhigh, hcheck]

theorem storedCode_eq (p : Nat) (v : DWord) (spoil : Bool) : d.storedCode p v spoil = encodeWord v spoil ^^^ d.flipFor p := rfl

end Device

/-! ### Only one word of the stores differs -/

theorem SameStoreBut.after {p wa : Nat} {a d e : Device} (g : SameStoreBut p wa d e) (h : SameMemory a d)
    (hremaps : ∀ q, (d.stall q).remaps = (a.stall q).remaps) : SameStoreBut p wa a e := by
  obtain ⟨hstore, hprog, hdepot, hsth, hclerk⟩ := h
  obtain ⟨gstore, gprog, gdepot, gsth, gclerk⟩ := g
  refine ⟨fun q w hother => ?_, fun i => (gprog i).trans (hprog i), fun pb w lane => (gdepot pb w lane).trans (hdepot pb w lane),
    fun i => (gsth i).trans (hsth i), fun i => (gclerk i).trans (hclerk i)⟩
  rw [← hstore q w, gstore q w]
  rwa [Device.storePlaces_congr w (hremaps q), Device.storePlaces_congr wa (hremaps p)]

theorem SameStoreBut.before {p wa : Nat} {d e f : Device} (g : SameStoreBut p wa d e) (h : SameMemory e f) : SameStoreBut p wa d f := by
  obtain ⟨hstore, hprog, hdepot, hsth, hclerk⟩ := h
  obtain ⟨gstore, gprog, gdepot, gsth, gclerk⟩ := g
  exact ⟨fun q w hother => (hstore q w).trans (gstore q w hother), fun i => (hprog i).trans (gprog i),
    fun pb w lane => (hdepot pb w lane).trans (gdepot pb w lane), fun i => (hsth i).trans (gsth i), fun i => (hclerk i).trans (gclerk i)⟩

@[simp] theorem Device.storeCode_settle (d : Device) (p wa : Nat) : d.settle.storeCode p wa = d.storeCode p wa := by
  obtain ⟨_, _, _, _, h⟩ := d.settle_frame; rw [h]; rfl

@[simp] theorem sameStoreBut_settle (p wa : Nat) (d e : Device) : SameStoreBut p wa d e.settle ↔ SameStoreBut p wa d e := by
  obtain ⟨_, _, _, _, h⟩ := e.settle_frame; rw [h]; rfl

@[simp] theorem sameRegsBut_settle (l : List (Nat × Nat × Nat)) (d e : Device) : SameRegsBut l d e.settle ↔ SameRegsBut l d e := by
  simp only [SameRegsBut, Device.reg_settle]

/-! ### An owner write -/

/-- `e` is `d` after an owner write that leaves the codeword `c` in a word of the store of stall `p`: of the stall only the trackers differ (R407). -/
structure StoreWritten (p wa : Nat) (c : CodeWord) (d e : Device) : Prop where
  code : e.storeCode p wa = c
  store : SameStoreBut p wa d e
  regs : SameRegsBut writeRegs d e
  stall : ∃ tracks, e.stall p = { d.stall p with tracks := tracks }
  others : OtherStalls p d e

/-- The check of the remap entries records at most a fault of the RSV page (R411). -/
theorem Device.only_remapCheck (d : Device) (l : List Remap) (wa : Nat) : Only ((LDG, 0, 0x030) :: eventRegs RSV 0) d (d.remapCheck l wa) := by
  unfold Device.remapCheck
  split
  · exact d.only_fault _ _ (by decide)
  · exact .refl _ d

/-- Trackers that are dropped change no word and no register. -/
theorem StoreWritten.setTracks {p wa : Nat} {c : CodeWord} {d e : Device} (h : StoreWritten p wa c d e) (f : Stall → List Track) :
    StoreWritten p wa c d (e.updStall p (fun s => { s with tracks := f s })) := by
  have honly : Only [] e (e.updStall p (fun s => { s with tracks := f s })) := (Only.refl [] e).updStall p rfl
  obtain ⟨tracks, hstall⟩ := h.stall
  exact ⟨(honly.2.1 p wa).trans h.code, h.store.before honly.2, h.regs, ⟨_, by rw [Device.stall_updStall_same, hstall]⟩,
    h.others.trans (e.otherStalls_updStall p _)⟩

theorem StoreWritten.storeWrite (d : Device) (p wa : Nat) (v : DWord) (spoil : Bool) :
    StoreWritten p wa (d.storedCode p v spoil) d (d.storeWrite p wa v spoil) := by
  have hcheck := Recorded.remapCheck d (d.stall p).remaps wa
  have honly := d.only_remapCheck (d.stall p).remaps wa
  unfold Device.storeWrite
  extract_lets d1
  have hstall : ∀ q, d1.stall q = d.stall q := fun q => (Device.stall_storePutCode ..).trans (hcheck.stall_eq q)
  have hwritten : StoreWritten p wa (d.storedCode p v spoil) d d1 := by
    refine ⟨?_, ?_, fun b u o hu ho hn => ?_, ⟨_, hstall p⟩, fun q _ => hstall q⟩
    · rw [Device.storeCode_storePutCode_flipped, d.storedCode_eq, Device.flipFor_congr p]
      intro o ho
      refine honly.reg_eq (by decide) ?_ ?_ <;> revert ho o <;> decide
    · exact (Device.sameStoreBut_storePutCode ..).after hcheck.sameMemory (fun q => by rw [hcheck.stall_eq])
    · have hcheckRegs : (b, u, o) ∉ (LDG, 0, 0x030) :: eventRegs RSV 0 := fun hm => hn (by revert hm; simp +contextual [writeRegs])
      exact (Device.sameRegsBut_storePutCode _ _ b u o hu ho hn).trans (honly.reg_eq hu ho hcheckRegs)
  split
  · exact hwritten
  · exact hwritten.setTracks _

end Sys2Proof.Machine
end

section
/-! SUPPORT. The extension ring: what each kind of access asks for and, where its bank is free, does (R183 to R187), and the statement of the four. -/

namespace Sys2Proof.Machine

/-! ### What a basket asks for (R183, R184, R186) -/

namespace Basket

variable {k : Basket} {now : Nat}

theorem asks_tagWrite {g : Nat} (hdue : k.tagDue = some g) (hwrote : k.wrote = false) : k.asks now .tagWrite = some (k.tagWord g) := by
  simp [asks, hdue, hwrote]

theorem asks_dataWrite {h : Held} {rest : List Held} (hspill : k.spill = h :: rest) (hat : h.at_ < now) (hwrote : k.wrote = false)
    (hdue : k.tagDue = none) (hroom : k.ringCount < k.ext) (hring : k.ringCount ≠ 0 ∨ 8 ≤ k.chain.length) :
    k.asks now .dataWrite = some (k.entryWord k.tail) := by
  have hring' : k.ringCount = 0 → 8 ≤ k.chain.length := fun h0 => hring.resolve_left (fun hne => hne h0)
  simpa [asks, hspill, hwrote, hdue, hat, hroom] using hring'

theorem asks_tagRead (hring : 0 < k.ringCount) (hrefilled : k.refilled = false) (hchain : k.chain.length < 8) (hfirst : k.ringHead % 8 = 0)
    (htags : k.headTags = none) : k.asks now .tagRead = some (k.tagWord (k.ringHead / 8)) := by
  simp [asks, Nat.ne_of_gt hring, hrefilled, hchain, hfirst, htags]

theorem asks_dataRead {tags : List Byte} (htags : k.headTags = some tags) (hrefilled : k.refilled = false) (hring : 0 < k.ringCount)
    (hchain : k.chain.length < 8) : k.asks now .dataRead = some (k.entryWord k.ringHead) := by
  simp [asks, htags, hrefilled, Nat.ne_of_gt hring, hchain]

/-! The basket after each access. -/

/-- The head of the spill queue has gone to the ring's tail entry, as the word `w`. -/
def toRing (k : Basket) (rest : List Held) (w : BWord) : Basket :=
  { k with spill := rest, ringCount := k.ringCount + 1, tagAcc := k.tagAcc ++ [tagByte w],
           tagDue := if (k.tagAcc ++ [tagByte w]).length = 8 then some (k.tail / 8) else none,
           ringEnds := k.ringEnds ++ [w.fin && !w.ctl], wrote := true }

/-- The tags of the group `g` have gone to its tag word. -/
def tagsWritten (k : Basket) (g : Nat) : Basket :=
  { k with tagAcc := [], tagDue := none,
           tagNow := if k.ringHead / 8 = g ∧ k.ringHead % 8 ≠ 0 ∧ k.tagNow = [] then k.tagAcc else k.tagNow }

/-- The ring's head entry has entered the chain, as the word `w`. -/
def fromRing (k : Basket) (w : BWord) (now : Nat) : Basket :=
  { k with chain := k.chain ++ [⟨w, now, true⟩], ringHead := (k.ringHead + 1) % k.ext, ringCount := k.ringCount - 1,
           ringEnds := k.ringEnds.drop 1, tagNow := if (k.ringHead + 1) % k.ext % 8 = 0 then [] else k.tagNow, refilled := true }

/-- The tags of the head's group are at hand. -/
def tagsRead (k : Basket) (tags : List Byte) : Basket := { k with tagNow := tags, refilled := true }

/-- The head's group is given up. -/
def groupLost (k : Basket) : Basket :=
  { k with ringHead := (k.ringHead + 8) % k.ext, ringCount := k.ringCount - 8, ringEnds := k.ringEnds.drop 8, refilled := true }

/-- The tags of a group are due once its eighth word is in the ring (R183). -/
theorem tagDue_toRing (rest : List Held) (w : BWord) :
    (k.toRing rest w).tagDue = if k.tagAcc.length = 7 then some (k.tail / 8) else none := by simp [toRing]

end Basket

/-! ### Before the words move -/

/-- What an extension access leaves alone before it moves words: of the registers only the listed ones differ, every word of a memory and every other
stall is as it was, and so are the baskets and the remap entries of stall `p`. -/
structure Readied (l : List (Nat × Nat × Nat)) (p : Nat) (d e : Device) : Prop where
  only : Only l d e
  others : OtherStalls p d e
  baskets : (e.stall p).baskets = (d.stall p).baskets
  remaps : (e.stall p).remaps = (d.stall p).remaps

namespace Readied

variable {l : List (Nat × Nat × Nat)} {p : Nat} {a d e : Device}

theorem trans (h : Readied l p a d) (g : Readied l p d e) : Readied l p a e :=
  ⟨h.only.trans g.only, h.others.trans g.others, g.baskets.trans h.baskets, g.remaps.trans h.remaps⟩

theorem of_recorded (h : Recorded d e) (honly : Only l d e) : Readied l p d e :=
  ⟨honly, fun q _ => h.stall_eq q, by rw [h.stall_eq], by rw [h.stall_eq]⟩

theorem remaps_eq (h : Readied l p d e) (q : Nat) : (e.stall q).remaps = (d.stall q).remaps := by
  by_cases hq : q = p
  · rw [hq, h.remaps]
  · rw [h.others q hq]

/-- A basket is set after the preparation: the basket holds what it is set to, and the rest is as after the preparation. -/
theorem setBasket (h : Readied l p d e) {b : Nat} (hb : b < (d.stall p).baskets.length) {k : Basket} {f : Device}
    (hf : f = e.setBasket p b k) : (f.stall p).basket b = k ∧ Only l d f ∧ OtherStalls p d f := by
  subst hf
  exact ⟨by rw [e.basket_setBasket k (by rwa [h.baskets]), if_pos rfl], h.only.updStall p rfl, h.others.trans (e.otherStalls_setBasket k)⟩

/-- A word of the store is written after the preparation, and a basket is set. -/
theorem storeWrite (h : Readied l p d e) (hl : ∀ o ∈ [0x130, 0x134, 0x138, 0x13C], (LDG, 0, o) ∉ l) {b : Nat}
    (hb : b < (d.stall p).baskets.length) {wa : Nat} {v : DWord} {spoil : Bool} {k : Basket} {f : Device}
    (hf : f = (e.storeWrite p wa v spoil).setBasket p b k) :
    (f.stall p).basket b = k ∧ f.storeCode p wa = d.storedCode p v spoil ∧ SameStoreBut p wa d f ∧ SameRegsBut (writeRegs ++ l) d f
      ∧ OtherStalls p d f := by
  subst hf
  have hwritten := StoreWritten.storeWrite e p wa v spoil
  obtain ⟨tracks, hstall⟩ := hwritten.stall
  generalize e.storeWrite p wa v spoil = x at hwritten hstall ⊢
  have hset := x.only_setBasket (p := p) (b := b) k
  have hflip : e.storedCode p v spoil = d.storedCode p v spoil := by
    rw [e.storedCode_eq, d.storedCode_eq, Device.flipFor_congr p]
    refine fun o ho => h.only.reg_eq (by decide) ?_ (hl o ho)
    revert o; decide
  refine ⟨?_, ?_, ?_, fun b' u o hu ho hn => ?_, ?_⟩
  · rw [x.basket_setBasket k (by rw [hstall]; rwa [h.baskets]), if_pos rfl]
  · rw [hset.2.1 p wa, hwritten.code, hflip]
  · exact (hwritten.store.after h.only.2 h.remaps_eq).before hset.2
  · rw [List.mem_append, not_or] at hn
    exact (hwritten.regs b' u o hu ho hn.1).trans (h.only.reg_eq hu ho hn.2)
  · exact (h.others.trans hwritten.others).trans (x.otherStalls_setBasket k)

end Readied

namespace Device

variable (d : Device) {p b a : Nat}

/-- An access has taken the bank of its word. -/
def bankTaken (d : Device) (p a : Nat) : Device := d.updStall p (fun s => { s with banks := [a % 8] ++ s.banks })

theorem readied_bankTaken (l : List (Nat × Nat × Nat)) (p a : Nat) : Readied l p d (d.bankTaken p a) :=
  ⟨(Only.refl l d).updStall p rfl, d.otherStalls_updStall p _, by rw [bankTaken, stall_updStall_same], by rw [bankTaken, stall_updStall_same]⟩

/-- An access whose bank no access ahead of it has taken gets it (R106, R185). -/
theorem claimExt_free {x : ExtKind} (hfree : a % 8 ∉ (d.stall p).afterExt d.work (extOrder.takeWhile (fun e => !decide (e = (x, b))))) :
    d.claimExt p b x a = (true, d.bankTaken p a) := by
  simp only [claimExt, claimUnder, List.any_cons, List.any_nil, Bool.or_false, decide_eq_true_eq, if_neg hfree]; rfl

/-! ### The parity check of a word that goes to the ring (R187, R190) -/

/-- The data goes on as it is, and is spoiled where its parity fails. -/
theorem checkPar_word (w : BWord) : (d.checkPar p b w).1.data = w.data ∧ (d.checkPar p b w).1.spoil = (w.spoil || !w.parOk) := by
  unfold checkPar
  cases w.parOk <;> simp [BWord.sealed]

/-- A failure counts on the basket page. -/
theorem readied_checkPar (w : BWord) (hp : p < 6400) (hb : b < 4) : Readied (parityRegs p b) p d (d.checkPar p b w).2 := by
  unfold checkPar
  split
  · exact .of_recorded (.refl d) (.refl _ d)
  · refine .of_recorded ((Recorded.bumpBy _ _ _ _ _ (by omega)).trans (.raise ..)) ?_
    exact ((Only.refl _ d).count16 (by omega) (by omega) (by simp [parityRegs])).raise _ (by omega) (by simp [parityRegs])

/-- A read behind a bank that was taken: what it reads, and what it leaves. -/
theorem bankTaken_storeRead (hp : p < 6400) : ((d.bankTaken p a).storeRead p a).1 = decodeWord (d.storeCode p a)
    ∧ Readied (readRegs p) p d ((d.bankTaken p a).storeRead p a).2 := by
  have hready := d.readied_bankTaken (readRegs p) p a
  have hread := StoreReads.storeRead (d.bankTaken p a) a hp
  exact ⟨congrArg decodeWord (hready.only.2.1 p a), hready.trans (.of_recorded hread.recorded hread.only)⟩

/-! ### The four accesses -/

section
variable {k : Basket} (hk : (d.stall p).basket b = k) (hhushed : d.bell.hushed = false) (hb : b < (d.stall p).baskets.length)
include hk hhushed hb

/-- TAG_WRITE where the bank is free: the tags of the full group go to its tag word (R183). -/
theorem tagWrite_effect {g : Nat} (hask : k.asks d.work .tagWrite = some a) (hdue : k.tagDue = some g)
    (hclaim : d.claimExt p b .tagWrite a = (true, d.bankTaken p a)) {e : Device} (he : e = d.tagWrite p b) :
    (e.stall p).basket b = k.tagsWritten g ∧ e.storeCode p a = d.storedCode p (wordOf k.tagAcc) false
      ∧ SameStoreBut p a d e ∧ SameRegsBut writeRegs d e ∧ OtherStalls p d e := by
  have hdone : d.tagWrite p b = ((d.bankTaken p a).storeWrite p a (wordOf k.tagAcc) false).setBasket p b (k.tagsWritten g) := by
    simp [tagWrite, hk, hask, hdue, hhushed, hclaim, Basket.tagsWritten]
  simpa using (d.readied_bankTaken [] p a).storeWrite (by simp) hb (he.trans hdone)

variable (hp : p < 6400)
include hp

/-- SPILL_WRITE where the bank is free: the head of the spill queue goes to the ring behind its parity check (R183, R187). -/
theorem spillWrite_effect {h : Held} {rest : List Held} (hb4 : b < 4) (hask : k.asks d.work .dataWrite = some a) (hspill : k.spill = h :: rest)
    (hclaim : d.claimExt p b .dataWrite a = (true, d.bankTaken p a)) {e : Device} (he : e = d.spillWrite p b) :
    (∃ w, (e.stall p).basket b = k.toRing rest w) ∧ e.storeCode p a = d.storedCode p h.w.data (h.w.spoil || !h.w.parOk)
      ∧ SameStoreBut p a d e ∧ SameRegsBut (writeRegs ++ parityRegs p b) d e ∧ OtherStalls p d e := by
  have hready := (d.readied_bankTaken (parityRegs p b) p a).trans (readied_checkPar _ h.w hp hb4)
  obtain ⟨hdata, hspoil⟩ := (d.bankTaken p a).checkPar_word (p := p) (b := b) h.w
  have hdone : d.spillWrite p b = (((d.bankTaken p a).checkPar p b h.w).2.storeWrite p a h.w.data (h.w.spoil || !h.w.parOk)).setBasket p b
      (k.toRing rest ((d.bankTaken p a).checkPar p b h.w).1) := by
    rw [← hdata, ← hspoil]
    simp [spillWrite, hk, hask, hspill, hhushed, hclaim, Basket.toRing]
  obtain ⟨hbasket, hrest⟩ := hready.storeWrite (by simp [parityRegs, LDG, BSK]) hb (he.trans hdone)
  exact ⟨⟨_, hbasket⟩, hrest⟩

/-- RING_READ where the bank is free: the head entry enters the chain with its tag (R184). -/
theorem ringReadWord_effect {tags : List Byte} {x : ReadOut} (hask : k.asks d.work .dataRead = some a) (htags : k.headTags = some tags)
    (hclaim : d.claimExt p b .dataRead a = (true, d.bankTaken p a)) (hx : x = decodeWord (d.storeCode p a)) {e : Device}
    (he : e = d.ringReadWord p b) :
    (e.stall p).basket b = k.fromRing (ofTag x.data x.spoil (tags.getD (k.ringHead % 8) 0)) d.work
      ∧ Only (readRegs p) d e ∧ OtherStalls p d e := by
  obtain ⟨hout, hready⟩ := d.bankTaken_storeRead (a := a) hp
  have hdone : d.ringReadWord p b = ((d.bankTaken p a).storeRead p a).2.setBasket p b
      (k.fromRing (ofTag x.data x.spoil (tags.getD (k.ringHead % 8) 0)) d.work) := by
    rw [hx, ← hout]
    simp [ringReadWord, hk, hask, htags, hhushed, hclaim, Basket.fromRing]
  exact hready.setBasket hb (he.trans hdone)

/-- TAG_READ where the bank is free and the tag word is sound: the tags of the head's group are at hand (R184). -/
theorem tagReadWord_sound {x : ReadOut} (hask : k.asks d.work .tagRead = some a)
    (hclaim : d.claimExt p b .tagRead a = (true, d.bankTaken p a)) (hx : x = decodeWord (d.storeCode p a)) (hspoil : x.spoil = false)
    {e : Device} (he : e = d.tagReadWord p b) :
    (e.stall p).basket b = k.tagsRead (bytesOf x.data) ∧ Only (readRegs p) d e ∧ OtherStalls p d e := by
  obtain ⟨hout, hready⟩ := d.bankTaken_storeRead (a := a) hp
  rw [← hx] at hout
  have hdone : d.tagReadWord p b = ((d.bankTaken p a).storeRead p a).2.setBasket p b (k.tagsRead (bytesOf x.data)) := by
    simp [tagReadWord, hk, hask, hhushed, hclaim, hout, hspoil, Basket.tagsRead]
  exact hready.setBasket hb (he.trans hdone)

/-- TAG_READ where the bank is free and the tags are lost: the group is given up, with a fault of the basket (R187). -/
theorem tagReadWord_lost {x : ReadOut} (hask : k.asks d.work .tagRead = some a)
    (hclaim : d.claimExt p b .tagRead a = (true, d.bankTaken p a)) (hx : x = decodeWord (d.storeCode p a)) (hspoil : x.spoil = true)
    {e : Device} (he : e = d.tagReadWord p b) :
    (e.stall p).basket b = k.groupLost ∧ SameMemory d e ∧ OtherStalls p d e ∧ (e.stall p).faulting = true ∧ e.faultHeld BSK p = true
      ∧ (d.faultHeld BSK p = false → e.regN BSK p 0x020 = 0x6003) := by
  obtain ⟨hout, hready⟩ := d.bankTaken_storeRead (a := a) hp
  rw [← hx] at hout
  obtain ⟨f, hf⟩ : ∃ f, f = ((d.bankTaken p a).storeRead p a).2.setBasket p b k.groupLost := ⟨_, rfl⟩
  have hdone : d.tagReadWord p b = f.basketFault p 0x6003 b (k.ringHead / 8 % 512) := by
    simp [tagReadWord, hk, hask, hhushed, hclaim, hout, hspoil, hf, Basket.groupLost]
  obtain ⟨hbasket, honly, hothers⟩ := hready.setBasket hb hf
  have hheld : f.faultHeld BSK p = d.faultHeld BSK p :=
    rb_congr (honly.reg_eq (by omega) (by decide) (by simp [readRegs, eventRegs, BSK, STL, LDG, RSV])) _
  obtain ⟨hrecorded, hcode⟩ := f.basketFault_recorded (b := b) (code := 0x6003) (index := k.ringHead / 8 % 512) hp (by decide)
  rw [he, hdone, f.stall_basketFault, if_pos rfl, ← hheld]
  exact ⟨hbasket, honly.2.trans f.sameMemory_basketFault, hothers.trans f.otherStalls_basketFault, rfl, hrecorded, hcode⟩

end

end Device
end Sys2Proof.Machine

namespace Sys2Proof.Proofs

open Sys2Proof Sys2Proof.Machine

theorem exec_spillWrite (p b : Nat) (s : State) :
    exec (.spillWrite p b) s = s.act (Instr.wf (.spillWrite p b)) (fun d => d.spillWrite p b) := rfl
theorem exec_tagWrite (p b : Nat) (s : State) : exec (.tagWrite p b) s = s.act (Instr.wf (.tagWrite p b)) (fun d => d.tagWrite p b) := rfl
theorem exec_ringRead (p b : Nat) (s : State) : exec (.ringRead p b) s = s.act (Instr.wf (.ringRead p b)) (fun d => d.ringReadWord p b) := rfl
theorem exec_tagRead (p b : Nat) (s : State) : exec (.tagRead p b) s = s.act (Instr.wf (.tagRead p b)) (fun d => d.tagReadWord p b) := rfl

/-- Settles O27: the two writes, the read of an entry, and the read of a tag word, sound or lost. -/
theorem extensionRing : Obligations.ExtensionRing := by
  intro s p b k free hheld hhushed hp hb hlen hk hfree
  have hclaim : ∀ x a, free x a → s.dev.claimExt p b x a = (true, s.dev.bankTaken p a) := fun x a h =>
    s.dev.claimExt_free ((hfree x a).mp h)
  have hwf : (decide (p < 6400) && decide (b < 4)) = true := by simp [hp, hb]
  refine ⟨fun h rest hspill hat hwrote hdue hroom hring hbank => ?_, fun g hdue hwrote hbank => ?_,
    fun tags x htags hrefilled hring hchain hbank hx => ?_, fun x hring hrefilled hchain hfirst htags hbank hx => ?_⟩
  · obtain ⟨⟨w, hbasket⟩, hcode, hstore, hregs, hothers⟩ := s.dev.spillWrite_effect hk hhushed hlen hp hb
      (Basket.asks_dataWrite hspill hat hwrote hdue hroom hring) hspill (hclaim _ _ hbank) rfl
    refine Answers.of_act (exec_spillWrite ..) hwf hheld ?_
    simp only [Device.stall_settle, Device.storeCode_settle, sameStoreBut_settle, sameRegsBut_settle, otherStalls_settle, hbasket]
    exact ⟨rfl, rfl, rfl, List.length_append, k.tagDue_toRing rest w, hcode, hstore, hregs, hothers⟩
  · obtain ⟨hbasket, hrest⟩ := s.dev.tagWrite_effect hk hhushed hlen (Basket.asks_tagWrite hdue hwrote) hdue (hclaim _ _ hbank) rfl
    refine Answers.of_act (exec_tagWrite ..) hwf hheld ?_
    simp only [Device.stall_settle, Device.storeCode_settle, sameStoreBut_settle, sameRegsBut_settle, otherStalls_settle, hbasket]
    exact ⟨rfl, rfl, rfl, hrest⟩
  · obtain ⟨hbasket, hrest⟩ := s.dev.ringReadWord_effect hk hhushed hlen hp (Basket.asks_dataRead htags hrefilled hring hchain) htags
      (hclaim _ _ hbank) hx rfl
    refine Answers.of_act (exec_ringRead ..) hwf hheld ?_
    simp only [Device.stall_settle, only_settle, otherStalls_settle, hbasket]
    exact ⟨rfl, rfl, rfl, rfl, hrest⟩
  · have hask := Basket.asks_tagRead (now := s.dev.work) hring hrefilled hchain hfirst htags
    refine Answers.of_act (exec_tagRead ..) hwf hheld ?_
    simp only [Device.stall_settle, sameMemory_settle, otherStalls_settle, sameRegsBut_settle, Device.faultHeld_settle, Device.regN_settle]
    cases hspoil : x.spoil with
    | false =>
      obtain ⟨hbasket, honly, hothers⟩ := s.dev.tagReadWord_sound hk hhushed hlen hp hask (hclaim _ _ hbank) hx hspoil rfl
      rw [hbasket]
      exact ⟨rfl, rfl, honly.2, hothers, fun _ => ⟨rfl, rfl, honly.1⟩, nofun⟩
    | true =>
      obtain ⟨hbasket, hmem, hothers, hfaulting, hrecorded, hcode⟩ :=
        s.dev.tagReadWord_lost hk hhushed hlen hp hask (hclaim _ _ hbank) hx hspoil rfl
      rw [hbasket]
      exact ⟨rfl, rfl, hmem, hothers, nofun, fun _ => ⟨rfl, hfaulting, hrecorded, hcode⟩⟩

end Sys2Proof.Proofs
end

section
/-! SUPPORT. The adaptation operations: what POST advances, what the issue of one leaves, and the words of a result once its operands are read. -/

namespace Sys2Proof.Machine

/-! ### Pointers (R141, R367) -/

theorem Only.ptr_eq {l : List (Nat × Nat × Nat)} {d e : Device} {p k i : Nat} (h : Only l d e) (hp : p < 6400) (hk : k < 8) (hi : i < 4)
    (hn : (STL, p, 0x230 + 64 * k + 4 * i) ∉ l) : e.ptr p k i = d.ptr p k i := by
  have hoff : 0x200 + 64 * k + 4 * (12 + i) = 0x230 + 64 * k + 4 * i := by omega
  rw [Device.ptr, Device.ptr, Device.greg, Device.greg, hoff, h.reg_eq (by omega) (by omega) hn]

/-- A pointer after a pointer of the context is advanced. -/
theorem Device.ptr_bumpPtr (d : Device) {p k i j : Nat} (n : Nat) (hp : p < 6400) (hk : k < 8) (hi : i < 4) (hj : j < 4) :
    (d.bumpPtr p k i n).ptr p k j = if j = i then (d.ptr p k j + n) % 2 ^ 32 else d.ptr p k j := by
  rw [bumpPtr, setGreg, ptr, greg, reg_setReg _ _ (by omega) (by omega) (by omega) (by omega)]
  by_cases h : j = i
  · subst h; simp [ptr, greg]
  · rw [if_neg h, if_neg (by omega)]; rfl

/-- How far POST advances a pointer: by the block of each use of it (R367). -/
def posted (w : Nat) (l : List (Nat × Nat)) (i : Nat) : Nat := if dPost w then (l.map (fun x => if i = x.1 then x.2 else 0)).sum else 0

theorem posted_one (w j n i : Nat) : posted w [(j, n)] i = if dPost w ∧ i = j then n else 0 := by
  unfold posted
  by_cases hpost : dPost w = true
  · simp only [hpost, if_true, true_and, List.map_cons, List.map_nil, List.sum_cons, List.sum_nil, Nat.add_zero]
  · simp only [hpost, if_false, false_and, Bool.false_eq_true]

namespace Advanced

variable {p k : Nat} {m n : Nat → Nat} {a d e : Device}

theorem refl (p k : Nat) (d : Device) : Advanced p k (fun _ => 0) d d := fun i _ => (Nat.mod_eq_of_lt (d.greg p k (12 + i)).isLt).symm

theorem trans (h : Advanced p k m a d) (g : Advanced p k n d e) : Advanced p k (fun i => m i + n i) a e :=
  fun i hi => by rw [g i hi, h i hi, Nat.mod_add_mod, Nat.add_assoc]

theorem congr (h : Advanced p k m d e) (hmn : ∀ i, m i = n i) : Advanced p k n d e := funext hmn ▸ h

/-- What leaves the pointers alone does not count, before the advance or after it. -/
theorem of_same (h : Advanced p k n d e) {d' e' : Device} (hd : ∀ i, i < 4 → d.ptr p k i = d'.ptr p k i)
    (he : ∀ i, i < 4 → e'.ptr p k i = e.ptr p k i) : Advanced p k n d' e' :=
  fun i hi => by rw [he i hi, h i hi, hd i hi]

theorem bumpPtr (d : Device) {i : Nat} (n : Nat) (hp : p < 6400) (hk : k < 8) (hi : i < 4) :
    Advanced p k (fun j => if j = i then n else 0) d (d.bumpPtr p k i n) := fun j hj => by
  rw [d.ptr_bumpPtr n hp hk hi hj]
  by_cases h : j = i
  · simp only [h, if_true]
  · simpa only [h, if_false] using refl p k d j hj

theorem bumpPtrs (l : List (Nat × Nat)) (d : Device) (hp : p < 6400) (hk : k < 8) (hl : ∀ x ∈ l, x.1 < 4) :
    Advanced p k (fun i => (l.map (fun x => if i = x.1 then x.2 else 0)).sum) d (l.foldl (fun a x => a.bumpPtr p k x.1 x.2) d) := by
  induction l generalizing d with
  | nil => exact refl p k d
  | cons x l ih =>
    simp only [List.map_cons, List.sum_cons, List.foldl_cons]
    exact (bumpPtr d x.2 hp hk (hl x (by simp))).trans (ih _ (fun y hy => hl y (by simp [hy])))

theorem postBy (d : Device) (w : Nat) (l : List (Nat × Nat)) (hp : p < 6400) (hk : k < 8) (hl : ∀ x ∈ l, x.1 < 4) :
    Advanced p k (posted w l) d (d.postBy p k w l) := by
  unfold Device.postBy
  split
  · next h =>
    have hall : posted w l = fun i => (l.map (fun x => if i = x.1 then x.2 else 0)).sum := funext fun _ => if_pos h
    exact hall ▸ bumpPtrs l d hp hk hl
  · next h =>
    have hnone : posted w l = fun _ => 0 := funext fun _ => if_neg h
    exact hnone ▸ refl p k d

end Advanced

/-- POST writes no register but pointers, and no memory. -/
theorem Only.postBy (d : Device) {p k : Nat} (w : Nat) (l : List (Nat × Nat)) (hp : p < 6400) (hk : k < 8) (hl : ∀ x ∈ l, x.1 < 4) :
    Only (ptrRegs p k) d (d.postBy p k w l) := by
  unfold Device.postBy
  split
  · refine List.foldlRecOn l _ (.refl _ d) (fun a ha x hx => ha.setReg _ (by omega) (by have := hl x hx; omega) ?_)
    have := hl x hx
    exact List.mem_map.mpr ⟨x.1, by simpa using this, by simp only [Prod.mk.injEq, true_and]; omega⟩
  · exact .refl _ d

@[simp] theorem Device.stall_postBy (d : Device) (p k w : Nat) (l : List (Nat × Nat)) (q : Nat) : (d.postBy p k w l).stall q = d.stall q := by
  unfold Device.postBy
  split
  · exact List.foldlRecOn l _ (motive := fun a : Device => a.stall q = d.stall q) rfl (fun _ ha _ _ => ha)
  · rfl

/-! ### The note of a body that it has drawn (R377) -/

theorem Stall.ctx_setCtx_same (s : Stall) {k : Nat} (c : Ctx) (hk : k < 8) : (s.setCtx k c).ctx k = c := by
  simp [ctx, setCtx, upd, allCtxs, hk]

namespace Device

variable (d : Device) {p k : Nat}

theorem drew_countFiring (hk : k < 8) : (((d.countFiring p k).stall p).ctx k).drew = ((d.stall p).ctx k).drew := by
  have hctx : ((d.countFiring p k).stall p).ctx k = { (d.stall p).ctx k with fired := ((d.stall p).ctx k).fired + 1 } :=
    (congrArg (fun s => Stall.ctx s k) ((stall_setStall ..).trans (if_pos rfl))).trans (Stall.ctx_setCtx_same _ _ hk)
  rw [hctx]

theorem drew_endBody (r : CtxRecord) (hk : k < 8) : (((d.endBody p k r).stall p).ctx k).drew = ((d.stall p).ctx k).drew := by
  have hctx : ((d.endBody p k r).stall p).ctx k = { (d.stall p).ctx k with inBody := false }.bodyOver ((d.stall p).ctx k).slot true :=
    (congrArg (fun s => Stall.ctx s k) (stall_updStall_same ..)).trans (Stall.ctx_setCtx_same _ _ hk)
  rw [hctx]; rfl

/-- Wherever the program goes on, the context's note stays. -/
theorem drew_nextPc (r : CtxRecord) (hk : k < 8) : (((d.nextPc p k r none).stall p).ctx k).drew = ((d.stall p).ctx k).drew := by
  have hloops : ∀ l : List (Nat × Nat), (l.foldl (fun a e => a.setCnt p k e.1 e.2) d).stall p = d.stall p := fun l =>
    List.foldlRecOn l _ (motive := fun a : Device => a.stall p = d.stall p) rfl (fun _ ha _ _ => ha)
  unfold nextPc
  dsimp only
  split
  · rw [stall_updStall_same]; rfl
  · split
    · exact congrArg (fun s => (Stall.ctx s k).drew) (hloops _)
    · split
      · rw [drew_endBody _ r hk, hloops]
      · exact congrArg (fun s => (Stall.ctx s k).drew) (hloops _)

end Device

/-! ### The issue of an adaptation operation (R364, R367, R369, R370) -/

/-- `e` is `d` after the issue of an adaptation operation of context `k`: the reads and the result writes of the stall are those given, SEED is `seed`, and
beside what the issue keeps count of only the stages of the pipeline and the pointers that POST advances differ. -/
structure Adapted (p k w : Nat) (reads : List ReadJob) (landing : List StoreWrite) (seed : Word) (post : List (Nat × Nat)) (d e : Device) : Prop where
  stall : ∃ ctxs stages noIssue waitIn waitOut branchTo endedAt, e.stall p = { d.stall p with
    reads := reads, landing := landing, ctxs := ctxs, stages := stages, noIssue := noIssue, waitIn := waitIn, waitOut := waitOut,
    branchTo := branchTo, endedAt := endedAt }
  others : OtherStalls p d e
  only : Only ((STL, p, 0x100) :: issueRegs p k ++ ptrRegs p k) d e
  seed : e.reg STL p 0x100 = seed
  advanced : Advanced p k (posted w post) d e

namespace Adapted

variable {p k w : Nat} {reads : List ReadJob} {landing : List StoreWrite} {seed : Word} {post : List (Nat × Nat)} {d x e : Device}

/-- From the effect on the stall and on SEED, by POST and the count of the issue. -/
theorem of_counted (hx : ∃ ctxs stages, x.stall p = { d.stall p with reads := reads, landing := landing, ctxs := ctxs, stages := stages })
    (hothers : OtherStalls p d x) (honly : Only [(STL, p, 0x100)] d x) (hseed : x.reg STL p 0x100 = seed) (hp : p < 6400) (hk : k < 8)
    (hpost : ∀ y ∈ post, y.1 < 4) (h : Counted p k (x.postBy p k w post) e) : Adapted p k w reads landing seed post d e := by
  obtain ⟨_, _, hx⟩ := hx
  obtain ⟨⟨_, _, _, _, _, _, hstall⟩, hcounted, hissue⟩ := h
  have hptrs := Only.postBy x w post hp hk hpost
  refine ⟨⟨_, _, _, _, _, _, _, by rw [hstall, Device.stall_postBy, hx]⟩, fun q hq => ?_,
    ((honly.mono (by simp)).trans (hptrs.mono (by simp +contextual))).trans (hissue.mono (by simp +contextual)), ?_, ?_⟩
  · rw [hcounted q hq, Device.stall_postBy, hothers q hq]
  · rw [hissue.reg_eq (by omega) (by omega) (by simp [issueRegs]; omega), hptrs.reg_eq (by omega) (by omega) (by simp [ptrRegs]; omega), hseed]
  · exact (Advanced.postBy x w post hp hk hpost).of_same (fun i hi => honly.ptr_eq hp hk hi (by simp; omega))
      (fun i hi => hissue.ptr_eq hp hk hi (by simp [issueRegs]; omega))

theorem settle (h : Adapted p k w reads landing seed post d e) : Adapted p k w reads landing seed post d e.settle := by
  obtain ⟨hstall, hothers, honly, hseed, hadvanced⟩ := h
  refine ⟨by simpa only [Device.stall_settle] using hstall, (otherStalls_settle ..).mpr hothers, (only_settle ..).mpr honly,
    (Device.reg_settle ..).trans hseed, hadvanced.of_same (fun _ _ => rfl) (fun i _ => ?_)⟩
  rw [Device.ptr, Device.ptr, Device.greg, Device.greg, Device.reg_settle]

/-- What every adaptation operation leaves alone once it is queued: it holds off the next one, and touches neither queues nor the array. -/
theorem frame (h : Adapted p k w reads landing seed post d e) (hadapting : Stall.adapting { reads := reads, landing := landing } = true) :
    (e.stall p).adapting = true ∧ (e.stall p).outq = (d.stall p).outq ∧ (e.stall p).baskets = (d.stall p).baskets
      ∧ Only ((STL, p, 0x100) :: issueRegs p k ++ ptrRegs p k) d e ∧ SameFeeds p d e ∧ SameAccs p d e ∧ OtherStalls p d e := by
  obtain ⟨⟨_, _, _, _, _, _, _, hstall⟩, hothers, honly, -, -⟩ := h
  simp only [SameFeeds, SameAccs, hstall, true_and, and_true]
  exact ⟨hadapting, honly, hothers⟩

theorem reads_eq (h : Adapted p k w reads landing seed post d e) : (e.stall p).reads = reads := by
  obtain ⟨_, _, _, _, _, _, _, hstall⟩ := h.stall; rw [hstall]

theorem landing_eq (h : Adapted p k w reads landing seed post d e) : (e.stall p).landing = landing := by
  obtain ⟨_, _, _, _, _, _, _, hstall⟩ := h.stall; rw [hstall]

end Adapted

/-- Work for the pipeline changes nothing but the stages of the stall. -/
theorem Device.addStages_frame (d : Device) (p lat : Nat) (l : List Stage) : (∃ stages, (d.addStages p lat l).stall p = { d.stall p with stages := stages })
    ∧ OtherStalls p d (d.addStages p lat l) ∧ Only [] d (d.addStages p lat l) := by
  unfold addStages
  split
  · exact ⟨⟨_, rfl⟩, fun _ _ => rfl, .refl _ d⟩
  · exact ⟨⟨_, stall_updStall_same ..⟩, d.otherStalls_updStall _ _, (Only.refl _ d).updStall p rfl⟩

theorem dPa_lt (w : Nat) : dPa w < 4 := Nat.mod_lt _ (by decide)
theorem dPd_lt (w : Nat) : dPd w < 4 := Nat.mod_lt _ (by decide)
theorem dPx_lt (w : Nat) : dPx w < 4 := Nat.mod_lt _ (by decide)

/-- The issue of an operation that queues its result: the words are to be written in cycle `due`, and SEED is as it was. -/
theorem Adapted.queued {d : Device} {p op k w lat due : Nat} {r : CtxRecord} {needs : Device → Nat → CtxRecord → Nat → Needs}
    {eff : Device → Nat → CtxRecord → Nat → Device} {stages : List Stage} {addrs : List Nat} {ws : List DWord} {bad : Bool} {post : List (Nat × Nat)}
    (hp : p < 6400) (hgoes : Goes d p k r (needs d k r w)) (hdue : IssueDue d p op k r w) (hlater : (needs d k r w).now_ = false)
    (heff : eff d k r w = ((d.addStages p lat stages).adaptWrite p due addrs ws bad).postBy p k w post) (hpost : ∀ y ∈ post, y.1 < 4) :
    Adapted p k w (d.stall p).reads ((d.stall p).landing ++ [⟨due, (addrs.zip ws).map (fun x => (x.1, x.2, bad)), true⟩])
      (d.reg STL p 0x100) post d (d.issue p op needs eff noBranch) := by
  have hcounted := Counted.issue eff hp hdue hgoes hlater
  rw [heff] at hcounted
  obtain ⟨⟨after, hstages⟩, hothers, honly⟩ := d.addStages_frame p lat stages
  refine of_counted ⟨(d.stall p).ctxs, after, ?_⟩ ?_ ((honly.mono (by simp)).updStall p rfl) ?_ hp hdue.lt hpost hcounted
  · rw [Device.stall_updStall_same, hstages]
  · exact hothers.trans (Device.otherStalls_updStall _ _ _)
  · exact honly.reg_eq (by omega) (by omega) (by simp)

/-- The issue of an operation that draws: its reads are queued from cycle t + 1 on, SEED is as 32 draws leave it, and the body has drawn. -/
theorem Adapted.drawn {d : Device} {p op k w : Nat} {r : CtxRecord} {needs : Device → Nat → CtxRecord → Nat → Needs}
    {eff : Device → Nat → CtxRecord → Nat → Device} {job : ReadOp} {cycles : List (List (Nat × Nat))} {post : List (Nat × Nat)} (hp : p < 6400)
    (hgoes : Goes d p k r (needs d k r w)) (hdue : IssueDue d p op k r w) (hlater : (needs d k r w).now_ = false)
    (heff : eff d k r w = ((d.draw32 p k).2.readLater p k job cycles).postBy p k w post) (hpost : ∀ y ∈ post, y.1 < 4) :
    Adapted p k w ((d.stall p).reads ++ [⟨d.work + 1, k, job, cycles.map (fun c => c.map (fun x => (x.1, x.2 % 8192))), []⟩])
        (d.stall p).landing (draws 32 (d.reg STL p 0x100)).2 post d (d.issue p op needs eff noBranch)
      ∧ (((d.issue p op needs eff noBranch).stall p).ctx k).drew = true := by
  have hdrawn : ((d.draw32 p k).2.readLater p k job cycles).stall p =
      { (d.stall p).setCtx k { (d.stall p).ctx k with drew := true } with
        reads := (d.stall p).reads ++ [⟨d.work + 1, k, job, cycles.map (fun c => c.map (fun x => (x.1, x.2 % 8192))), []⟩] } := by
    rw [Device.readLater, Device.stall_updStall_same, Device.draw32, Device.stall_updStall_same]; rfl
  have hcounted := Counted.issue eff hp hdue hgoes hlater
  rw [heff] at hcounted
  constructor
  · refine of_counted ⟨_, (d.stall p).stages, hdrawn⟩ ?_ ?_ ?_ hp hdue.lt hpost hcounted
    · exact (Device.otherStalls_updStall (d.setReg STL p 0x100 _) p _).trans (Device.otherStalls_updStall _ _ _)
    · exact (((Only.refl _ d).setReg _ (by omega) (by omega) (by simp)).updStall p rfl).updStall p rfl
    · exact Device.reg_setReg_same ..
  · rw [d.issue_goes eff hdue hgoes, d.afterClaim_later p r hlater, Device.drew_nextPc _ r hdue.lt, Device.drew_countFiring _ hdue.lt, heff,
      Device.stall_postBy, hdrawn]
    exact congrArg Ctx.drew (Stall.ctx_setCtx_same (d.stall p) _ hdue.lt)

/-! ### Results (R369, R372) -/

theorem Recorded.sat (d : Device) (p n : Nat) : Recorded d (d.sat p n) := by
  unfold Device.sat
  exact ite (refl d) (ite ((bumpBy _ _ _ _ _ (by decide)).trans (raise ..)) (bumpBy _ _ _ _ _ (by decide)))

theorem Device.landing_adaptWrite (d : Device) (p due : Nat) (addrs : List Nat) (ws : List DWord) (bad : Bool) :
    ((d.adaptWrite p due addrs ws bad).stall p).landing
      = (d.stall p).landing ++ [⟨due, (addrs.zip ws).map (fun x => (x.1, x.2, bad)), true⟩] := by
  rw [adaptWrite, stall_updStall_same]

theorem Device.landing_momentDone (d : Device) (p : Nat) (second : Bool) (shift : Nat) (rs dst : List Nat) (got : List (DWord × Bool)) :
    ((d.momentDone p second shift rs dst got).stall p).landing = (d.stall p).landing ++ [⟨d.work + 1,
      (dst.zip (momentBlock second shift rs (got.map (fun x => x.1))).1).map (fun x => (x.1, x.2, got.any (fun y => y.2))), true⟩] := by
  rw [momentDone, landing_adaptWrite, (Recorded.sat ..).stall_eq]

theorem Device.landing_wupdDone (d : Device) (p : Nat) (g10 g11 : Word) (rs dst : List Nat) (got : List (DWord × Bool)) {b : List DWord}
    (hb : b = (wupdResult g10 g11 rs (got.map (fun x => x.1))).1) :
    ((d.wupdDone p g10 g11 rs dst got).stall p).landing = (d.stall p).landing ++
      [⟨d.work, ((wupdHalf false dst).zip (wupdHalf false b)).map (fun x => (x.1, x.2, got.any (fun y => y.2))), true⟩,
       ⟨d.work + 1, ((wupdHalf true dst).zip (wupdHalf true b)).map (fun x => (x.1, x.2, got.any (fun y => y.2))), true⟩] := by
  subst hb
  rw [wupdDone, landing_adaptWrite, landing_adaptWrite, (Recorded.sat ..).stall_eq, List.append_assoc]
  rfl

end Sys2Proof.Machine

namespace Sys2Proof.Proofs

open Sys2Proof Sys2Proof.Machine

theorem exec_g8p (p : Nat) (s : State) :
    exec (.g8p p) s = s.act (Instr.wf (.g8p p)) (fun d => d.issue p 0x18 (g8pNeeds p) (g8pEffect p) noBranch) := rfl
theorem exec_wupd (p : Nat) (s : State) :
    exec (.wupd p) s = s.act (Instr.wf (.wupd p)) (fun d => d.issue p 0x1B (wupdNeeds p) (wupdEffect p) noBranch) := rfl

/-- M8U and V8U differ in the opcode and in the operation that is queued alone. -/
theorem exec_moment {p op : Nat} {c : Instr} {second : Bool} (s : State)
    (h : (c, op, second) ∈ [(Instr.m8u p, 0x19, false), (Instr.v8u p, 0x1A, true)]) :
    exec c s = s.act (Instr.wf c) (fun d => d.issue p op (momentNeeds p) (momentEffect second p) noBranch) ∧ Instr.wf c = decide (p < 6400) := by
  simp only [List.mem_cons, Prod.mk.injEq, List.not_mem_nil, or_false] at h
  rcases h with ⟨rfl, rfl, rfl⟩ | ⟨rfl, rfl, rfl⟩
  · exact ⟨rfl, rfl⟩
  · exact ⟨rfl, rfl⟩

/-- Settles O23: the issue of G8P, of M8U and V8U, and of WUPD, then the results of the operations that read. -/
theorem adaptationResults : Obligations.AdaptationResults := by
  refine ⟨fun s p k w r Q hheld hp hQ => ⟨fun l b hl hb hgoes hdue => ?_, fun c op second hc hgoes hdue => ?_,
      fun dst words hdst hwords hgoes hdue => ?_⟩,
    fun d p dst rs got bad hbad => ⟨fun second shift b hb => ?_, fun g10 g11 b hb => ?_⟩⟩
  · subst hl hb
    have h := (Adapted.queued (eff := g8pEffect p) (post := [(dPd w, 5)]) hp hgoes hdue rfl rfl (by simp [dPd_lt])).settle
    refine Answers.of_act (exec_g8p p s) (by simp [Instr.wf, hp]) hheld ?_
    rw [hQ]
    exact ⟨h.landing_eq, h.reads_eq, h.seed, h.advanced.congr (fun i => posted_one w (dPd w) 5 i), h.frame (by simp [Stall.adapting])⟩
  · obtain ⟨hexec, hwf⟩ := exec_moment s hc
    obtain ⟨h, hdrew⟩ := Adapted.drawn (eff := momentEffect second p) (post := [(dPa w, 5), (dPd w, 5)]) hp hgoes hdue rfl rfl
      (by simp [dPa_lt, dPd_lt])
    replace h := h.settle
    refine Answers.of_act hexec (by simp [hwf, hp]) hheld ?_
    rw [hQ]
    refine ⟨h.reads_eq.trans ?_, h.landing_eq, h.seed, by rwa [Device.stall_settle], h.advanced.congr (by simp [posted]),
      h.frame (by simp [Stall.adapting])⟩
    -- the shift that the operation takes, and the words of its two blocks by number
    cases second with
    | false => rfl
    | true => rfl
  · subst hdst hwords
    obtain ⟨h, hdrew⟩ := Adapted.drawn (eff := wupdEffect p) (post := [(dPa w, 5), (dPx w, 5), (dPd w, 4)]) hp hgoes hdue rfl rfl
      (by simp [dPa_lt, dPx_lt, dPd_lt])
    replace h := h.settle
    refine Answers.of_act (exec_wupd p s) (by simp [Instr.wf, hp]) hheld ?_
    rw [hQ]
    exact ⟨h.reads_eq, h.landing_eq, h.seed, by rwa [Device.stall_settle], h.advanced.congr (by simp [posted, Nat.add_assoc]),
      h.frame (by simp [Stall.adapting])⟩
  · rw [hb, hbad]; exact d.landing_momentDone ..
  · rw [hbad]; exact d.landing_wupdDone _ _ _ _ _ _ hb

end Sys2Proof.Proofs
end
